-- ==== Sys2Proof/Word.lean ====
section
/-! DEFINITION. Word.lean: the octet and the plainest number facts about words. -/
namespace Sys2Proof

/-- One octet, as frames, packets and memory hold it. -/
abbrev Byte := BitVec 8

/-- A sequence of octets, first octet first. -/
abbrev Octets := List Byte

end Sys2Proof
end

