-- ==== Sys2Proof/Syntax.lean ====
section
/-! DEFINITION. Syntax.lean: the commands of the block, one constructor per row of the command table, each with what
the environment observes or sends. `t` is the island-11 time of the command in ns. -/
namespace Sys2Proof

/-- The path an Aqlet frame came by (R404). -/
inductive Path where
  | raster
  | network
  deriving DecidableEq, Repr

/-- A 66-bit block on the line (R77): its sync header as 49.2.4 writes it (1 data, 2 control, 0 and 3 invalid), and its 64
scrambled payload bits, the first carried in bit 0. -/
structure LineBlock where
  sync : Nat
  data : Nat
  deriving DecidableEq, Repr

/-- What one receive lane has carried since it was last reported: blocks with a valid sync header whose content does not
matter, then the 58 line bits before `blocks` (none: those that the receiver holds), then blocks. -/
structure LaneRun where
  clean  : Nat
  last   : Option Nat
  blocks : List LineBlock
  deriving DecidableEq, Repr

/-- What the 8 receive lanes have carried, aligned block by block, and how many columns the chip's clock has taken out of the
elastic buffer in the time of each column received, 1 where the list ends (R82). -/
structure Reception where
  lanes  : List LaneRun
  drains : List Nat
  deriving DecidableEq, Repr

/-- What a lane test finds (R97): the sync-header errors and `BIP8` mismatches seen, and the eye figure. -/
structure LaneTest where
  errors : Nat
  eye    : Nat
  deriving DecidableEq, Repr

/-- One Aqlet request as it arrives (R404, R405): its path, its source MAC address and switch port (0 on the raster
link), its VLAN tag (4 octets or none), the island-11 time of its timestamp point in ns, and its octets from header to
`TAG`. On the raster link the octets are those of the CTRL packet that the lanes carry (R86). -/
structure Request where
  path  : Path
  src   : Nat
  port  : Nat
  vlan  : Octets
  rx    : Nat
  frame : Octets
  lanes : Reception
  deriving DecidableEq, Repr

/-- The levels of the inputs A and B of a position channel from one sample on, and for how many ns they then hold (R39,
Table 02-1). -/
structure Levels where
  a    : Bool
  b    : Bool
  held : Nat
  deriving DecidableEq, Repr

/-- The clock whose loss Table 01-8 handles. -/
inductive Clock where
  | fclk
  /-- The PLL of one island, 1, 2, 5, 6, 9 or 11. -/
  | pll (island : Nat)
  /-- REFCLK0 or REFCLK1. -/
  | refclk (n : Nat)
  /-- The D-PHY clock lane of a camera port, and whether it was in high-speed mode (R29). -/
  | camera (port : Nat) (highSpeed : Bool)
  | tsclk
  deriving DecidableEq, Repr

/-- The firmware pairs of Table 01-10. -/
inductive PairId where
  | supervisor
  | inspection
  | motion
  deriving DecidableEq, Repr

/-- One lane of a received AM column (R79, R80): the even parity over its payload bits since the AM before, as Table 03-3
counts them, and its skew in block positions. -/
structure AmLane where
  parity : Nat
  skew   : Nat
  deriving DecidableEq, Repr

/-- A request of a DRAM port (Table 04-8): its port, whether it writes, when it came, its channel and its granule of 64 bytes
there, and the rank, the bank of the granule's bank group (R114) and the row that hold the granule. -/
structure DramRequest where
  port    : Nat
  write   : Bool
  came    : Nat
  channel : Nat
  granule : Nat
  rank    : Nat
  bank    : Nat
  row     : Nat
  deriving DecidableEq, Repr

/-- What has passed at one subchannel since its last refresh fell due: the requests of the ports, and the times at which a data
burst of 64 bytes ended. -/
structure DramTraffic where
  requests : List DramRequest
  bursts   : List Nat
  deriving DecidableEq, Repr

/-- What a training finds (R143, R144): per channel whether each of the seven steps succeeds, the eyes of Table 04-17, and the
initial and maximum activation thresholds of the devices where their mode registers ask for refresh management (R132). -/
structure Training where
  steps : List (List Bool)
  eyes  : List Nat
  rfm   : Option (Nat × Nat)
  deriving DecidableEq, Repr

/-- A frame that enters the switch (R375): its SGMII port, 1 or 2, whether its FCS is right, its octets without the FCS,
the residence time in the switch, or the turnaround of a Pdelay_Req, in 2⁻¹⁶ ns (R385), and the ports whose egress
queue for it is full (R376). -/
structure NetFrame where
  port      : Nat
  fcsOk     : Bool
  data      : Octets
  residence : Nat
  full      : List Nat
  deriving DecidableEq, Repr

/-- How a motion command reaches an axis (R350): as the next descriptor of ring 12, or in an Aqlet write of `COMMAND`. -/
inductive MotionSource where
  | ring
  | write (rq : Request)
  deriving DecidableEq, Repr

/-- What the boot ROM and the first steps of a start-up find (Table 17-4, R457): whether the preferred and the other image
boot, per calibration set whether its CRC is right (R515), and the identities whose saved health map fails its CRC (R208). -/
structure BootReport where
  preferredOk : Bool
  otherOk     : Bool
  calOk       : List Bool
  badMaps     : List Octets
  deriving DecidableEq, Repr

/-- What start-up has found when it completes: `TRAIN_RESULT` and the eye figures of both DRAM channels (R143, Table
04-17), and the polders whose self-test failed, 16 polder S (R196). -/
structure StartupReport where
  train  : Training
  failed : List Nat
  deriving DecidableEq, Repr

/-- What the chip's checks of a received image find (R465): its CRC-32C, its signature, and the version it carries. -/
structure ImageCheck where
  crcOk       : Bool
  signatureOk : Bool
  version     : Nat
  deriving DecidableEq, Repr

/-- The checks of a request that carries no image. -/
def ImageCheck.none : ImageCheck := { crcOk := false, signatureOk := false, version := 0 }

/-- The commands of the ORN-5120: one per row of the command table. -/
inductive Instr where
  /-- CROSSING_STALL (R28): A crossing holds a request unacknowledged for 20 µs, so the dike watch treats the crossing's block as failed. -/
  | crossingStall (t island : Nat)
  /-- ISLAND_CLOCK_LOST (R30): A watched island clock shows no edge for 200 ns, and the chip handles the loss as Table 01-8 gives. -/
  | islandClockLost (t : Nat) (clock : Clock)
  /-- CLOCK_RATIO_CHECK (R29): Every 1 ms the chip compares FCLK with TSCLK and raises CLOCK_RATIO_BAD when they differ by more than 500 ppm. -/
  | clockRatioCheck (t deviationPpm : Nat)
  /-- PACE_METER_WINDOW (R32): Each 1 ms window ends, and the chip refreshes every pace figure. -/
  | paceMeterWindow (t : Nat) (figures : List Nat)
  /-- FW_PAIR_MISMATCH (R36): The processors of a pair disagree, so the comparator stops the pair and a restart from flash begins. -/
  | fwPairMismatch (t : Nat) (pair : PairId)
  /-- FW_PAIR_RESTART_DONE (R36): A firmware pair completes its restart from the running image, and the doorbells waiting for it are raised again. -/
  | fwPairRestartDone (t : Nat) (pair : PairId)
  /-- BREACH_ESCALATED (R477): A fault that its level cannot absorb reaches the next level up, and at level 3 the chip enters SAFE-HOLD. -/
  | breachEscalated (t region fromLevel : Nat)
  /-- HEARTBEAT_MISSING (R478): Three consecutive heartbeats of a region are missing, so the root dike watch treats the region as lost by R22. -/
  | heartbeatMissing (t region : Nat)
  /-- ROOT_WATCH_MISMATCH (R479): The two copies of the root dike watch disagree, which is a fault at breach level 3. -/
  | rootWatchMismatch (t : Nat)
  /-- POSITION_EDGE (R40): An accepted count edge of a position channel updates the count, the speed, the high-water mark and the depth. -/
  | positionEdge (t ch : Nat) (x : Levels)
  /-- ENC_QUAD_ERROR (R42): A and B change in the same sample, so the chip holds the count, counts the error and may declare the channel failed. -/
  | encQuadError (t ch held : Nat)
  /-- UP_DOWN_SAME_SAMPLE (R43): An UP edge and a DOWN edge fall in the same sample in format 2 and count as no edge. -/
  | upDownSameSample (t ch held : Nat)
  /-- COUNT_PRESET_WRITE (R45): A write of COUNT_PRESET loads the count and the high-water mark and re-arms the index checks. -/
  | countPresetWrite (t : Nat) (rq : Request)
  /-- FORMAT_WRITE (R69): A write of FORMAT clears FAILED, and a recovered channel becomes the checking channel. -/
  | formatWrite (t : Nat) (rq : Request)
  /-- INDEX_EVENT (R47): An index arrives, and the chip latches count and time and compares the count change with INDEX_NOMINAL. -/
  | indexEvent (t ch held : Nat) (edge : Option Levels)
  /-- INDEX_MISSING (R49): The count advances more than 1.5 × INDEX_NOMINAL without an index, so the chip raises INDEX_MISSING. -/
  | indexMissing (t ch : Nat)
  /-- WHEEL_EDGE (R51): A rising edge on WHEELn is timed, and the chip looks for the reference gap or the extra tooth. -/
  | wheelEdge (t ch held : Nat) (edge : Option Levels)
  /-- WEB_STANDSTILL (R55): No edge arrives for STANDSTILL_MS, so the speed becomes 0 and STANDSTILL is set. -/
  | webStandstill (t ch : Nat)
  /-- SLOT_COMMIT (R58): A slot is committed 200 ns before its predicted time, and takes its pulse entry, band and thermal state. -/
  | slotCommit (t die row : Nat)
  /-- SLOT_START (R229): A committed slot reaches its firing time, and its strobe burst starts. -/
  | slotStart (t die row : Nat)
  /-- XCHECK_WINDOW_END (R67): A cross-check window ends, and the chip compares the net motion of the active and checking channels. -/
  | xcheckWindowEnd (t : Nat)
  /-- XCHECK_EARLY_DISAGREE (R67): One channel moves a net 64 lines while the other shows STANDSTILL, so the window disagrees at once. -/
  | xcheckEarlyDisagree (t : Nat)
  /-- RX_AM_COLUMN (R80): An AM column is received, and the chip aligns the lanes, checks BIP8 and checks the lane numbers. -/
  | rxAmColumn (t : Nat) (x : Reception) (lanes : List AmLane)
  /-- LANE_FAIL (R101): An active lane fails by R101, and the chip sends an ORDER for a new mask. -/
  | laneFail (t : Nat) (x : Reception)
  /-- RESIZE_SWITCH (R102): The TARGET_AM column arrives, and both ends stripe with the new mask. -/
  | resizeSwitch (t : Nat)
  /-- RX_LINK_ACK (R102): The host's ACK of an ORDER is received. -/
  | rxLinkAck (t : Nat) (x : Reception)
  /-- RX_LINK_REPORT (R101): The host's REPORT of the lanes it receives without fault is received. -/
  | rxLinkReport (t : Nat) (x : Reception)
  /-- RX_LINK_RETRAIN (R94): A LINK block with OP 04h is received, and the link enters RETRAIN. -/
  | rxLinkRetrain (t : Nat) (x : Reception)
  /-- RX_BLOCK_PACKET (R155): A BLOCK packet is delivered, and its block is written and queued for verification. -/
  | rxBlockPacket (t : Nat) (x : Reception)
  /-- PAGE_OPEN (R115): A PAGE packet with OP OPEN is checked and, when accepted, reserves space and opens the page. -/
  | pageOpen (t : Nat) (x : Reception)
  /-- PAGE_COMMIT (R158): A COMMIT is processed once earlier blocks are verified, and queues the page when every block is resident. -/
  | pageCommit (t : Nat) (x : Reception)
  /-- PAGE_ABORT (R116): A PAGE packet with OP ABORT removes an open or queued page, or cuts a firing page after the firing line. -/
  | pageAbort (t : Nat) (x : Reception)
  /-- PAGE_OP_INVALID (R115): A PAGE packet with an unknown OP is refused with 04000106h. -/
  | pageOpInvalid (t : Nat) (x : Reception)
  /-- MEM_WRITE (R87): A MEM WRITE writes the host window, and is answered only when it fails. -/
  | memWrite (t : Nat) (x : Reception)
  /-- MEM_READ (R87): A MEM READ is answered with DATA or ERROR. -/
  | memRead (t : Nat) (x : Reception)
  /-- RX_CREDIT (R90): A CREDIT packet updates the acknowledgement and the credit limits, and may mark a host reset. -/
  | rxCredit (t : Nat) (x : Reception)
  /-- RX_NACK (R93): A NACK is received, and the chip resends from EXPECT_SEQ onward. -/
  | rxNack (t : Nat) (x : Reception)
  /-- RX_ECHO_REQUEST (R88): An ECHO request is received, and the chip sends the reply within 2 µs. -/
  | rxEchoRequest (t : Nat) (x : Reception)
  /-- RX_ECHO_REPLY (R88): An ECHO reply is received, and the chip records the round trip in ECHO_RTT_NS. -/
  | rxEchoReply (t : Nat) (x : Reception)
  /-- RX_PACKET_BAD (R94): A packet with a bad HCRC or LCRC, a malformed layout or a credit overrun is discarded and NACKed. -/
  | rxPacketBad (t : Nat) (x : Reception)
  /-- ECHO_TIMER (R88): In UP, the chip sends an ECHO request every 100 ms. -/
  | echoTimer (t : Nat)
  /-- CREDIT_TIMER (R92): In UP, the chip sends a CREDIT at least every 50 µs. -/
  | creditTimer (t : Nat)
  /-- REPLAY_TIMEOUT (R93): ACK_SEQ has not advanced for REPLAY_TIMEOUT_US, so the sender resends from the oldest unacknowledged packet. -/
  | replayTimeout (t : Nat)
  /-- DETECT_LOCKED (R99): Block lock and valid TRN hold for 1 ms on a lane, and the link enters ALIGN. -/
  | detectLocked (t : Nat) (x : Reception)
  /-- DETECT_TIMEOUT (R99): 100 ms pass in DETECT without lock, so the equalisers are reset and DETECT restarts. -/
  | detectTimeout (t : Nat)
  /-- ALIGN_TIMEOUT (R99): No lane passes index 0 within 50 ms, so the link returns to DETECT. -/
  | alignTimeout (t : Nat)
  /-- RATE_SWITCH (R96): The TRN countdown reaches 0, and both ends switch rate. -/
  | rateSwitch (t : Nat)
  /-- LANE_TEST_END (R97): A lane test at a rate ends, and the chip steps up or chooses rate and width by R98. -/
  | laneTestEnd (t : Nat) (x : Reception) (tests : List LaneTest)
  /-- RETRAIN_END (R99): Retraining ends with a passing lane, so the link returns to UP, or after 40 ms without one, so it returns to DETECT with LINK_DOWN. -/
  | retrainEnd (t : Nat) (x : Reception) (tests : List LaneTest)
  /-- LANE_RETEST (R104): A failed lane is retested once per 1 s, and it becomes standby when it passes. -/
  | laneRetest (t lane : Nat) (x : Reception) (test : LaneTest)
  /-- ENABLE_WRITE (R95): A write of ENABLE moves the link to DISABLED, or to DETECT with reset link state. -/
  | enableWrite (t : Nat) (rq : Request)
  /-- RETRAIN_WRITE (R99): A write of 1 to RETRAIN moves the link to RETRAIN. -/
  | retrainWrite (t : Nat) (rq : Request)
  /-- LOOP_WRITE (R105): A write of LOOP in TEST enters or leaves a test loop. -/
  | loopWrite (t : Nat) (rq : Request)
  /-- PRBS_RUN_WRITE (R105): A write of PRBS_RUN in TEST starts the PRBS31 generator and checker and clears the error counts. -/
  | prbsRunWrite (t : Nat) (rq : Request)
  /-- PAGE_RELEASE (R118): The firing line passes a page's end plus D, and the page is released with a RELEASED record. -/
  | pageRelease (t stream tag : Nat)
  /-- BAND_FREE (R118): The firing line passes a band's last line plus D, and the band's granules are freed. -/
  | bandFree (t stream tag : Nat)
  /-- FREEBOARD_UPDATE (R122): Every 100 µs the chip refreshes freeboard in lines and in milliseconds. -/
  | freeboardUpdate (t : Nat)
  /-- DRAM_REFRESH (R130): A refresh falls due, and the controller issues it, postpones it or forces it. -/
  | dramRefresh (t channel sub rank : Nat) (traffic : DramTraffic)
  /-- DRAM_TEMP_POLL (R130): Every 16 ms the controller reads the devices' refresh-rate status and sets tREFI. -/
  | dramTempPoll (t : Nat) (hot : Bool)
  /-- DRAM_ROW_THROTTLE (R133): A row's activation count reaches ROW_ACT_LIMIT, so the controller issues refresh management and throttles the port. -/
  | dramRowThrottle (t channel sub rank bank row : Nat)
  /-- DRAM_RFM_THRESHOLD (R132): A bank's rolling activation count reaches the device threshold, and the controller issues refresh management. -/
  | dramRfmThreshold (t channel sub rank bank : Nat)
  /-- DRAM_CE (R134): A read finds a correctable error, and the controller corrects it and writes it back. -/
  | dramCe (t channel address : Nat) (flips : List (Nat × Nat))
  /-- DRAM_UE (R135): A read finds an uncorrectable error, handled by consumer as Table 04-9 gives. -/
  | dramUe (t channel port address : Nat) (flips : List (Nat × Nat)) (mirrorOk : Bool)
  /-- DRAM_WRITE_CRC_ERROR (R110): A device reports a write CRC error, and the controller retries the write. -/
  | dramWriteCrcError (t channel retries : Nat)
  /-- SCRUB_PASS (R136): Port 9 reads and checks every granule once per SCRUB_HOURS. -/
  | scrubPass (t : Nat)
  /-- MIRROR_BAND (R137): A band's first line comes within the mirror horizon, and its blocks are copied to the other channel. -/
  | mirrorBand (t stream tag band : Nat)
  /-- DRAM_CHANNEL_LOST (R139): A channel is declared lost, and the chip reissues requests, marks blocks missing and sends RESEND records. -/
  | dramChannelLost (t channel : Nat)
  /-- CHANNEL_RESTORE_WRITE (R142): A write of CHANNEL_RESTORE starts training and refilling the lost channel. -/
  | channelRestoreWrite (t : Nat) (rq : Request)
  /-- DRAM_CHANNEL_RESTORED (R142): The restored channel is trained and refilled, and returns to service. -/
  | dramChannelRestored (t channel : Nat) (eyes : List Nat)
  /-- DQS_DRIFT_CHECK (R145): Every 100 ms the chip reads the DQS oscillators and adjusts write timing when the drift exceeds 1/32 UI. -/
  | dqsDriftCheck (t channel : Nat) (drift : Int) (eye : Nat)
  /-- TRAIN_WRITE (R145): A write of 1 to TRAIN in SERVICE retrains both channels. -/
  | trainWrite (t : Nat) (rq : Request) (found : Training)
  /-- BLOCK_VERIFY (R155): The verifier finishes a block, which becomes resident or is refused, and frees its credit. -/
  | blockVerify (t stream : Nat)
  /-- PIXEL_BITS_WRITE (R160): A write of 3100h:02 aborts every open and queued page. -/
  | pixelBitsWrite (t : Nat) (rq : Request)
  /-- CODEC_COMPRESS (R161): A COMPRESS descriptor is taken from ring 3, and the job codes its raw rectangle. -/
  | codecCompress (t : Nat) (mismatches : List Nat)
  /-- CODEC_DECOMPRESS (R167): A DECOMPRESS descriptor is taken, its output guard is checked, and the job decodes its blocks. -/
  | codecDecompress (t : Nat)
  /-- CODEC_COPY (R166): A COPY descriptor is taken, and the job copies page blocks into another page. -/
  | codecCopy (t : Nat)
  /-- CODEC_JOB_END (R169): A codec job ends, its blocks become resident or none do, and a completion record goes on ring 4. -/
  | codecJobEnd (t job elapsedUs : Nat)
  /-- LOG_SEQ_WRITE (R170): A write of LOG_SEQ marks the refusal-log entries up to it as read. -/
  | logSeqWrite (t : Nat) (rq : Request)
  /-- SLUICE_ADMIT_BAND (R173): A stream has a free band buffer and its band's blocks are resident, so the sluice reads and delivers them. -/
  | sluiceAdmitBand (t polder stream : Nat) (faults : List (Nat × Bool))
  /-- SLUICE_STARVE_LINE (R175): The lowest lane FIFO of a waiting stream falls to 32 lines, so the sluice admits one blank line. -/
  | sluiceStarveLine (t polder stream : Nat) (faults : List (Nat × Bool))
  /-- POLDER_COMPOSE_LINE (R214): A stream composes one web line into lane lines when its lane FIFOs have room. -/
  | polderComposeLine (t polder stream : Nat) (traceLost : Bool)
  /-- SEEP_WINDOW (R217): A 1 s window ends, and the chip judges SEEPAGE_HIGH and DROPS_LOST. -/
  | seepWindow (t : Nat)
  /-- POLDER_FAULT (R188): A fault report reaches a polder's dike watch, and leads to a takeover, a return or SAFE-HOLD. -/
  | polderFault (t polder cause : Nat)
  /-- POLDER_STALL (R189): A handshake stays unacknowledged for HANDSHAKE_TIMEOUT_US, so the polder is declared stalled. -/
  | polderStall (t polder : Nat)
  /-- TAKEOVER_CONNECT (R192): Polder S finishes loading and replay, connects, and writes the first lane line after w(k). -/
  | takeoverConnect (t : Nat)
  /-- FORCE_TAKEOVER_WRITE (R199): A write of FORCE_TAKEOVER starts a takeover of the named polder with cause 5. -/
  | forceTakeoverWrite (t : Nat) (rq : Request)
  /-- SHADOW_NEXT (R190): A shadow period of SHADOW_LINES ends, and polder S joins the next fitted polder. -/
  | shadowNext (t : Nat)
  /-- SHADOW_MISMATCH (R191): A shadowed lane line differs, the line is replayed, and either polder is blamed. -/
  | shadowMismatch (t : Nat) (same : Bool)
  /-- POLDER_SELF_TEST_DONE (R196): An isolated polder's self-test ends, and the polder becomes READY_RETURN, STANDBY or HELD. -/
  | polderSelfTestDone (t polder : Nat) (passed : Bool)
  /-- RETURN_POLDER_WRITE (R197): A write of RETURN_POLDER stages the polder's return at a tide line. -/
  | returnPolderWrite (t : Nat) (rq : Request)
  /-- POLDER_RETURNED (R197): Both streams reach T, and the returning polder composes again while polder S goes to STANDBY. -/
  | polderReturned (t polder : Nat)
  /-- DIES_WRITE (R15): A write of DIES sets the fitted dies and moves polders and die links into or out of service. -/
  | diesWrite (t : Nat) (rq : Request)
  /-- HEALTH_COMMIT_STAGE (R203): Within 100 ms of the staged health map first differing, the supervisor stages a health commit. -/
  | healthCommitStage (t : Nat)
  /-- HEALTH_MAP_SAVE (R208): Within 10 s of a commit, the supervisor writes the in-force map to flash. -/
  | healthMapSave (t : Nat)
  /-- COLUMN_HEALTH_WRITE (R206): A write of COLUMN_HEALTH changes the staged map for 16 columns. -/
  | columnHealthWrite (t : Nat) (rq : Request)
  /-- HEALTH_MAP_WRITE (R417): A write of 3403h:01 replaces the staged health map. -/
  | healthMapWrite (t : Nat) (rq : Request)
  /-- PROBE_ARM (R222): A write of 1 to PROBE_ARM stages a probe at a tide line. -/
  | probeArm (t : Nat) (rq : Request)
  /-- PROBE_DONE (R222): A probe's PROBE_LINES run ends, and the chip raises PROBE_DONE. -/
  | probeDone (t : Nat)
  /-- KEEP_WARM_TIMER (R245): In READY, every KW_PERIOD_US the chip sends keep-warm lines to the dies that qualify. -/
  | keepWarmTimer (t : Nat)
  /-- DIE_TEMP_STALE (R247): A die has no valid sensor for STALE_MS, so it is treated as above its soft limit. -/
  | dieTempStale (t die : Nat)
  /-- HEAD_FIRE_FRAME_SEND (R258): After the buffer move of the line before, the chip sends a row line's FIRE frame. -/
  | headFireFrameSend (t die row : Nat)
  /-- HEAD_POLL (R259): After each line period, or every POLL_PERIOD_US when idle, the chip polls a lane. -/
  | headPoll (t lane : Nat)
  /-- HEAD_SENSOR_POLL (R263): At least every 250 µs the chip sends POLL_SENSORS to each die. -/
  | headSensorPoll (t die : Nat)
  /-- HEAD_REPLY (R259): A REPLY frame is received, and the chip resends frames, corrects burst counts and takes temperatures. -/
  | headReply (t lane : Nat) (groups : List Nat)
  /-- HEAD_NO_REPLY (R261): No SOF_REPLY arrives within 250 ns of a poll, so the chip counts a missing reply and drives again. -/
  | headNoReply (t lane : Nat)
  /-- HEAD_FRAME_MISSED (R259): No FIRE frame of a row line arrives in time, so the line fires blank on that lane. -/
  | headFrameMissed (t die row lane : Nat)
  /-- LIFETIME_WRITE (R267): Every LIFE_WRITE_MIN, and on entry to CAPPED, the chip writes the other lifetime copy of each die. -/
  | lifetimeWrite (t die : Nat)
  /-- DIE_TRAIN_END (R265): A TRAIN ends in UP with a good identity, or in FAILED after 50 ms or with a bad identity. -/
  | dieTrainEnd (t die locks : Nat) (scans : List Nat)
  /-- DIE_RESYNC_END (R255): A RESYNC ends in UP within 10 µs, or moves to RETRAIN. -/
  | dieResyncEnd (t die : Nat) (ok : Bool)
  /-- DIE_RETRAIN_END (R269): A RETRAIN ends in UP within 2 ms with an unchanged identity, or moves the die to FAILED. -/
  | dieRetrainEnd (t die locks : Nat) (scans : List Nat)
  /-- QUARANTINE_STAGE (R269): Within 100 ms the supervisor stages the quarantine of a failed die. -/
  | quarantineStage (t : Nat)
  /-- QUARANTINE_MASK_WRITE (R270): A write of QUARANTINE_MASK commits quarantine changes at a tide line. -/
  | quarantineMaskWrite (t : Nat) (rq : Request)
  /-- RETRY_WRITE (R277): A write of RETRY trains a FAILED die's link again. -/
  | retryWrite (t : Nat) (rq : Request)
  /-- DIE_IDLE (R273): A die has had no print burst for 200 µs, and becomes idle for the resistance meter. -/
  | dieIdle (t die : Nat)
  /-- RESIST_MEASURE_DONE (R276): A 20 µs resistance measurement ends, and the meter classifies the result and stages health changes. -/
  | resistMeasureDone (t die reading : Nat)
  /-- CSI_LINE_PACKET (R284): A pixel long packet of a tile is received, buffered and merged into the pipeline line. -/
  | csiLinePacket (t port header vc dataType : Nat) (crcOk : Bool) (codes : List Nat)
  /-- CSI_EMBEDDED_PACKET (R280): An embedded-data packet is stored with the frame. -/
  | csiEmbeddedPacket (t port header vc : Nat) (crcOk : Bool) (data : Octets)
  /-- CSI_FRAME_START (R290): A Frame Start packet records CSI_FRAME. -/
  | csiFrameStart (t port header number : Nat)
  /-- CSI_FRAME_END (R290): A Frame End packet ends the camera frame, flagging SHORT_FRAME when lines are missing. -/
  | csiFrameEnd (t port header : Nat)
  /-- CSI_PACKET_IGNORED (R279): A correct packet outside the subset is ignored and counted. -/
  | csiPacketIgnored (t port header : Nat)
  /-- CSI_LANE_SYNC_ERROR (R300): A lane synchronisation error is counted towards a port restart. -/
  | csiLaneSyncError (t port : Nat)
  /-- CAMERA_LINE_TRIGGER (R286): The high-water position reaches a camera line, and the chip raises LTRIG, with FSYNC and a frame start where due. -/
  | cameraLineTrigger (t pipeline : Nat)
  /-- FRAME_END (R297): A frame ends, and the chip puts a descriptor on ring 5 or 6 and a statistics record on ring 7. -/
  | frameEnd (t pipeline : Nat)
  /-- SETTINGS_WRITE (R291): A write of EXPOSURE_NS or GAIN_CDB creates a new settings generation. -/
  | settingsWrite (t : Nat) (rq : Request)
  /-- CAMERA_I2C_START (R292): The chip starts the I²C transaction of a pending generation, at once or at the next FSYNC. -/
  | cameraI2cStart (t pipeline : Nat)
  /-- CAMERA_I2C_DONE (R293): A settings transaction ends, which fixes the written frame, or fails and is retried. -/
  | cameraI2cDone (t pipeline : Nat) (acknowledged : Bool)
  /-- BIND_WRITE (R281): A write of BIND binds a port to a pipeline or unbinds it. -/
  | bindWrite (t : Nat) (rq : Request)
  /-- HOST_RELEASE_WRITE (R297): A write of HOST_RELEASE frees a held frame buffer. -/
  | hostReleaseWrite (t : Nat) (rq : Request)
  /-- CAMERA_RESTART_WRITE (R300): A write of RESTART takes a BLIND pipeline to WAIT_CAMERA. -/
  | cameraRestartWrite (t : Nat) (rq : Request)
  /-- CAMERA_LANES_READY (R300): All used lanes are in stop state for 100 µs, so the pipeline becomes RUNNING. -/
  | cameraLanesReady (t pipeline mbps : Nat)
  /-- CAMERA_RESTART_END (R300): A restart ends with RUNNING, or with BLIND after 20 ms or a third restart. -/
  | cameraRestartEnd (t pipeline : Nat) (ready : Bool) (mbps : Nat)
  /-- FRAME_ANALYSIS (R309): A frame's profiles are complete, and streaks, zones and registration are judged. -/
  | frameAnalysis (t pipeline : Nat)
  /-- NAME_EVAL (R313): Enough traced lines are imaged, and the chip scores the candidates to name, probe or leave unnamed. -/
  | nameEval (t pipeline pixel : Nat)
  /-- PROBATION_RECHECK (R315): Every RECHECK_MIN the chip probes each PROBATION nozzle of cause inspection. -/
  | probationRecheck (t pipeline nozzle : Nat)
  /-- APPROVE_WRITE (R318): A write of APPROVE applies a held proposal. -/
  | approveWrite (t : Nat) (rq : Request)
  /-- REJECT_WRITE (R318): A write of REJECT drops a held proposal. -/
  | rejectWrite (t : Nat) (rq : Request)
  /-- LIGHT_PULSE (R328): A row of a pipeline's light is switched on for ON_NS, once the columns are granted inside the exposure. -/
  | lightPulse (t row : Nat)
  /-- DIAG_PULSE (R333): A 500 ns diagnostic pulse runs in a closed gap of the exposure. -/
  | diagPulse (t pipeline : Nat)
  /-- SEGMENT_MEASURE (R332): Column current and drain voltage are sampled 400–500 ns into a pulse. -/
  | segmentMeasure (t column current drain : Nat)
  /-- LIGHT_COLUMN_FAULT (R337): A column over-currents or carries current with no row on, so every row and gate goes off. -/
  | lightColumnFault (t column current : Nat)
  /-- RESTORE_WRITE (R338): A write of RESTORE starts a segment test of an OFF_FAULT pipeline. -/
  | restoreWrite (t : Nat) (rq : Request)
  /-- LIGHT_TEST_DONE (R338): The restore test ends, and the pipeline becomes LIT or stays OFF_FAULT. -/
  | lightTestDone (t pipeline : Nat)
  /-- NTC_READ (R340): Every 10 ms the chip reads a thermistor and updates the derate factor. -/
  | ntcRead (t pipeline : Nat) (reading : Int)
  /-- MOVE_ABS (R351): A MOVE_ABS command moves an axis to a position. -/
  | moveAbs (t axis : Nat) (source : MotionSource)
  /-- MOVE_REL (R351): A MOVE_REL command moves an axis by a distance. -/
  | moveRel (t axis : Nat) (source : MotionSource)
  /-- VELOCITY (R351): A VELOCITY command runs an axis at a signed speed, or stops it at 0. -/
  | velocity (t axis : Nat) (source : MotionSource)
  /-- STOP (R354): A STOP command decelerates an axis along DECEL. -/
  | stop (t axis : Nat) (source : MotionSource)
  /-- HOME (R360): A HOME command runs the homing sequence. -/
  | home (t axis : Nat) (source : MotionSource)
  /-- ENABLE (R367): An ENABLE command switches the drive on and clears a drive fault. -/
  | enable (t axis : Nat) (source : MotionSource)
  /-- DISABLE (R352): A DISABLE command switches the axis drive off. -/
  | disable (t axis : Nat) (source : MotionSource)
  /-- AXIS_STEP (R347): An axis step timer expires, a step issues, and the speed and interval for the next step are computed. -/
  | axisStep (t axis duty : Nat)
  /-- DECEL_WRITE (R353): A write of DECEL applies at once when the axis can still stop at its target, and is otherwise deferred. -/
  | decelWrite (t : Nat) (rq : Request)
  /-- POSITION_PRESET_WRITE (R346): A write of POSITION_PRESET loads POSITION and clears HOMED. -/
  | positionPresetWrite (t : Nat) (rq : Request)
  /-- LIMIT_EDGE (R358): A limit input becomes active, trips the limit, latches the position and may stop the axis. -/
  | limitEdge (t input first : Nat) (high : Bool)
  /-- LIMIT_RELEASE (R359): A limit input stays inactive for a whole DEBOUNCE_US, so the limit releases. -/
  | limitRelease (t input : Nat)
  /-- CHOP_CYCLE (R362): The sensed phase current crosses a chopper threshold, and the bridge changes between drive and decay. -/
  | chopCycle (t axis phase current mean : Nat)
  /-- AXIS_HOLD_CURRENT (R364): HOLD_DELAY_MS after the last step, the current becomes I_HOLD_MA. -/
  | axisHoldCurrent (t axis : Nat)
  /-- LEARN_WRITE (R365): A write of LEARN runs the idle-duty learning sequence. -/
  | learnWrite (t : Nat) (rq : Request)
  /-- LEARN_DONE (R365): The learning sequence ends, the table is stored, and the axis is back at its start. -/
  | learnDone (t axis : Nat)
  /-- AXIS_DRIVE_FAULT (R367): An over-current or an external fault input switches the axis off. -/
  | axisDriveFault (t axis : Nat) (figures : List Nat)
  /-- PHY_POLL (R374): Every 10 ms the chip reads PHY register 1 and updates the port state. -/
  | phyPoll (t port : Nat) (autoNeg phyLink gigabitFull : Bool)
  /-- SWITCH_FRAME_RX (R375): A frame enters the switch, and is learned, filtered, forwarded or delivered. -/
  | switchFrameRx (t : Nat) (f : NetFrame)
  /-- ADDRESS_AGEING (R375): An address entry ages out after AGEING_S. -/
  | addressAgeing (t mac : Nat)
  /-- RING_CHECK_SEND (R377): The manager sends CHECK from both ports every RING_CHECK_MS. -/
  | ringCheckSend (t : Nat)
  /-- RING_CHECK_RX (R378): The manager receives a CHECK and closes the ring, or finds a second manager. -/
  | ringCheckRx (t : Nat) (f : NetFrame)
  /-- RING_CHECK_TIMEOUT (R378): No own CHECK arrives for 3 × RING_CHECK_MS, so the ring opens. -/
  | ringCheckTimeout (t : Nat)
  /-- TOPOLOGY_CHANGE_RX (R378): A TOPOLOGY_CHANGE frame with the chip's RING_ID flushes the address table. -/
  | topologyChangeRx (t : Nat) (f : NetFrame)
  /-- SYNC_RX (R393): A Sync gives an offset, and the servo updates the rate or acquires, tracks and locks. -/
  | syncRx (t : Nat) (f : NetFrame)
  /-- FOLLOW_UP_RX (R385): A Follow_Up completes a two-step Sync, or is forwarded with the residence correction. -/
  | followUpRx (t : Nat) (f : NetFrame)
  /-- DELAY_REQ_SEND (R391): With request-response, the chip sends a Delay_Req at its interval. -/
  | delayReqSend (t : Nat)
  /-- DELAY_RESP_RX (R391): A Delay_Resp adds a path-delay measurement. -/
  | delayRespRx (t : Nat) (f : NetFrame)
  /-- PDELAY_REQ_SEND (R386): With peer-to-peer, the chip sends a Pdelay_Req on each up port. -/
  | pdelayReqSend (t : Nat)
  /-- PDELAY_REQ_RX (R385): A Pdelay_Req is answered with a one-step Pdelay_Resp. -/
  | pdelayReqRx (t : Nat) (f : NetFrame)
  /-- PDELAY_RESP_RX (R386): A Pdelay_Resp, or its Follow_Up, gives a peer delay. -/
  | pdelayRespRx (t : Nat) (f : NetFrame)
  /-- ANNOUNCE_RX (R384): An Announce is taken into the BMCA. -/
  | announceRx (t : Nat) (f : NetFrame)
  /-- SYNC_SEND (R385): As master, the chip sends a one-step Sync at LOG_SYNC_INTERVAL. -/
  | syncSend (t : Nat)
  /-- TIME_HOLDOVER (R390): No Sync arrives for HOLDOVER_SYNCS intervals, so the clock enters HOLDOVER at ρ_f. -/
  | timeHoldover (t : Nat)
  /-- TSCLK_RESTORED (R396): TSCLK is back for 10 ms, so the clock leaves INVALID. -/
  | tsclkRestored (t tau : Nat)
  /-- TSCLK_CAPTURE (R390): Every 1.024 µs island 11 captures a TSCLK edge for time conversion. -/
  | tsclkCapture (t tau : Nat)
  /-- RESTEP_WRITE (R392): A write of RESTEP returns the clock to ACQUIRING. -/
  | restepWrite (t : Nat) (rq : Request)
  /-- TIME_TRIGGER_FIRE (R399): Local time reaches a TRIGGER_TIME, and the trigger fires, with a capture or a commit hand-over where set. -/
  | timeTriggerFire (t trigger : Nat)
  /-- TRIG_EDGE (R400): A selected edge on TRIGn captures local time and both position counts. -/
  | trigEdge (t input : Nat) (high : Bool) (held : Nat)
  /-- PPS_OUT_EDGE (R401): A whole second of local time raises PPS_OUT for PPS_WIDTH_US. -/
  | ppsOutEdge (t : Nat)
  /-- PPS_IN_EDGE (R402): A rising edge of PPS_IN is captured and reported as an offset. -/
  | ppsInEdge (t : Nat)
  /-- OPEN (R407): An OPEN request creates a half-open session with a fresh nonce. -/
  | openSession (t : Nat) (rq : Request)
  /-- AUTH (R407): An AUTH request checks the host proof and opens the session, or fails. -/
  | auth (t : Nat) (rq : Request)
  /-- CLOSE (R409): A CLOSE request closes the session. -/
  | closeSession (t : Nat) (rq : Request)
  /-- READ (R406): A READ request returns the value of a subindex. -/
  | read (t : Nat) (rq : Request)
  /-- WRITE (R413): A WRITE request of a subindex without its own row is checked and applied by its apply class. -/
  | write (t : Nat) (rq : Request)
  /-- READ_BLOCK (R445): A READ_BLOCK returns one segment from a session snapshot. -/
  | readBlock (t : Nat) (rq : Request)
  /-- WRITE_BLOCK (R446): A WRITE_BLOCK segment extends an assembly, and the LAST segment executes the write. -/
  | writeBlock (t : Nat) (rq : Request)
  /-- STAGE (R417): A STAGE request adds an entry to the session's staging set. -/
  | stage (t : Nat) (rq : Request)
  /-- COMMIT (R418): A COMMIT request hands the staging set over to a tide-line commit, or discards it. -/
  | commit (t : Nat) (rq : Request)
  /-- SUBSCRIBE (R419): A SUBSCRIBE request replaces the session's event mask. -/
  | subscribe (t : Nat) (rq : Request)
  /-- TRIGGER (R420): A TRIGGER request arms a time trigger and may capture positions now. -/
  | trigger (t : Nat) (rq : Request)
  /-- NOTIFY (R419): Within 1 ms of subscribed events, the chip sends a NOTIFY within the session's budget. -/
  | notify (t session : Nat)
  /-- SESSION_AUTH_TIMEOUT (R407): A half-open session gets no correct proof within 5 s and is discarded. -/
  | sessionAuthTimeout (t session : Nat)
  /-- SESSION_IDLE_TIMEOUT (R409): A session has no valid frame for SESSION_IDLE_S and closes. -/
  | sessionIdleTimeout (t session : Nat)
  /-- LOCKOUT_EXPIRE (R410): LOCKOUT_S ends, and OPEN for the role from that source is accepted again. -/
  | lockoutExpire (t role : Nat) (path : Path) (src : Nat)
  /-- REQUEST_TIMEOUT (R416): The owning region gives no answer within 100 ms, so the request is refused with 07000001h. -/
  | requestTimeout (t : Nat) (rq : Request)
  /-- SECRET_WRITE (R422): A maker writes a role secret over the raster link, and sessions of that role close. -/
  | secretWrite (t : Nat) (rq : Request)
  /-- AUDIT_FLASH_WRITE (R425): Within 1 s, and on retry every 1 s, audit records are written to flash. -/
  | auditFlashWrite (t : Nat) (ok : Bool)
  /-- SNAPSHOT_TIMEOUT (R445): A READ_BLOCK snapshot has no segment for 10 s and is discarded. -/
  | snapshotTimeout (t session : Nat)
  /-- ASSEMBLY_TIMEOUT (R446): A WRITE_BLOCK assembly has no segment for 10 s and is discarded. -/
  | assemblyTimeout (t session : Nat)
  /-- SAVE_WRITE (R443): A write of 65766173h to 1010h:01 starts a configuration save. -/
  | saveWrite (t : Nat) (rq : Request)
  /-- CONFIG_SAVE_DONE (R443): A configuration save ends as saved or failed. -/
  | configSaveDone (t : Nat) (ok : Bool)
  /-- LOAD_WRITE (R444): A write of 64616F6Ch to 1011h:01 replaces the stored configuration by the defaults. -/
  | loadWrite (t : Nat) (rq : Request)
  /-- REQUEST_CAPPED (R452): A mode request for CAPPED, which restarts held pairs and writes the lifetime copies. -/
  | requestCapped (t : Nat) (rq : Request)
  /-- REQUEST_SERVICE (R452): A mode request for SERVICE. -/
  | requestService (t : Nat) (rq : Request)
  /-- REQUEST_READY (R454): A mode request for READY, which leaves PRINT or PROOF at once or after draining by LEAVE_AT. -/
  | requestReady (t : Nat) (rq : Request)
  /-- REQUEST_PRINT (R453): A mode request for PRINT, which checks the entry guards and enters with FILLING. -/
  | requestPrint (t : Nat) (rq : Request)
  /-- REQUEST_PROOF (R451): A mode request for PROOF, which needs a queued page. -/
  | requestProof (t : Nat) (rq : Request)
  /-- REQUEST_TEST (R452): A mode request for TEST. -/
  | requestTest (t : Nat) (rq : Request)
  /-- REQUEST_BOOT (R452): A mode request for BOOT, which is always refused. -/
  | requestBoot (t : Nat) (rq : Request)
  /-- REQUEST_SAFE_HOLD (R452): A mode request for SAFE-HOLD, which is always refused. -/
  | requestSafeHold (t : Nat) (rq : Request)
  /-- FILL_DONE (R453): Every lane FIFO has reached 256 lines once, so FILLING ends. -/
  | fillDone (t : Nat)
  /-- DRAIN_DONE (R454): The firing line passes the drained pages plus D, so the mode changes to READY with cause 7. -/
  | drainDone (t : Nat)
  /-- PROOF_RUN_END (R451): The PROOF run passes its last page plus D, so the mode changes to READY with cause 4. -/
  | proofRunEnd (t : Nat)
  /-- RESET_ASSERT (R522): RESET_N held low for 1 µs puts the chip into its reset state. -/
  | resetAssert (t lowNs : Nat)
  /-- RESET_RELEASE (R457): Release of RESET_N starts the start-up sequence in BOOT. -/
  | resetRelease (t : Nat) (boot : BootReport)
  /-- STARTUP_COMPLETE (R457): Start-up completes, and the chip enters CAPPED with cause 2. -/
  | startupComplete (t : Nat) (report : StartupReport)
  /-- TIDE_ACK (R461): A participant acknowledges a staged commit, and the commit settles when all have. -/
  | tideAck (t participant : Nat)
  /-- TIDE_DEADLINE (R461): The firing line reaches T − 256 before the commit settles, so it is abandoned. -/
  | tideDeadline (t : Nat)
  /-- TIDE_TIMEOUT (R461): TIDE_TIMEOUT_MS passes without settlement, so the commit is abandoned. -/
  | tideTimeout (t : Nat)
  /-- TIDE_LINE_REACHED (R181): The firing line reaches T, and the new generation comes into force, with ramps and probes starting. -/
  | tideLineReached (t : Nat)
  /-- GENERATION_RETIRE (R181): The firing line passes T + D, so the older generation is retired and another commit may begin. -/
  | generationRetire (t : Nat)
  /-- IMAGE_TRANSFER (R465): A WRITE_BLOCK of 7E01h:01 writes an image to the idle area, and it is checked at LAST. -/
  | imageTransfer (t : Nat) (rq : Request) (check : ImageCheck)
  /-- SWAP_WRITE (R466): A write of SWAP starts a live swap to the other image. -/
  | swapWrite (t : Nat) (rq : Request)
  /-- SWAP_RESTARTED (R466): All three pairs run the new image, and the swap reaches CONFIRMING. -/
  | swapRestarted (t : Nat)
  /-- CONFIRM_WRITE (R467): A write of CONFIRM makes the new image preferred. -/
  | confirmWrite (t : Nat) (rq : Request)
  /-- SWAP_CONFIRM_TIMEOUT (R467): CONFIRM_S expires without confirmation, so the chip swaps back. -/
  | swapConfirmTimeout (t : Nat)
  /-- CLEAR_WRITE (R472): A write of CLEAR clears the selected event flags. -/
  | clearWrite (t master word v met : Nat)
  /-- MB_NOTICE_POST (R483): A write of MB_NOTICE posts a notice and raises the receiver's doorbell. -/
  | mbNoticePost (t master ch v : Nat)
  /-- MB_NOTICE_TAKE (R484): A read of MB_NOTICE by the receiver takes the notice and empties the slot. -/
  | mbNoticeTake (t master ch : Nat)
  /-- RING_HEAD_WRITE (R489): The producer advances RING_HEAD. -/
  | ringHeadWrite (t master ring v : Nat)
  /-- RING_TAIL_WRITE (R489): The consumer advances RING_TAIL. -/
  | ringTailWrite (t master ring v : Nat)
  /-- LOCK_READ (R494): A read of LOCK acquires the lock, or reports it held or owned. -/
  | lockRead (t master lock : Nat) (rival : Option Nat)
  /-- LOCK_WRITE (R494): A write of LOCK by the owner releases the lock. -/
  | lockWrite (t master lock : Nat) (tie : Bool)
  /-- JOURNAL_FLASH_WRITE (R474): Within 1 s journal records are written to flash, and overtaken records are counted as lost. -/
  | journalFlashWrite (t : Nat) (ok : Bool)
  /-- SUPPLY_SAG (R502): The bus sags or PFAIL_N is low for 1 µs, so the chip enters SAFE-HOLD and starts the hold-up save. -/
  | supplySag (t source mv ns : Nat)
  /-- HOLDUP_SAVE_DONE (R506): The save record is programmed and checked, and the chip holds by R509. -/
  | holdupSaveDone (t : Nat) (crcOk : Bool)
  /-- SAG_RESTART (R510): The bus stays above VBUS_RESTART_MV for RESTART_MS after a save, so the chip restarts. -/
  | sagRestart (t : Nat) (boot : BootReport) (mv ns : Nat)
  /-- RAIL_SAMPLE (R500): Every 1 ms the rails are sampled, and SUPPLY_OUT_OF_RANGE is raised where one is outside its range. -/
  | railSample (t : Nat) (rails : List Nat) (bus : Nat)
  /-- JUNCTION_READ (R515): Every 10 ms the junction sensors are read, JUNCTION_HOT is judged, and the calibration generation may change. -/
  | junctionRead (t : Nat) (sensors : List Int)
  /-- VERIFY_ITEM_WRITE (R517): A write of VERIFY_ITEM in SERVICE starts a calibration verify run. -/
  | verifyItemWrite (t : Nat) (rq : Request)
  /-- CAL_VERIFY_DONE (R518): A verify run ends, and the trim is accepted or rejected. -/
  | calVerifyDone (t : Nat) (deltas spreads : List Int)
  /-- CLEAR_TRIM_WRITE (R518): A write of CLEAR_TRIM removes an item's trim. -/
  | clearTrimWrite (t : Nat) (rq : Request)
  /-- TEST_ACCESS_RESET (R532): A test-access reset raises the epoch of identity 7. -/
  | testAccessReset (t : Nat)
  /-- CODEC_ENGINE_RESTART (R486): The codec engine restarts, and the epoch of master identity 6 rises by 1, releasing its locks and orphaning its notices. -/
  | codecEngineRestart (t : Nat)
  /-- DRAM_ROW_WINDOW_END (R133): The 32 ms activation window ends, the row trackers start afresh and port throttles set by R133 lift. -/
  | dramRowWindowEnd (t : Nat)
  /-- CSI_LANES_ULPS (R279): A bound camera port's lanes enter ULPS and are treated as lost, so the port restarts by Table 10-7. -/
  | csiLanesUlps (t port : Nat)
  deriving DecidableEq, Repr

end Sys2Proof
end

