-- ==== Sys2Proof/WellFormed.lean ====
section
/-! DEFINITION. WellFormed.lean: which commands a sender can form: every number within the range that the spec gives it. -/
namespace Sys2Proof

/-- Whether a number lies from lo to hi. -/
def inRange (n lo hi : Nat) : Bool := decide (lo ≤ n ∧ n ≤ hi)

/-- Island-11 time is a 64-bit count of ns (R225). -/
def timeOk (t : Nat) : Bool := decide (t < 2 ^ 64)

/-- What the 8 lanes carry: 58 earlier line bits, sync headers of 2 bits and 64 payload bits a block. -/
def Reception.wf (x : Reception) : Bool :=
  x.lanes.length == 8 && x.lanes.all fun r =>
    (match r.last with
     | some h => decide (h < 2 ^ 58)
     | none => true) && r.blocks.all fun b => decide (b.sync < 4 ∧ b.data < 2 ^ 64)

/-- An Aqlet frame of Table 15-1: its source is a MAC address, its VLAN tag 4 octets or none. -/
def Request.wf (rq : Request) : Bool :=
  decide (rq.src < 2 ^ 48) && (rq.vlan.length == 0 || rq.vlan.length == 4) &&
    (match rq.path with
     | .raster => rq.port == 0 && rq.lanes.wf
     | .network => rq.port == 1 || rq.port == 2)

/-- A frame that enters the switch by one of its two ports. -/
def NetFrame.wf (f : NetFrame) : Bool := inRange f.port 1 2

/-- A watched clock of R30 and Table 01-8. -/
def Clock.wf : Clock → Bool
  | .fclk => true
  | .pll n => [1, 2, 5, 6, 9, 11].contains n
  | .refclk n => decide (n < 2)
  | .camera p _ => decide (p < 2)
  | .tsclk => true

/-- A motion command's way in. -/
def MotionSource.wf : MotionSource → Bool
  | .ring => true
  | .write rq => rq.wf

/-- Five calibration sets are checked (R515). -/
def BootReport.wf (b : BootReport) : Bool := b.calOk.length == 5

/-- R143, Table 04-17: seven steps in each of two channels, 20 eye figures. -/
def Training.wf (x : Training) : Bool :=
  x.steps.length == 2 && (x.steps.all fun c => c.length == 7) && x.eyes.length == 20

/-- What step 8 of Table 17-4 finds; polders 0 to 16. -/
def StartupReport.wf (r : StartupReport) : Bool := r.train.wf && r.failed.all fun p => decide (p < 17)

/-- A request of one of the ten ports of Table 04-8. -/
def DramRequest.wf (r : DramRequest) : Bool :=
  decide (r.port < 10) && decide (r.channel < 2) && decide (r.rank < 2) && decide (r.bank < 4) && decide (r.row < 2 ^ 20)

/-- Erroneous bits of a burst (R109): beat and bit of the 40-bit subchannel. -/
def flipsOk (l : List (Nat × Nat)) : Bool := l.all fun f => decide (f.1 < 16) && decide (f.2 < 40)

/-- Whether every operand of a command is within its range. -/
def Instr.wf (i : Instr) : Bool :=
  match i with
  | .crossingStall t island => timeOk t && inRange island 1 12
  | .islandClockLost t clock => timeOk t && clock.wf
  | .clockRatioCheck t _ => timeOk t
  | .paceMeterWindow t figures => timeOk t && figures.length == 24
  | .fwPairMismatch t _ => timeOk t
  | .fwPairRestartDone t _ => timeOk t
  | .breachEscalated t region fromLevel => timeOk t && decide (region < 24) && decide (fromLevel < 3)
  | .heartbeatMissing t region => timeOk t && decide (region < 24)
  | .rootWatchMismatch t => timeOk t
  | .positionEdge t ch _ => timeOk t && decide (ch < 2)
  | .encQuadError t ch _ => timeOk t && decide (ch < 2)
  | .upDownSameSample t ch _ => timeOk t && decide (ch < 2)
  | .countPresetWrite t rq => timeOk t && rq.wf
  | .formatWrite t rq => timeOk t && rq.wf
  | .indexEvent t ch _ _ => timeOk t && decide (ch < 2)
  | .indexMissing t ch => timeOk t && decide (ch < 2)
  | .wheelEdge t ch _ _ => timeOk t && decide (ch < 2)
  | .webStandstill t ch => timeOk t && decide (ch < 2)
  | .slotCommit t die row => timeOk t && decide (die < 64) && decide (row < 4)
  | .slotStart t die row => timeOk t && decide (die < 64) && decide (row < 4)
  | .xcheckWindowEnd t => timeOk t
  | .xcheckEarlyDisagree t => timeOk t
  | .rxAmColumn t x lanes => timeOk t && x.wf && lanes.length == 8
  | .laneFail t x => timeOk t && x.wf
  | .resizeSwitch t => timeOk t
  | .rxLinkAck t x => timeOk t && x.wf
  | .rxLinkReport t x => timeOk t && x.wf
  | .rxLinkRetrain t x => timeOk t && x.wf
  | .rxBlockPacket t x => timeOk t && x.wf
  | .pageOpen t x => timeOk t && x.wf
  | .pageCommit t x => timeOk t && x.wf
  | .pageAbort t x => timeOk t && x.wf
  | .pageOpInvalid t x => timeOk t && x.wf
  | .memWrite t x => timeOk t && x.wf
  | .memRead t x => timeOk t && x.wf
  | .rxCredit t x => timeOk t && x.wf
  | .rxNack t x => timeOk t && x.wf
  | .rxEchoRequest t x => timeOk t && x.wf
  | .rxEchoReply t x => timeOk t && x.wf
  | .rxPacketBad t x => timeOk t && x.wf
  | .echoTimer t => timeOk t
  | .creditTimer t => timeOk t
  | .replayTimeout t => timeOk t
  | .detectLocked t x => timeOk t && x.wf
  | .detectTimeout t => timeOk t
  | .alignTimeout t => timeOk t
  | .rateSwitch t => timeOk t
  | .laneTestEnd t x tests => timeOk t && x.wf && tests.length == 8
  | .retrainEnd t x tests => timeOk t && x.wf && tests.length == 8
  | .laneRetest t lane x _ => timeOk t && decide (lane < 8) && x.wf
  | .enableWrite t rq => timeOk t && rq.wf
  | .retrainWrite t rq => timeOk t && rq.wf
  | .loopWrite t rq => timeOk t && rq.wf
  | .prbsRunWrite t rq => timeOk t && rq.wf
  | .pageRelease t stream tag => timeOk t && decide (stream < 2) && decide (tag < 2 ^ 32)
  | .bandFree t stream tag => timeOk t && decide (stream < 2) && decide (tag < 2 ^ 32)
  | .freeboardUpdate t => timeOk t
  | .dramRefresh t channel sub rank traffic =>
    timeOk t && decide (channel < 2) && decide (sub < 2) && decide (rank < 2) && traffic.requests.all DramRequest.wf
  | .dramTempPoll t _ => timeOk t
  | .dramRowThrottle t channel sub rank bank row =>
    timeOk t && decide (channel < 2) && decide (sub < 2) && decide (rank < 2) && decide (bank < 32) && decide (row < 2 ^ 20)
  | .dramRfmThreshold t channel sub rank bank =>
    timeOk t && decide (channel < 2) && decide (sub < 2) && decide (rank < 2) && decide (bank < 32)
  | .dramCe t channel _ flips => timeOk t && decide (channel < 2) && flipsOk flips
  | .dramUe t channel port _ flips _ => timeOk t && decide (channel < 2) && decide (port < 10) && flipsOk flips
  | .dramWriteCrcError t channel _ => timeOk t && decide (channel < 2)
  | .scrubPass t => timeOk t
  | .mirrorBand t stream tag _ => timeOk t && decide (stream < 2) && decide (tag < 2 ^ 32)
  | .dramChannelLost t channel => timeOk t && decide (channel < 2)
  | .channelRestoreWrite t rq => timeOk t && rq.wf
  | .dramChannelRestored t channel eyes => timeOk t && decide (channel < 2) && eyes.length == 10
  | .dqsDriftCheck t channel _ _ => timeOk t && decide (channel < 2)
  | .trainWrite t rq found => timeOk t && rq.wf && found.wf
  | .blockVerify t stream => timeOk t && decide (stream < 2)
  | .pixelBitsWrite t rq => timeOk t && rq.wf
  | .codecCompress t _ => timeOk t
  | .codecDecompress t => timeOk t
  | .codecCopy t => timeOk t
  | .codecJobEnd t _ _ => timeOk t
  | .logSeqWrite t rq => timeOk t && rq.wf
  | .sluiceAdmitBand t polder stream _ => timeOk t && decide (polder < 17) && decide (stream < 2)
  | .sluiceStarveLine t polder stream _ => timeOk t && decide (polder < 17) && decide (stream < 2)
  | .polderComposeLine t polder stream _ => timeOk t && decide (polder < 17) && decide (stream < 2)
  | .seepWindow t => timeOk t
  | .polderFault t polder cause => timeOk t && decide (polder < 17) && inRange cause 2 3
  | .polderStall t polder => timeOk t && decide (polder < 17)
  | .takeoverConnect t => timeOk t
  | .forceTakeoverWrite t rq => timeOk t && rq.wf
  | .shadowNext t => timeOk t
  | .shadowMismatch t _ => timeOk t
  | .polderSelfTestDone t polder _ => timeOk t && decide (polder < 17)
  | .returnPolderWrite t rq => timeOk t && rq.wf
  | .polderReturned t polder => timeOk t && decide (polder < 17)
  | .diesWrite t rq => timeOk t && rq.wf
  | .healthCommitStage t => timeOk t
  | .healthMapSave t => timeOk t
  | .columnHealthWrite t rq => timeOk t && rq.wf
  | .healthMapWrite t rq => timeOk t && rq.wf
  | .probeArm t rq => timeOk t && rq.wf
  | .probeDone t => timeOk t
  | .keepWarmTimer t => timeOk t
  | .dieTempStale t die => timeOk t && decide (die < 64)
  | .headFireFrameSend t die row => timeOk t && decide (die < 64) && decide (row < 4)
  | .headPoll t lane => timeOk t && decide (lane < 512)
  | .headSensorPoll t die => timeOk t && decide (die < 64)
  | .headReply t lane groups => timeOk t && decide (lane < 512) && groups.all (fun g => decide (g < 1024))
  | .headNoReply t lane => timeOk t && decide (lane < 512)
  | .headFrameMissed t die row lane => timeOk t && decide (die < 64) && decide (row < 4) && decide (lane < 8)
  | .lifetimeWrite t die => timeOk t && decide (die < 64)
  | .dieTrainEnd t die locks scans =>
    timeOk t && decide (die < 64) && decide (locks < 256) && scans.length == 8 && scans.all (fun m => decide (m < 2 ^ 64))
  | .dieResyncEnd t die _ => timeOk t && decide (die < 64)
  | .dieRetrainEnd t die locks scans =>
    timeOk t && decide (die < 64) && decide (locks < 256) && scans.length == 8 && scans.all (fun m => decide (m < 2 ^ 64))
  | .quarantineStage t => timeOk t
  | .quarantineMaskWrite t rq => timeOk t && rq.wf
  | .retryWrite t rq => timeOk t && rq.wf
  | .dieIdle t die => timeOk t && decide (die < 64)
  | .resistMeasureDone t die _ => timeOk t && decide (die < 64)
  | .csiLinePacket t port header vc dataType _ _ => timeOk t && decide (port < 2) && decide (header < 2) && decide (vc < 16) && decide (dataType < 64)
  | .csiEmbeddedPacket t port header vc _ _ => timeOk t && decide (port < 2) && decide (header < 2) && decide (vc < 16)
  | .csiFrameStart t port header number => timeOk t && decide (port < 2) && decide (header < 2) && decide (number < 65536)
  | .csiFrameEnd t port header => timeOk t && decide (port < 2) && decide (header < 2)
  | .csiPacketIgnored t port header => timeOk t && decide (port < 2) && decide (header < 2)
  | .csiLaneSyncError t port => timeOk t && decide (port < 2)
  | .cameraLineTrigger t pipeline => timeOk t && decide (pipeline < 2)
  | .frameEnd t pipeline => timeOk t && decide (pipeline < 2)
  | .settingsWrite t rq => timeOk t && rq.wf
  | .cameraI2cStart t pipeline => timeOk t && decide (pipeline < 2)
  | .cameraI2cDone t pipeline _ => timeOk t && decide (pipeline < 2)
  | .bindWrite t rq => timeOk t && rq.wf
  | .hostReleaseWrite t rq => timeOk t && rq.wf
  | .cameraRestartWrite t rq => timeOk t && rq.wf
  | .cameraLanesReady t pipeline mbps => timeOk t && decide (pipeline < 2 ∧ mbps < 65536)
  | .cameraRestartEnd t pipeline _ mbps => timeOk t && decide (pipeline < 2 ∧ mbps < 65536)
  | .frameAnalysis t pipeline => timeOk t && decide (pipeline < 2)
  | .nameEval t pipeline _ => timeOk t && decide (pipeline < 2)
  | .probationRecheck t pipeline nozzle => timeOk t && decide (pipeline < 2) && decide (nozzle < 262144)
  | .approveWrite t rq => timeOk t && rq.wf
  | .rejectWrite t rq => timeOk t && rq.wf
  | .lightPulse t row => timeOk t && decide (row < 8)
  | .diagPulse t pipeline => timeOk t && decide (pipeline < 2)
  | .segmentMeasure t column _ _ => timeOk t && decide (column < 16)
  | .lightColumnFault t column _ => timeOk t && decide (column < 16)
  | .restoreWrite t rq => timeOk t && rq.wf
  | .lightTestDone t pipeline => timeOk t && decide (pipeline < 2)
  | .ntcRead t pipeline _ => timeOk t && decide (pipeline < 2)
  | .moveAbs t axis source => timeOk t && decide (axis < 4) && source.wf
  | .moveRel t axis source => timeOk t && decide (axis < 4) && source.wf
  | .velocity t axis source => timeOk t && decide (axis < 4) && source.wf
  | .stop t axis source => timeOk t && decide (axis < 4) && source.wf
  | .home t axis source => timeOk t && decide (axis < 4) && source.wf
  | .enable t axis source => timeOk t && decide (axis < 4) && source.wf
  | .disable t axis source => timeOk t && decide (axis < 4) && source.wf
  | .axisStep t axis _ => timeOk t && decide (axis < 4)
  | .decelWrite t rq => timeOk t && rq.wf
  | .positionPresetWrite t rq => timeOk t && rq.wf
  | .limitEdge t input _ _ => timeOk t && decide (input < 8)
  | .limitRelease t input => timeOk t && decide (input < 8)
  | .chopCycle t axis phase _ _ => timeOk t && decide (axis < 4) && decide (phase < 2)
  | .axisHoldCurrent t axis => timeOk t && decide (axis < 4)
  | .learnWrite t rq => timeOk t && rq.wf
  | .learnDone t axis => timeOk t && decide (axis < 4)
  | .axisDriveFault t axis _ => timeOk t && decide (axis < 4)
  | .phyPoll t port _ _ _ => timeOk t && inRange port 1 2
  | .switchFrameRx t f => timeOk t && f.wf
  | .addressAgeing t mac => timeOk t && decide (mac < 2 ^ 48)
  | .ringCheckSend t => timeOk t
  | .ringCheckRx t f => timeOk t && f.wf
  | .ringCheckTimeout t => timeOk t
  | .topologyChangeRx t f => timeOk t && f.wf
  | .syncRx t f => timeOk t && f.wf
  | .followUpRx t f => timeOk t && f.wf
  | .delayReqSend t => timeOk t
  | .delayRespRx t f => timeOk t && f.wf
  | .pdelayReqSend t => timeOk t
  | .pdelayReqRx t f => timeOk t && f.wf
  | .pdelayRespRx t f => timeOk t && f.wf
  | .announceRx t f => timeOk t && f.wf
  | .syncSend t => timeOk t
  | .timeHoldover t => timeOk t
  | .tsclkRestored t _ => timeOk t
  | .tsclkCapture t _ => timeOk t
  | .restepWrite t rq => timeOk t && rq.wf
  | .timeTriggerFire t k => timeOk t && decide (k < 8)
  | .trigEdge t input _ held => timeOk t && timeOk held && decide (input < 4)
  | .ppsOutEdge t => timeOk t
  | .ppsInEdge t => timeOk t
  | .openSession t rq => timeOk t && rq.wf
  | .auth t rq => timeOk t && rq.wf
  | .closeSession t rq => timeOk t && rq.wf
  | .read t rq => timeOk t && rq.wf
  | .write t rq => timeOk t && rq.wf
  | .readBlock t rq => timeOk t && rq.wf
  | .writeBlock t rq => timeOk t && rq.wf
  | .stage t rq => timeOk t && rq.wf
  | .commit t rq => timeOk t && rq.wf
  | .subscribe t rq => timeOk t && rq.wf
  | .trigger t rq => timeOk t && rq.wf
  | .notify t session => timeOk t && decide (session < 2 ^ 32)
  | .sessionAuthTimeout t session => timeOk t && decide (session < 2 ^ 32)
  | .sessionIdleTimeout t session => timeOk t && decide (session < 2 ^ 32)
  | .lockoutExpire t role _ src => timeOk t && inRange role 1 3 && decide (src < 2 ^ 48)
  | .requestTimeout t rq => timeOk t && rq.wf
  | .secretWrite t rq => timeOk t && rq.wf
  | .auditFlashWrite t _ => timeOk t
  | .snapshotTimeout t session => timeOk t && decide (session < 2 ^ 32)
  | .assemblyTimeout t session => timeOk t && decide (session < 2 ^ 32)
  | .saveWrite t rq => timeOk t && rq.wf
  | .configSaveDone t _ => timeOk t
  | .loadWrite t rq => timeOk t && rq.wf
  | .requestCapped t rq => timeOk t && rq.wf
  | .requestService t rq => timeOk t && rq.wf
  | .requestReady t rq => timeOk t && rq.wf
  | .requestPrint t rq => timeOk t && rq.wf
  | .requestProof t rq => timeOk t && rq.wf
  | .requestTest t rq => timeOk t && rq.wf
  | .requestBoot t rq => timeOk t && rq.wf
  | .requestSafeHold t rq => timeOk t && rq.wf
  | .fillDone t => timeOk t
  | .drainDone t => timeOk t
  | .proofRunEnd t => timeOk t
  | .resetAssert t _ => timeOk t
  | .resetRelease t boot => timeOk t && boot.wf
  | .startupComplete t report => timeOk t && report.wf
  | .tideAck t participant => timeOk t && decide (participant < 20)
  | .tideDeadline t => timeOk t
  | .tideTimeout t => timeOk t
  | .tideLineReached t => timeOk t
  | .generationRetire t => timeOk t
  | .imageTransfer t rq _ => timeOk t && rq.wf
  | .swapWrite t rq => timeOk t && rq.wf
  | .swapRestarted t => timeOk t
  | .confirmWrite t rq => timeOk t && rq.wf
  | .swapConfirmTimeout t => timeOk t
  | .clearWrite t master word v met => timeOk t && inRange master 1 7 && decide (word < 2) && decide (v < 2 ^ 64) && decide (met < 2 ^ 64)
  | .mbNoticePost t master ch v => timeOk t && inRange master 1 7 && decide (ch < 32) && decide (v < 2 ^ 64)
  | .mbNoticeTake t master ch => timeOk t && inRange master 1 7 && decide (ch < 32)
  | .ringHeadWrite t master ring v => timeOk t && inRange master 1 7 && decide (ring < 16) && decide (v < 2 ^ 32)
  | .ringTailWrite t master ring v => timeOk t && inRange master 1 7 && decide (ring < 16) && decide (v < 2 ^ 32)
  | .lockRead t master lock _ => timeOk t && inRange master 1 7 && decide (lock < 32)
  | .lockWrite t master lock _ => timeOk t && inRange master 1 7 && decide (lock < 32)
  | .journalFlashWrite t _ => timeOk t
  | .supplySag t source mv ns => timeOk t && decide (source = 0 ∨ source = 15) && decide (mv < 2 ^ 16 ∧ ns < 2 ^ 64)
  | .holdupSaveDone t _ => timeOk t
  | .sagRestart t boot mv ns => timeOk t && boot.wf && decide (mv < 2 ^ 16 ∧ ns < 2 ^ 64)
  | .railSample t _ _ => timeOk t
  | .junctionRead t _ => timeOk t
  | .verifyItemWrite t rq => timeOk t && rq.wf
  | .calVerifyDone t _ _ => timeOk t
  | .clearTrimWrite t rq => timeOk t && rq.wf
  | .testAccessReset t => timeOk t
  | .codecEngineRestart t => timeOk t
  | .dramRowWindowEnd t => timeOk t
  | .csiLanesUlps t port => timeOk t && decide (port < 2)

end Sys2Proof
end

