-- ==== Sys2Proof/Config.lean ====
section
/-! DEFINITION. Config.lean: what a chip fixes at test and the values the spec leaves open.
Every constant here is opaque: nothing in Lean can evaluate one, so a statement about it holds for every value. -/
namespace Sys2Proof

/-- FREE VALUE. A fresh 64-bit value drawn at the n-th draw of a run: R407's random `SESSION` and `CHIP_NONCE`, and
every value the spec leaves undefined (log entry 4). -/
opaque Config.fresh : Nat → Nat

/-- FREE VALUE. Whether an inexact quotient `num / den` of a rule that states no rounding is taken up (log entry 5).
The first argument numbers the place in the rules. -/
opaque Config.roundUp : Nat → Int → Int → Bool

/-- FREE VALUE. What a rule answers where it states no result for the operand (log entry 6): the place, the operand. -/
opaque Config.unstated : Nat → Int → Int

/-- R522: whether a RESET_N pulse from 100 ns to 1 µs, of this length, resets the chip (log entry 7). -/
opaque Config.shortPulseResets : Nat → Bool

/-- Table 00-3: `Serial`, fused at test. -/
opaque Config.serial : Nat

/-- Table 00-3: stepping letter and digit, fused at test, as [31:24] and [23:16] of 1018h:03. -/
opaque Config.stepping : Nat × Nat

/-- Table 14-14: `MAC_ADDRESS`, fused at test. -/
opaque Config.mac : Nat

/-- R488: page number of the place where the supervisor lays ring r out at start-up (log entry 8). -/
opaque Config.ringPage : Nat → Nat

/-- Table 19-7: `FACTORY_DATE` of label items 0–3, fused at test. -/
opaque Config.factoryDate : Nat → Nat

/-- R8: `IMAGE_VERSION` of the image loaded at test; R514: the quality of each calibrated item, stored at the factory
(log entry 7). -/
opaque Config.imageVersion : Nat

/-- See `Config.imageVersion`. -/
opaque Config.itemQuality : Nat → Nat

/-- R465: whether the CRC-32C of an image is right, whether its ECDSA signature verifies against the key fused at test, and
its version, by the octets of the image (log entry 34). -/
opaque Config.imageFound : List (BitVec 8) → Bool × Bool × Nat

/-- Table 16-8: the CRC-32C of a copy of the stored configuration with these values; the octets of a copy are not given
(log entry 13). -/
opaque Config.storedCrc : List (Nat × Int) → Nat

/-- FREE VALUE. Which code word the compressor of R161 starts next, given the pixels coded so far, newest first, and those
that follow: 1 a literal group, 2 in PRED a match, otherwise the longer of run and match (log entry 17). -/
opaque Config.codeWord : Bool → List Nat → List Nat → Nat

end Sys2Proof
end

