-- ==== Sys2Proof/Machine/Operands.lean ====
section
/-! DEFINITION. Machine/Operands.lean: the operand forms of the commands: bit fields of a word, the octet order of
R405, two's complement, the CRCs of R80, R85 and R149, and quotients whose rounding a rule leaves open. -/
namespace Sys2Proof.Machine

/-- Bits [hi:lo] of a word. -/
def bits (w hi lo : Nat) : Nat := (w >>> lo) % 2 ^ (hi + 1 - lo)

/-- Bit b of a word. -/
def bit (w b : Nat) : Bool := bits w b b == 1

/-- The word with bit b set or cleared. -/
def setBit (w b : Nat) (on : Bool) : Nat :=
  if bit w b = on then w else if on then w + 2 ^ b else w - 2 ^ b

/-- A value placed at bits [hi:lo] of an otherwise zero word. -/
def place (v hi lo : Nat) : Nat := (v % 2 ^ (hi + 1 - lo)) <<< lo

/-- The n-octet form of a number, most significant octet first (R405). -/
def octetsOf (n v : Nat) : Octets := (List.range n).map fun i => BitVec.ofNat 8 (v >>> (8 * (n - 1 - i)))

/-- The number that octets spell, most significant octet first (R405). -/
def numberOf (o : Octets) : Nat := o.foldl (fun a b => a * 256 + b.toNat) 0

/-- Word Wi of a record: octets 8i to 8i + 7, most significant first. -/
def wordOf (o : Octets) (i : Nat) : Nat := numberOf ((o.drop (8 * i)).take 8)

/-- 8-octet words as octets. -/
def octetsOfWords (ws : List Nat) : Octets := ws.flatMap (octetsOf 8)

/-- Two's complement of `n` bits read as a signed number (Table 16-1). -/
def signed (n v : Nat) : Int :=
  let u := v % 2 ^ n
  if 2 * u < 2 ^ n then (u : Int) else (u : Int) - 2 ^ n

/-- A signed number as an `n`-bit two's complement word. -/
def unsigned (n : Nat) (v : Int) : Nat := (v % 2 ^ n).toNat

/-- A value held within bounds. -/
def clamp (lo hi v : Int) : Int := if v < lo then lo else if hi < v then hi else v

/-- A quotient whose rule states no rounding: exact where it divides, otherwise one of its two neighbours. -/
def divOpen (site : Nat) (num : Int) (den : Nat) : Int :=
  if num % den = 0 then num / den
  else if Config.roundUp site num den then num / den + 1 else num / den

/-- A quotient rounded up. -/
def divUp (a b : Nat) : Nat := (a + b - 1) / b

/-- A quotient rounded to nearest, halves up. -/
def divNear (a : Int) (b : Nat) : Int := (2 * a + b) / (2 * b)

/-- One step of a CRC register of `n` bits, most significant bit first, with polynomial `poly`. -/
def crcBitMsb (n poly reg : Nat) : Nat :=
  let shifted := (reg <<< 1) % 2 ^ n
  if bits reg (n - 1) (n - 1) = 1 then shifted ^^^ poly else shifted

/-- A CRC of `n` bits, most significant bit first. -/
def crcMsb (n poly init : Nat) (o : Octets) : Nat :=
  o.foldl (fun r b => Nat.repeat (crcBitMsb n poly) 8 (r ^^^ (b.toNat <<< (n - 8)))) init

/-- One step of a reflected 32-bit CRC register. -/
def crcBitLsb (poly reg : Nat) : Nat := if reg % 2 = 1 then (reg >>> 1) ^^^ poly else reg >>> 1

/-- A reflected 32-bit CRC with all-ones start and final complement. -/
def crcLsb (poly : Nat) (o : Octets) : Nat :=
  (o.foldl (fun r b => Nat.repeat (crcBitLsb poly) 8 (r ^^^ b.toNat)) 0xFFFFFFFF) ^^^ 0xFFFFFFFF

/-- CRC-32C, the check of R149. -/
def crc32c (o : Octets) : Nat := crcLsb 0x82F63B78 o

/-- The CRC-32 of IEEE 802.3. -/
def crc32 (o : Octets) : Nat := crcLsb 0xEDB88320 o

end Sys2Proof.Machine
end

