-- ==== Sys2Proof/Machine/Cells.lean ====
section
/-! DEFINITION. Machine/Cells.lean: sparse data by key in one canonical form: keys strictly rising, and no entry equal to
what an unlisted key reads as. The dictionary's values, the octet strings and the shared memory are kept in it. -/
namespace Sys2Proof.Machine

/-- The value at a key: the entry's, or what an unlisted key reads as. -/
def Cells.get {α : Type} (dflt : Nat → α) : List (Nat × α) → Nat → α
  | [], k => dflt k
  | (j, w) :: rest, k => if j = k then w else Cells.get dflt rest k

/-- Puts a value at a key and keeps the canonical form. -/
def Cells.put {α : Type} [DecidableEq α] (dflt : Nat → α) : List (Nat × α) → Nat → α → List (Nat × α)
  | [], k, v => if v = dflt k then [] else [(k, v)]
  | (j, w) :: rest, k, v =>
    if k < j then (if v = dflt k then (j, w) :: rest else (k, v) :: (j, w) :: rest)
    else if j = k then (if v = dflt k then rest else (k, v) :: rest)
    else (j, w) :: Cells.put dflt rest k v

/-- The canonical form, above a bound on the keys. -/
def Cells.wfFrom {α : Type} [DecidableEq α] (dflt : Nat → α) : Nat → List (Nat × α) → Bool
  | _, [] => true
  | lo, (j, w) :: rest => decide (lo ≤ j) && decide (w ≠ dflt j) && Cells.wfFrom dflt (j + 1) rest

/-- The canonical form. -/
def Cells.wf {α : Type} [DecidableEq α] (dflt : Nat → α) (l : List (Nat × α)) : Bool := Cells.wfFrom dflt 0 l

/-- The canonical form of the shared memory: an unlisted octet reads 0. -/
def Memory.wf (m : List Host.Cell) : Bool := Cells.wf (fun _ => (0 : Byte)) m

/-- Writes octets from an address upward. -/
def Memory.store (m : List Host.Cell) (a : Nat) : Octets → List Host.Cell
  | [] => m
  | b :: rest => Memory.store (Cells.put (fun _ => (0 : Byte)) m a b) (a + 1) rest

/-- Writes 0 to n octets from an address upward. -/
def Memory.wipe (m : List Host.Cell) (a n : Nat) : List Host.Cell := m.filter fun c => decide (c.1 < a ∨ a + n ≤ c.1)

end Sys2Proof.Machine
end

