-- ==== Sys2Proof/Machine/Regs.lean ====
section
/-! DEFINITION. Machine/Regs.lean: the names of the subindices of the object dictionary, as the object tables of the
spec give them. A subindex is the number 256 × index + subindex; a name that covers a range of subindices is the first
of them, and objects of one layout (6000h–6003h, 6011h–6014h, 6400h–6401h) are 256 apart. -/
namespace Sys2Proof.Machine

/-! Table 16-4 Object 1000h, Device type -/
abbrev o1000.DEVICE_TYPE : Nat := 0x100001

/-! Table 16-5 Objects 1008h, 1009h and 100Ah, Device name, Hardware version and Software version (same layout) -/
abbrev o1008.TEXT : Nat := 0x100801

/-! Table 16-6 Object 1010h, Store configuration -/
abbrev o1010.SAVE : Nat := 0x101001
abbrev o1010.SAVE_STATUS : Nat := 0x101002

/-! Table 16-7 Object 1011h, Restore defaults -/
abbrev o1011.LOAD : Nat := 0x101101

/-! Table 00-3 Identity subindices -/
abbrev o1018.VENDOR : Nat := 0x101801
abbrev o1018.PRODUCT : Nat := 0x101802
abbrev o1018.REVISION : Nat := 0x101803
abbrev o1018.SERIAL : Nat := 0x101804

/-! Table 16-8 Object 1020h, Configuration identity -/
abbrev o1020.CONFIG_ID : Nat := 0x102001
abbrev o1020.STORED_CRC : Nat := 0x102002
abbrev o1020.RUNNING_DIFFERS : Nat := 0x102003
abbrev o1020.B_PENDING : Nat := 0x102004

/-! Table 16-9 Object 1030h, Object directory -/
abbrev o1030.OBJECT_COUNT : Nat := 0x103001
abbrev o1030.DIRECTORY : Nat := 0x103002
abbrev o1030.SUB_COUNT : Nat := 0x103003
abbrev o1030.DESCRIPTIONS : Nat := 0x103004

/-! Table 17-7 Object 2000h, Mode request -/
abbrev o2000.REQUEST : Nat := 0x200001
abbrev o2000.LEAVE_AT : Nat := 0x200002
abbrev o2000.LAST_ABORT : Nat := 0x200003

/-! Table 17-8 Object 2001h, Mode state -/
abbrev o2001.MODE : Nat := 0x200101
abbrev o2001.PHASE : Nat := 0x200102
abbrev o2001.PREVIOUS : Nat := 0x200103
abbrev o2001.CAUSE : Nat := 0x200104
abbrev o2001.ENTERED : Nat := 0x200105
abbrev o2001.BOOT_MS : Nat := 0x200106
abbrev o2001.FILL_US : Nat := 0x200107
abbrev o2001.ENTRY_LINE : Nat := 0x200108
abbrev o2001.MODE_CHANGES : Nat := 0x200109

/-! Table 17-9 Object 2002h, Tide lines -/
abbrev o2002.TIDE_LEAD : Nat := 0x200201
abbrev o2002.TIDE_TIMEOUT_MS : Nat := 0x200202
abbrev o2002.PAGE_ALIGN : Nat := 0x200203
abbrev o2002.COMMIT_AT : Nat := 0x200204
abbrev o2002.TIDE_STATE : Nat := 0x200205
abbrev o2002.TIDE_LINE : Nat := 0x200206
abbrev o2002.GENERATION : Nat := 0x200207
abbrev o2002.COMMITS : Nat := 0x200208
abbrev o2002.ABANDONED : Nat := 0x200209
abbrev o2002.LAST_ABANDON : Nat := 0x20020A

/-! Table 15-10 Object 2100h, Aqlet sessions -/
abbrev o2100.SESSIONS_OPEN : Nat := 0x210001
abbrev o2100.SESSION_IDLE_S : Nat := 0x210002
abbrev o2100.LOCKOUT_FAILS : Nat := 0x210003
abbrev o2100.LOCKOUT_S : Nat := 0x210004
abbrev o2100.AUTH_FAILURES : Nat := 0x210005
abbrev o2100.FRAMES_DISCARDED : Nat := 0x210006
abbrev o2100.REQUESTS_REFUSED : Nat := 0x210007
abbrev o2100.CACHED_REPLIES : Nat := 0x210008
abbrev o2100.NOTIFY_SPILLWAY : Nat := 0x210009
abbrev o2100.LOCKOUTS : Nat := 0x21000A

/-! Table 15-11 Object 2101h, Session table -/
abbrev o2101.SESSION_ENTRY : Nat := 0x210101

/-! Table 15-13 Object 2102h, Role secrets -/
abbrev o2102.SECRET_OPERATOR : Nat := 0x210201
abbrev o2102.SECRET_INSTALLER : Nat := 0x210202
abbrev o2102.SECRET_MAKER : Nat := 0x210203
abbrev o2102.SECRETS_SET : Nat := 0x210204

/-! Table 15-14 Object 2103h, Audit record -/
abbrev o2103.AUDIT_NEWEST : Nat := 0x210301
abbrev o2103.AUDIT_OLDEST : Nat := 0x210302
abbrev o2103.AUDIT_SELECT : Nat := 0x210303
abbrev o2103.AUDIT_WINDOW : Nat := 0x210304
abbrev o2103.AUDIT_LOST : Nat := 0x210305
abbrev o2103.AUDIT_ERASED : Nat := 0x210306

/-! Table 18-12 Object 2800h, Event routing -/
abbrev o2800.INT0_ROUTE : Nat := 0x280001
abbrev o2800.INT1_ROUTE : Nat := 0x280003
abbrev o2800.JOURNAL_ROUTE : Nat := 0x280005
abbrev o2800.HIGHEST_BREACH : Nat := 0x280007
abbrev o2800.LAST_ESCALATION : Nat := 0x280008

/-! Table 18-13 Object 2801h, Event flags -/
abbrev o2801.FLAGS : Nat := 0x280101
abbrev o2801.CLEAR : Nat := 0x280103

/-! Table 18-14 Object 2802h, Occurrence counters -/
abbrev o2802.COUNT : Nat := 0x280201

/-! Table 18-15 Object 2803h, Event journal -/
abbrev o2803.JOURNAL_NEWEST : Nat := 0x280301
abbrev o2803.JOURNAL_OLDEST : Nat := 0x280302
abbrev o2803.JOURNAL_SELECT : Nat := 0x280303
abbrev o2803.JOURNAL_WINDOW : Nat := 0x280304
abbrev o2803.JOURNAL_SPILLWAY : Nat := 0x280305

/-! Table 06-5 Object 3000h, Bar geometry -/
abbrev o3000.DIES : Nat := 0x300001
abbrev o3000.PRINT_COLUMNS : Nat := 0x300002
abbrev o3000.RANK_OFFSET : Nat := 0x300003
abbrev o3000.LARGEST_DELAY : Nat := 0x300004
abbrev o3000.DIE_TRIM : Nat := 0x300005

/-! Table 06-6 Object 3001h, Row offsets -/
abbrev o3001.ROW_OFFSET : Nat := 0x300101

/-! Table 06-7 Object 3002h, Stitch masks -/
abbrev o3002.STITCH_MASK : Nat := 0x300201

/-! Table 06-8 Object 3020h, Polder status -/
abbrev o3020.POLDER_STATUS : Nat := 0x302001
abbrev o3020.SPARE_STATUS : Nat := 0x302011
abbrev o3020.SERVING : Nat := 0x302012
abbrev o3020.SHADOWED : Nat := 0x302013
abbrev o3020.TAKEOVERS : Nat := 0x302014
abbrev o3020.LAST_TAKEOVER_US : Nat := 0x302015
abbrev o3020.LINES_UNCOVERED : Nat := 0x302016
abbrev o3020.SHADOW_MISMATCHES : Nat := 0x302017
abbrev o3020.HANDSHAKE_TIMEOUT_US : Nat := 0x302018
abbrev o3020.SHADOW_ENABLE : Nat := 0x302019
abbrev o3020.SHADOW_LINES : Nat := 0x30201A
abbrev o3020.FORCE_TAKEOVER : Nat := 0x30201B
abbrev o3020.RETURN_POLDER : Nat := 0x30201C

/-! Table 02-6 Object 3100h, Print mode -/
abbrev o3100.LINE_PITCH : Nat := 0x310001
abbrev o3100.PIXEL_BITS : Nat := 0x310002
abbrev o3100.MAX_LINE_RATE : Nat := 0x310003

/-! Table 02-7 Object 3101h, Pacing source -/
abbrev o3101.SOURCE : Nat := 0x310101
abbrev o3101.ACTIVE : Nat := 0x310102
abbrev o3101.AXIS0_SCALE_LINES : Nat := 0x310103
abbrev o3101.AXIS0_SCALE_COUNTS : Nat := 0x310104
abbrev o3101.XCHECK_WINDOW : Nat := 0x310105
abbrev o3101.XCHECK_TOL : Nat := 0x310106
abbrev o3101.FAILOVER : Nat := 0x310107
abbrev o3101.FAILOVERS : Nat := 0x310108
abbrev o3101.XCHECK_UNRESOLVED : Nat := 0x310109

/-! Table 07-10 Object 3400h, Health summary -/
abbrev o3400.GOOD : Nat := 0x340001
abbrev o3400.WEAK : Nat := 0x340002
abbrev o3400.PROBATION : Nat := 0x340003
abbrev o3400.OUT : Nat := 0x340004
abbrev o3400.GENERATION : Nat := 0x340005
abbrev o3400.PENDING : Nat := 0x340006
abbrev o3400.COLUMNS_3 : Nat := 0x340007
abbrev o3400.COLUMNS_2 : Nat := 0x340008
abbrev o3400.COLUMNS_1 : Nat := 0x340009
abbrev o3400.COLUMNS_0 : Nat := 0x34000A
abbrev o3400.REFILL_LINES : Nat := 0x34000B
abbrev o3400.USE_WEAK : Nat := 0x34000C
abbrev o3400.AUTO_RECOVER : Nat := 0x34000D
abbrev o3400.COMMITS : Nat := 0x34000E
abbrev o3400.INHIBITED_NOZZLES : Nat := 0x34000F

/-! Table 07-11 Object 3401h, Column health window -/
abbrev o3401.WINDOW_DIE : Nat := 0x340101
abbrev o3401.WINDOW_COLUMN : Nat := 0x340102
abbrev o3401.COLUMN_HEALTH : Nat := 0x340103
abbrev o3401.VIEW : Nat := 0x340113

/-! Table 07-13 Object 3402h, Seepage -/
abbrev o3402.SEEPED_LEFT : Nat := 0x340201
abbrev o3402.SEEPED_RIGHT : Nat := 0x340202
abbrev o3402.DROPS_LOST : Nat := 0x340203
abbrev o3402.DROPS_INHIBITED : Nat := 0x340204
abbrev o3402.LAST_LOST_COLUMN : Nat := 0x340205
abbrev o3402.LAST_LOST_LINE : Nat := 0x340206
abbrev o3402.SEEPED_BY_POLDER : Nat := 0x340207
abbrev o3402.SEEP_RATE_LIMIT : Nat := 0x340217

/-! Table 07-14 Object 3403h, Health map -/
abbrev o3403.MAP : Nat := 0x340301
abbrev o3403.CAUSE_MAP : Nat := 0x340302

/-! Table 07-15 Object 3404h, Composer probe -/
abbrev o3404.PROBE_FIRST : Nat := 0x340401
abbrev o3404.PROBE_LAST : Nat := 0x340402
abbrev o3404.PROBE_ODD_ROW : Nat := 0x340403
abbrev o3404.PROBE_EVEN_ROW : Nat := 0x340404
abbrev o3404.PROBE_LINES : Nat := 0x340405
abbrev o3404.PROBE_ARM : Nat := 0x340406
abbrev o3404.PROBE_STATE : Nat := 0x340407
abbrev o3404.PROBE_START : Nat := 0x340408

/-! Table 07-16 Object 3405h, Assignment trace -/
abbrev o3405.TRACE_START : Nat := 0x340501
abbrev o3405.TRACE_LINE : Nat := 0x340509
abbrev o3405.TRACE_DEPTH : Nat := 0x340511
abbrev o3405.TRACE_SPILLWAY : Nat := 0x340512

/-! Table 08-7 Object 3600h, Firing timebase -/
abbrev o3600.FIRING_TIME : Nat := 0x360001
abbrev o3600.STAGGER_MODE : Nat := 0x360002
abbrev o3600.FIT_STATUS : Nat := 0x360003
abbrev o3600.FIT_SLOT : Nat := 0x360004
abbrev o3600.FIT_SPARE : Nat := 0x360005
abbrev o3600.CURRENT_BUDGET : Nat := 0x360006
abbrev o3600.HEAD_VOLTAGE_MV : Nat := 0x360007
abbrev o3600.PEAK_CURRENT : Nat := 0x360008
abbrev o3600.PEAK_HEATERS : Nat := 0x360009
abbrev o3600.SLOTS_FIRED : Nat := 0x36000A
abbrev o3600.SLOTS_DELAYED : Nat := 0x36000B

/-! Table 08-8 Object 3601h, Pulse tables -/
abbrev o3601.PULSE_ENTRY : Nat := 0x360101

/-! Table 08-9 Object 3602h, Die energy -/
abbrev o3602.DIE_ENERGY : Nat := 0x360201

/-! Table 08-11 Object 3603h, Energy selection -/
abbrev o3603.ROW_TRIM : Nat := 0x360301
abbrev o3603.BAND_EDGE : Nat := 0x360305

/-! Table 08-12 Object 3610h, Thermal limits -/
abbrev o3610.SOFT_LIMIT : Nat := 0x361001
abbrev o3610.SOFT_HYST : Nat := 0x361002
abbrev o3610.HARD_LIMIT : Nat := 0x361003
abbrev o3610.HARD_RELEASE : Nat := 0x361004
abbrev o3610.KW_ENABLE : Nat := 0x361005
abbrev o3610.KW_TARGET : Nat := 0x361006
abbrev o3610.KW_PERIOD_US : Nat := 0x361007
abbrev o3610.STALE_MS : Nat := 0x361008
abbrev o3610.HOT_STOPS : Nat := 0x361009
abbrev o3610.HOT_LINES : Nat := 0x36100A
abbrev o3610.HOT_DROPS : Nat := 0x36100B
abbrev o3610.HOTTEST_DIE : Nat := 0x36100C
abbrev o3610.HOTTEST_TEMP : Nat := 0x36100D
abbrev o3610.KW_LINES : Nat := 0x36100E

/-! Table 08-13 Object 3611h, Die thermal state -/
abbrev o3611.DIE_THERMAL : Nat := 0x361101

/-! Table 09-15 Object 3800h, Head link -/
abbrev o3800.POLL_PERIOD_US : Nat := 0x380001
abbrev o3800.EYE_MIN : Nat := 0x380002
abbrev o3800.LIFE_WRITE_MIN : Nat := 0x380003
abbrev o3800.DIES_UP : Nat := 0x380004
abbrev o3800.FRAMES_RESENT : Nat := 0x380005
abbrev o3800.LINES_MISSED : Nat := 0x380006
abbrev o3800.RESYNCS : Nat := 0x380007
abbrev o3800.RETRAINS : Nat := 0x380008
abbrev o3800.NO_REPLIES : Nat := 0x380009
abbrev o3800.SLIPS : Nat := 0x38000A

/-! Table 09-16 Object 3801h, Die link status -/
abbrev o3801.DIE_LINK : Nat := 0x380101

/-! Table 09-18 Object 3802h, Die quarantine -/
abbrev o3802.QUARANTINE_MASK : Nat := 0x380201
abbrev o3802.QUARANTINE_IN_FORCE : Nat := 0x380202
abbrev o3802.LINK_FAILED_MASK : Nat := 0x380203
abbrev o3802.RETRY : Nat := 0x380204
abbrev o3802.QUARANTINES : Nat := 0x380205

/-! Table 09-19 Object 3803h, Die identity -/
abbrev o3803.ID_DIE : Nat := 0x380301
abbrev o3803.DIE_SERIAL : Nat := 0x380302
abbrev o3803.DIE_VENDOR : Nat := 0x380303
abbrev o3803.RES_RANK : Nat := 0x380304
abbrev o3803.DW_RANK : Nat := 0x380305
abbrev o3803.DIE_SOFT_LIMIT : Nat := 0x380306
abbrev o3803.DIE_HARD_LIMIT : Nat := 0x380307
abbrev o3803.DEAD_COUNT : Nat := 0x380308
abbrev o3803.FIRES : Nat := 0x380309
abbrev o3803.POWERED_MIN : Nat := 0x38030D
abbrev o3803.ID_MEMORY : Nat := 0x38030E

/-! Table 09-20 Object 3804h, Die temperatures -/
abbrev o3804.DIE_SENSORS : Nat := 0x380401

/-! Table 09-21 Object 3805h, Resistance meter -/
abbrev o3805.METER_ENABLE : Nat := 0x380501
abbrev o3805.MEASUREMENTS : Nat := 0x380502
abbrev o3805.ABORTED : Nat := 0x380503
abbrev o3805.OPENS : Nat := 0x380504
abbrev o3805.SHORTS : Nat := 0x380505
abbrev o3805.DRIFTS : Nat := 0x380506
abbrev o3805.RECOVERIES : Nat := 0x380507
abbrev o3805.SWEEPS : Nat := 0x380508
abbrev o3805.REF_ERRORS : Nat := 0x380509
abbrev o3805.SENSE_FAULTS : Nat := 0x38050A
abbrev o3805.MAP_DIE : Nat := 0x38050B
abbrev o3805.RES_MAP : Nat := 0x38050C
abbrev o3805.LAST_RESULT : Nat := 0x38050D

/-! Table 03-16 Object 4000h, Raster link -/
abbrev o4000.ENABLE : Nat := 0x400001
abbrev o4000.MAX_RATE : Nat := 0x400002
abbrev o4000.LANE_MASK : Nat := 0x400003
abbrev o4000.AUTO_WIDEN : Nat := 0x400004
abbrev o4000.STATE : Nat := 0x400005
abbrev o4000.RATE : Nat := 0x400006
abbrev o4000.WIDTH : Nat := 0x400007
abbrev o4000.ACTIVE_LANES : Nat := 0x400008
abbrev o4000.STANDBY_LANES : Nat := 0x400009
abbrev o4000.FAILED_LANES : Nat := 0x40000A
abbrev o4000.REPLAY_TIMEOUT_US : Nat := 0x40000B
abbrev o4000.EYE_MIN : Nat := 0x40000C
abbrev o4000.RETRAIN : Nat := 0x40000D

/-! Table 03-17 Object 4001h, Raster lane status -/
abbrev o4001.LANE_STATUS : Nat := 0x400101

/-! Table 03-19 Object 4002h, Raster link counters -/
abbrev o4002.LCRC_ERRORS : Nat := 0x400201
abbrev o4002.HCRC_ERRORS : Nat := 0x400202
abbrev o4002.SEQ_GAPS : Nat := 0x400203
abbrev o4002.NACKS_SENT : Nat := 0x400204
abbrev o4002.NACKS_RECEIVED : Nat := 0x400205
abbrev o4002.REPLAYED : Nat := 0x400206
abbrev o4002.PROTOCOL_ERRORS : Nat := 0x400207
abbrev o4002.LANE_FAILURES : Nat := 0x400208
abbrev o4002.RESIZES : Nat := 0x400209
abbrev o4002.RETRAINS : Nat := 0x40020A
abbrev o4002.BRINGUPS : Nat := 0x40020B
abbrev o4002.FILL_DELETED : Nat := 0x40020C
abbrev o4002.FILL_INSERTED : Nat := 0x40020D
abbrev o4002.ECHO_RTT_NS : Nat := 0x40020E

/-! Table 03-20 Object 4003h, Raster link test -/
abbrev o4003.LOOP : Nat := 0x400301
abbrev o4003.PRBS_MASK : Nat := 0x400302
abbrev o4003.PRBS_RUN : Nat := 0x400303
abbrev o4003.PRBS_ERRORS : Nat := 0x400304

/-! Table 04-12 Object 4400h, DRAM configuration -/
abbrev o4400.DEVICE_WIDTH : Nat := 0x440001
abbrev o4400.DENSITY_GBIT : Nat := 0x440002
abbrev o4400.RANKS : Nat := 0x440003
abbrev o4400.DATA_RATE : Nat := 0x440004
abbrev o4400.SIZE_MIB : Nat := 0x440005
abbrev o4400.ECC_MODE : Nat := 0x440006
abbrev o4400.WRITE_CRC : Nat := 0x440007
abbrev o4400.MIRROR_MIB : Nat := 0x440008
abbrev o4400.MIRROR_LINES : Nat := 0x440009
abbrev o4400.SCRUB_HOURS : Nat := 0x44000A
abbrev o4400.ROW_ACT_LIMIT : Nat := 0x44000B
abbrev o4400.THROTTLE_NS : Nat := 0x44000C
abbrev o4400.CHANNEL_RESTORE : Nat := 0x44000D

/-! Table 04-13 Object 4401h, Freeboard -/
abbrev o4401.LINES : Nat := 0x440101
abbrev o4401.MS : Nat := 0x440102
abbrev o4401.ENTRY_MS : Nat := 0x440103
abbrev o4401.WARN_MS : Nat := 0x440104
abbrev o4401.RATE_FLOOR : Nat := 0x440105
abbrev o4401.LOWEST_MS : Nat := 0x440106
abbrev o4401.STARVED_LINES : Nat := 0x440107
abbrev o4401.STARVATIONS : Nat := 0x440108
abbrev o4401.FREE_MIB : Nat := 0x440109
abbrev o4401.STORE_MIB : Nat := 0x44010A

/-! Table 04-14 Object 4402h, DRAM port quality of service -/
abbrev o4402.LATENCY_NS : Nat := 0x440201
abbrev o4402.WEIGHT : Nat := 0x44020B

/-! Table 04-15 Object 4403h, DRAM status -/
abbrev o4403.CHANNELS : Nat := 0x440301
abbrev o4403.CE_COUNT : Nat := 0x440302
abbrev o4403.UE_COUNT : Nat := 0x440303
abbrev o4403.UE_FROM_MIRROR : Nat := 0x440304
abbrev o4403.SCRUB_PASSES : Nat := 0x440305
abbrev o4403.REFRESH_POSTPONED : Nat := 0x440306
abbrev o4403.REFRESH_FORCED : Nat := 0x440307
abbrev o4403.RFM_ISSUED : Nat := 0x440308
abbrev o4403.THROTTLES : Nat := 0x440309
abbrev o4403.INORDER_ENTRIES : Nat := 0x44030A
abbrev o4403.WRITE_CRC_RETRIES : Nat := 0x44030B
abbrev o4403.REFRESH_DOUBLED : Nat := 0x44030C
abbrev o4403.LAST_ERROR_ADDRESS : Nat := 0x44030D
abbrev o4403.WORST_LATENCY_NS : Nat := 0x44030E

/-! Table 04-16 Object 4404h, Page queue -/
abbrev o4404.PAGES_OPEN : Nat := 0x440401
abbrev o4404.PAGES_QUEUED : Nat := 0x440402
abbrev o4404.FIRING_TAG : Nat := 0x440403
abbrev o4404.FIRING_PAGES : Nat := 0x440404
abbrev o4404.PAGES_RELEASED : Nat := 0x440405
abbrev o4404.PAGES_REFUSED : Nat := 0x440406
abbrev o4404.PAGES_EVICTED : Nat := 0x440407

/-! Table 04-17 Object 4405h, DRAM training -/
abbrev o4405.EYE : Nat := 0x440501
abbrev o4405.TRAIN : Nat := 0x440515
abbrev o4405.TRAIN_RESULT : Nat := 0x440516

/-! Table 04-18 Object 4406h, Mirror and channel loss -/
abbrev o4406.HORIZON_LINES : Nat := 0x440601
abbrev o4406.MIRROR_USED_MIB : Nat := 0x440602
abbrev o4406.MISSING_BLOCKS : Nat := 0x440603
abbrev o4406.CHANNEL_LOSSES : Nat := 0x440604
abbrev o4406.BLOCKS_RESENT : Nat := 0x440605
abbrev o4406.LOST_CHANNEL : Nat := 0x440606

/-! Table 05-9 Object 4800h, Codec engine -/
abbrev o4800.RATIO_LIMIT : Nat := 0x480001
abbrev o4800.JOBS_IN_FLIGHT : Nat := 0x480002
abbrev o4800.JOBS_DONE : Nat := 0x480003
abbrev o4800.JOBS_FAILED : Nat := 0x480004
abbrev o4800.BLOCKS_CODED : Nat := 0x480005
abbrev o4800.RAW_FALLBACKS : Nat := 0x480006
abbrev o4800.VERIFY_FALLBACKS : Nat := 0x480007
abbrev o4800.BERM_FAILS : Nat := 0x480008

/-! Table 05-10 Object 4801h, Ingest verifier -/
abbrev o4801.BLOCKS_VERIFIED : Nat := 0x480101
abbrev o4801.BLOCKS_REFUSED : Nat := 0x480102
abbrev o4801.LAST_REASON : Nat := 0x480103
abbrev o4801.IN_VERIFY : Nat := 0x480104
abbrev o4801.LOG_SPILLWAY : Nat := 0x480105

/-! Table 05-11 Object 4802h, Refusal log -/
abbrev o4802.LOG_SEQ : Nat := 0x480201
abbrev o4802.ENTRY : Nat := 0x480202

/-! Table 10-9 Object 5000h, Camera binding and ports -/
abbrev o5000.BIND : Nat := 0x500001
abbrev o5000.LANES : Nat := 0x500003
abbrev o5000.MAX_RATE_MBPS : Nat := 0x500005
abbrev o5000.I2C_KHZ : Nat := 0x500007
abbrev o5000.I2C_ADDR : Nat := 0x500009
abbrev o5000.LANE_RATE_MBPS : Nat := 0x50000B

/-! Table 10-10 Object 5001h, Tile map -/
abbrev o5001.TILE : Nat := 0x500101

/-! Table 10-11 Object 5002h, Exposure -/
abbrev o5002.EXPOSURE_NS : Nat := 0x500201
abbrev o5002.GAIN_CDB : Nat := 0x500203
abbrev o5002.SENSOR_LATENCY : Nat := 0x500205
abbrev o5002.GENERATION : Nat := 0x500207
abbrev o5002.APPLIED_GEN : Nat := 0x500209
abbrev o5002.EXP_MAP : Nat := 0x50020B
abbrev o5002.GAIN_MAP : Nat := 0x50020D
abbrev o5002.WRITE_GUARD_US : Nat := 0x50020F

/-! Table 10-13 Object 5003h, Triggers and frames -/
abbrev o5003.VIEW_OFFSET : Nat := 0x500301
abbrev o5003.TRIG_WIDTH_NS : Nat := 0x500303
abbrev o5003.FRAME_LINES : Nat := 0x500305
abbrev o5003.FRAME_MODE : Nat := 0x500307
abbrev o5003.FRAME_PERIOD_US : Nat := 0x500309
abbrev o5003.MAX_PENDING : Nat := 0x50030B
abbrev o5003.FRAME_BUFFERS : Nat := 0x50030D
abbrev o5003.HOST_HOLD : Nat := 0x50030F
abbrev o5003.HOST_RELEASE : Nat := 0x500310

/-! Table 10-14 Object 5004h, Camera status -/
abbrev o5004.STATE : Nat := 0x500401
abbrev o5004.FRAMES : Nat := 0x500403
abbrev o5004.FRAMES_SPILLED : Nat := 0x500405
abbrev o5004.LINES_BAD : Nat := 0x500407
abbrev o5004.ECC_CORRECTED : Nat := 0x500409
abbrev o5004.TRIGGERS_SKIPPED : Nat := 0x50040B
abbrev o5004.TILE_LATE_LINES : Nat := 0x50040D
abbrev o5004.RESTARTS : Nat := 0x50040F
abbrev o5004.CONTROL_FAULTS : Nat := 0x500411
abbrev o5004.IGNORED_PACKETS : Nat := 0x500413
abbrev o5004.RESTART : Nat := 0x500415

/-! Table 11-4 Object 5200h, Inspection setup -/
abbrev o5200.COLUMN_ORIGIN : Nat := 0x520001
abbrev o5200.STATE : Nat := 0x520003
abbrev o5200.EXPECT_DEPTH : Nat := 0x520005
abbrev o5200.BG_FRAMES : Nat := 0x520007
abbrev o5200.MIN_EXPECT : Nat := 0x520008
abbrev o5200.EXCUSED_CELLS : Nat := 0x520009
abbrev o5200.FRAMES_ANALYSED : Nat := 0x52000A

/-! Table 11-5 Object 5201h, Streak findings -/
abbrev o5201.STREAK_THRESHOLD : Nat := 0x520101
abbrev o5201.EXCESS_THRESHOLD : Nat := 0x520102
abbrev o5201.MIN_LINES : Nat := 0x520103
abbrev o5201.CONFIRM_FRAMES : Nat := 0x520104
abbrev o5201.NAME_LINES : Nat := 0x520105
abbrev o5201.NAME_SCORE : Nat := 0x520106
abbrev o5201.NAME_MARGIN : Nat := 0x520107
abbrev o5201.NAME_PROBE_LINES : Nat := 0x520108
abbrev o5201.OUT_FRACTION : Nat := 0x520109
abbrev o5201.PROBATION_FRACTION : Nat := 0x52010A
abbrev o5201.RECHECK_MIN : Nat := 0x52010B
abbrev o5201.STREAKS_OPEN : Nat := 0x52010C
abbrev o5201.STREAKS_FOUND : Nat := 0x52010D
abbrev o5201.NAMED : Nat := 0x52010E
abbrev o5201.UNNAMED : Nat := 0x52010F
abbrev o5201.NAME_WAITS : Nat := 0x520110

/-! Table 11-6 Object 5202h, Density table -/
abbrev o5202.DENSITY : Nat := 0x520201

/-! Table 11-7 Object 5203h, Health proposals -/
abbrev o5203.POLICY_OUT : Nat := 0x520301
abbrev o5203.POLICY_PROBATION : Nat := 0x520302
abbrev o5203.POLICY_GOOD : Nat := 0x520303
abbrev o5203.AUTO_LIMIT : Nat := 0x520304
abbrev o5203.HELD : Nat := 0x520305
abbrev o5203.HELD_SELECT : Nat := 0x520306
abbrev o5203.HELD_PROPOSAL : Nat := 0x520307
abbrev o5203.APPROVE : Nat := 0x520308
abbrev o5203.REJECT : Nat := 0x520309
abbrev o5203.APPLIED : Nat := 0x52030A
abbrev o5203.REJECTED : Nat := 0x52030B
abbrev o5203.HELD_SPILLWAY : Nat := 0x52030C
abbrev o5203.DISCARDED : Nat := 0x52030D

/-! Table 11-8 Object 5204h, Registration -/
abbrev o5204.REG_CORRECT : Nat := 0x520401
abbrev o5204.REG_FRAMES : Nat := 0x520402
abbrev o5204.REG_DEADBAND : Nat := 0x520403
abbrev o5204.REG_STEP : Nat := 0x520404
abbrev o5204.REG_LIMIT : Nat := 0x520405
abbrev o5204.MIN_EDGES : Nat := 0x520406
abbrev o5204.REG_ZONE : Nat := 0x520407

/-! Table 11-9 Object 5205h, Zone compare -/
abbrev o5205.ZONE_RESIDUAL : Nat := 0x520501
abbrev o5205.ZONE_FRACTION : Nat := 0x520502
abbrev o5205.ZONE_TAKEOVER : Nat := 0x520503
abbrev o5205.ZONE_MISMATCHES : Nat := 0x520504

/-! Table 12-2 Object 5400h, Light setup -/
abbrev o5400.ENABLE : Nat := 0x540001
abbrev o5400.ON_NS : Nat := 0x540003
abbrev o5400.BLANK_NS : Nat := 0x54000B
abbrev o5400.EDGE_GUARD_NS : Nat := 0x54000C
abbrev o5400.DIAG_PERIOD_LINES : Nat := 0x54000D
abbrev o5400.COLS_FITTED : Nat := 0x54000E

/-! Table 12-3 Object 5401h, Column currents -/
abbrev o5401.COL_CURRENT_MA : Nat := 0x540101
abbrev o5401.SENSE_MOHM : Nat := 0x540111
abbrev o5401.SHORT_MV : Nat := 0x540112

/-! Table 12-4 Object 5402h, Light derating -/
abbrev o5402.KNEE_C : Nat := 0x540201
abbrev o5402.ZERO_C : Nat := 0x540202
abbrev o5402.LIGHT_TEMP : Nat := 0x540203
abbrev o5402.DERATE : Nat := 0x540205
abbrev o5402.GAIN_COMP_CDB : Nat := 0x540207

/-! Table 12-5 Object 5403h, Light status -/
abbrev o5403.STATE : Nat := 0x540301
abbrev o5403.FAILED_SEGMENTS : Nat := 0x540303
abbrev o5403.FAILED_COLUMNS : Nat := 0x540305
abbrev o5403.DIAG_DONE : Nat := 0x540306
abbrev o5403.DIAG_LINES : Nat := 0x540307
abbrev o5403.DIAG_SUSPECT : Nat := 0x540308
abbrev o5403.RESTORE : Nat := 0x540309

/-! Table 13-7 Objects 6000h–6003h, Axis 0–3 (same layout) -/
abbrev o6000.DRIVE_MODE : Nat := 0x600001
abbrev o6000.MICROSTEP : Nat := 0x600002
abbrev o6000.V_START : Nat := 0x600003
abbrev o6000.V_MAX : Nat := 0x600004
abbrev o6000.ACCEL : Nat := 0x600005
abbrev o6000.DECEL : Nat := 0x600006
abbrev o6000.LIMIT_DECEL : Nat := 0x600007
abbrev o6000.POSITION : Nat := 0x600008
abbrev o6000.POSITION_PRESET : Nat := 0x600009
abbrev o6000.VELOCITY : Nat := 0x60000A
abbrev o6000.COMMAND : Nat := 0x60000B
abbrev o6000.STATE : Nat := 0x60000C
abbrev o6000.STATUS : Nat := 0x60000D
abbrev o6000.LAST_COMMAND_ID : Nat := 0x60000E
abbrev o6000.LAST_RESULT : Nat := 0x60000F
abbrev o6000.HOME_DIR : Nat := 0x600010
abbrev o6000.HOME_SPEED : Nat := 0x600011
abbrev o6000.HOME_OFFSET : Nat := 0x600012
abbrev o6000.HOME_MAX_STEPS : Nat := 0x600013
abbrev o6000.HOME_BACKOFF : Nat := 0x600014
abbrev o6000.STEPS_ISSUED : Nat := 0x600015
abbrev o6000.STALLS : Nat := 0x600016

/-! Table 13-9 Object 6010h, Limit inputs -/
abbrev o6010.LIM_MAP : Nat := 0x601001
abbrev o6010.LIM_FILTER_NS : Nat := 0x601009
abbrev o6010.DEBOUNCE_US : Nat := 0x60100A
abbrev o6010.LIM_STATE : Nat := 0x60100B
abbrev o6010.LATCH : Nat := 0x60100C
abbrev o6010.CHATTER_EDGES : Nat := 0x601014

/-! Table 13-10 Objects 6011h–6014h, Axis current of axes 0–3 (same layout) -/
abbrev o6011.I_MIN_MA : Nat := 0x601101
abbrev o6011.I_MAX_MA : Nat := 0x601102
abbrev o6011.I_HOLD_MA : Nat := 0x601103
abbrev o6011.HOLD_DELAY_MS : Nat := 0x601104
abbrev o6011.SENSE_MOHM : Nat := 0x601105
abbrev o6011.HYST_MA : Nat := 0x601106
abbrev o6011.CHOP_BLANK_NS : Nat := 0x601107
abbrev o6011.OFF_MIN_NS : Nat := 0x601108
abbrev o6011.LOAD_FULL : Nat := 0x601109
abbrev o6011.STALL_STEPS : Nat := 0x60110A
abbrev o6011.LEARN : Nat := 0x60110B
abbrev o6011.LOAD : Nat := 0x60110C
abbrev o6011.CURRENT_MA : Nat := 0x60110D
abbrev o6011.OFFSET_MA : Nat := 0x60110E
abbrev o6011.CHOP_KHZ : Nat := 0x60110F

/-! Table 02-8 Objects 6400h and 6401h, Position channel 0 and 1 (same layout) -/
abbrev o6400.FORMAT : Nat := 0x640001
abbrev o6400.INVERT : Nat := 0x640002
abbrev o6400.FILTER_NS : Nat := 0x640003
abbrev o6400.SCALE_LINES : Nat := 0x640004
abbrev o6400.SCALE_COUNTS : Nat := 0x640005
abbrev o6400.INDEX_SOURCE : Nat := 0x640006
abbrev o6400.INDEX_NOMINAL : Nat := 0x640007
abbrev o6400.INDEX_TOL : Nat := 0x640008
abbrev o6400.WHEEL_MODE : Nat := 0x640009
abbrev o6400.WHEEL_TEETH : Nat := 0x64000A
abbrev o6400.COUNT : Nat := 0x64000B
abbrev o6400.COUNT_PRESET : Nat := 0x64000C
abbrev o6400.SPEED : Nat := 0x64000D
abbrev o6400.LAST_INDEX_COUNT : Nat := 0x64000E
abbrev o6400.LAST_INDEX_DELTA : Nat := 0x64000F
abbrev o6400.QUAD_ERRORS : Nat := 0x640010
abbrev o6400.INDEX_FAULTS : Nat := 0x640011
abbrev o6400.STATUS : Nat := 0x640012
abbrev o6400.STANDSTILL_MS : Nat := 0x640013

/-! Table 02-10 Object 6402h, High-water and pacing -/
abbrev o6402.JITTER_ALLOW : Nat := 0x640201
abbrev o6402.HWM_COUNT : Nat := 0x640202
abbrev o6402.FIRING_LINE : Nat := 0x640203
abbrev o6402.LINE_FRACTION : Nat := 0x640204
abbrev o6402.ORIGIN_MODE : Nat := 0x640205
abbrev o6402.LINE_ORIGIN : Nat := 0x640206
abbrev o6402.DEPTH : Nat := 0x640207
abbrev o6402.REVERSALS : Nat := 0x640208
abbrev o6402.DEEPEST_REVERSAL : Nat := 0x640209
abbrev o6402.LINES_SKIPPED : Nat := 0x64020A
abbrev o6402.LINE_RATE : Nat := 0x64020B

/-! Table 14-9 Object 7000h, Time base -/
abbrev o7000.STATE : Nat := 0x700001
abbrev o7000.LOCAL_TIME : Nat := 0x700002
abbrev o7000.LOCAL_FRACTION : Nat := 0x700003
abbrev o7000.RATE : Nat := 0x700004
abbrev o7000.RATE_ESTIMATE : Nat := 0x700005
abbrev o7000.OFFSET_NS : Nat := 0x700006
abbrev o7000.MEAN_PATH_NS : Nat := 0x700007
abbrev o7000.SLEW_LIMIT_PPB : Nat := 0x700008
abbrev o7000.SERVO_TC_MS : Nat := 0x700009
abbrev o7000.LOCK_NS : Nat := 0x70000A
abbrev o7000.PATH_JUMP_NS : Nat := 0x70000B
abbrev o7000.HOLDOVER_SYNCS : Nat := 0x70000C
abbrev o7000.RESTEP : Nat := 0x70000D
abbrev o7000.TAI_VALID : Nat := 0x70000E
abbrev o7000.MASTER_IDENTITY : Nat := 0x70000F
abbrev o7000.STEPS : Nat := 0x700010
abbrev o7000.PATH_CHANGES : Nat := 0x700011
abbrev o7000.OUTLIERS : Nat := 0x700012

/-! Table 14-10 Object 7001h, PTP -/
abbrev o7001.DOMAIN : Nat := 0x700101
abbrev o7001.DELAY_MECHANISM : Nat := 0x700102
abbrev o7001.MASTER_CAPABLE : Nat := 0x700103
abbrev o7001.PRIORITY1 : Nat := 0x700104
abbrev o7001.PRIORITY2 : Nat := 0x700105
abbrev o7001.CLOCK_CLASS : Nat := 0x700106
abbrev o7001.LOG_SYNC_INTERVAL : Nat := 0x700107
abbrev o7001.LOG_DELAY_INTERVAL : Nat := 0x700108
abbrev o7001.DELAY_AVG : Nat := 0x700109
abbrev o7001.PTP_ROLE : Nat := 0x70010A
abbrev o7001.SYNCS_RECEIVED : Nat := 0x70010B

/-! Table 14-11 Object 7002h, Port timing -/
abbrev o7002.PHY_TX_LATENCY_NS : Nat := 0x700201
abbrev o7002.PHY_RX_LATENCY_NS : Nat := 0x700203
abbrev o7002.ASYMMETRY_PS : Nat := 0x700205
abbrev o7002.PEER_DELAY_NS : Nat := 0x700207
abbrev o7002.SYNC_PORT : Nat := 0x700209

/-! Table 14-12 Object 7003h, Time triggers -/
abbrev o7003.TRIGGER_TIME : Nat := 0x700301
abbrev o7003.TRIGGER_CTRL : Nat := 0x700309
abbrev o7003.MOTION_CYCLE_US : Nat := 0x700311
abbrev o7003.LATE_TRIGGERS : Nat := 0x700312

/-! Table 14-13 Object 7004h, Captures and PPS -/
abbrev o7004.CAPTURE : Nat := 0x700401
abbrev o7004.TRIG_EDGE : Nat := 0x70040B
abbrev o7004.TRIG_FILTER_NS : Nat := 0x70040C
abbrev o7004.CAPTURE_SPILLWAY : Nat := 0x70040D
abbrev o7004.PPS_WIDTH_US : Nat := 0x70040E
abbrev o7004.PPS_IN_OFFSET_NS : Nat := 0x70040F

/-! Table 14-14 Object 7200h, Network -/
abbrev o7200.MAC_ADDRESS : Nat := 0x720001
abbrev o7200.PORT_ENABLE : Nat := 0x720002
abbrev o7200.PHY_ADDR : Nat := 0x720004
abbrev o7200.LINK_UP : Nat := 0x720006
abbrev o7200.AGEING_S : Nat := 0x720008
abbrev o7200.RING_ROLE : Nat := 0x720009
abbrev o7200.RING_STATE : Nat := 0x72000A
abbrev o7200.RING_CHECK_MS : Nat := 0x72000B
abbrev o7200.RING_ID : Nat := 0x72000C
abbrev o7200.RING_CHANGES : Nat := 0x72000D

/-! Table 14-15 Object 7201h, Port counters -/
abbrev o7201.FRAMES_IN : Nat := 0x720101
abbrev o7201.FRAMES_OUT : Nat := 0x720103
abbrev o7201.FCS_ERRORS : Nat := 0x720105
abbrev o7201.DROPPED : Nat := 0x720107
abbrev o7201.LINK_DOWNS : Nat := 0x720109
abbrev o7201.TX_TS_SPILLWAY : Nat := 0x72010B
abbrev o7201.TC_UNMATCHED : Nat := 0x72010C

/-! Table 18-16 Object 7400h, Mailbox channels -/
abbrev o7400.BINDING : Nat := 0x740001
abbrev o7400.MB_STATUS : Nat := 0x740021
abbrev o7400.FULL_REFUSALS : Nat := 0x740041
abbrev o7400.ORPHANS : Nat := 0x740042
abbrev o7400.EPOCHS : Nat := 0x740043

/-! Table 18-17 Object 7401h, Rings -/
abbrev o7401.RING_DESC : Nat := 0x740101
abbrev o7401.RING_SPILLWAY : Nat := 0x740111

/-! Table 18-18 Object 7402h, Lock registers -/
abbrev o7402.LOCK_STATE : Nat := 0x740201
abbrev o7402.CONTENDED : Nat := 0x740221
abbrev o7402.FORCED : Nat := 0x740222

/-! Table 19-7 Object 7800h, Calibration sets -/
abbrev o7800.SETS_VALID : Nat := 0x780001
abbrev o7800.SET_TEMP : Nat := 0x780002
abbrev o7800.JUNCTION_MEAN : Nat := 0x780007
abbrev o7800.CAL_GENERATION : Nat := 0x780008
abbrev o7800.INTERP : Nat := 0x780009
abbrev o7800.ITEM_QUALITY : Nat := 0x78000A
abbrev o7800.FACTORY_DATE : Nat := 0x780010

/-! Table 19-8 Object 7801h, Calibration verify -/
abbrev o7801.VERIFY_ITEM : Nat := 0x780101
abbrev o7801.VERIFY_INPUT_MV : Nat := 0x780102
abbrev o7801.VERIFY_STATE : Nat := 0x780103
abbrev o7801.VERIFY_QUALITY : Nat := 0x780104
abbrev o7801.VERIFY_REASON : Nat := 0x780105
abbrev o7801.VERIFY_DEVIATION : Nat := 0x780106
abbrev o7801.TRIMS : Nat := 0x780107
abbrev o7801.CLEAR_TRIM : Nat := 0x780108

/-! Table 19-9 Object 7C00h, Hold-up -/
abbrev o7C00.SAG_SOURCES : Nat := 0x7C0001
abbrev o7C00.VBUS_THRESHOLD_MV : Nat := 0x7C0002
abbrev o7C00.VBUS_RESTART_MV : Nat := 0x7C0003
abbrev o7C00.RESTART_MS : Nat := 0x7C0004
abbrev o7C00.AUTO_RESTART : Nat := 0x7C0005
abbrev o7C00.SAVE_COUNT : Nat := 0x7C0006
abbrev o7C00.RESTORE_STATUS : Nat := 0x7C0007
abbrev o7C00.RESTORE_FLAGS : Nat := 0x7C0008
abbrev o7C00.SAVE_TIME : Nat := 0x7C0009
abbrev o7C00.SAVE_CAUSE : Nat := 0x7C000A
abbrev o7C00.SAVE_MODE : Nat := 0x7C000B
abbrev o7C00.SAVED_FIRING_LINE : Nat := 0x7C000C
abbrev o7C00.SAVED_HWM_COUNT : Nat := 0x7C000D
abbrev o7C00.SAVED_LINE_ORIGIN : Nat := 0x7C000E
abbrev o7C00.SAVED_COUNT : Nat := 0x7C000F
abbrev o7C00.SAVED_PAGE : Nat := 0x7C0011

/-! Table 19-10 Object 7C01h, Supply monitors -/
abbrev o7C01.RAIL_MV : Nat := 0x7C0101
abbrev o7C01.VBUS_MV : Nat := 0x7C010C
abbrev o7C01.OUT_OF_RANGE : Nat := 0x7C010D
abbrev o7C01.JUNCTION_MAX : Nat := 0x7C010E
abbrev o7C01.JUNCTION_PEAK : Nat := 0x7C010F

/-! Table 19-11 Object 7C10h, Pace meters -/
abbrev o7C10.PACE : Nat := 0x7C1001
abbrev o7C10.PACE_LOWEST : Nat := 0x7C1019
abbrev o7C10.PACE_LOWEST_REGION : Nat := 0x7C101A

/-! Table 17-10 Object 7E00h, Firmware images -/
abbrev o7E00.RUNNING : Nat := 0x7E0001
abbrev o7E00.BOOTED : Nat := 0x7E0002
abbrev o7E00.PREFERRED : Nat := 0x7E0003
abbrev o7E00.IMAGE_VERSION : Nat := 0x7E0004
abbrev o7E00.IMAGE_STATE : Nat := 0x7E0006
abbrev o7E00.FALLBACKS : Nat := 0x7E0008

/-! Table 17-11 Object 7E01h, Image transfer -/
abbrev o7E01.IMAGE : Nat := 0x7E0101
abbrev o7E01.TRANSFER_STATE : Nat := 0x7E0102
abbrev o7E01.TRANSFER_ABORT : Nat := 0x7E0103

/-! Table 17-12 Object 7E02h, Image swap -/
abbrev o7E02.SWAP : Nat := 0x7E0201
abbrev o7E02.SWAP_STATE : Nat := 0x7E0202
abbrev o7E02.CONFIRM_S : Nat := 0x7E0203
abbrev o7E02.CONFIRM : Nat := 0x7E0204
abbrev o7E02.SWAPS : Nat := 0x7E0205

end Sys2Proof.Machine
end

