-- ==== Sys2Proof/Machine/Dictionary.lean ====
section
/-! DEFINITION. Machine/Dictionary.lean: the object dictionary of chapter 16: one row per subindex, or per run of
subindices that share a line of an object table, with its type, the rights of the three roles, its apply class, its
default and its range. The rows are those of the object tables of every chapter (R448, R449). -/
namespace Sys2Proof.Machine

/-- The data types of Table 16-1 that the dictionary uses. -/
inductive DType where
  | bool | i8 | i16 | i32 | u8 | u16 | u32 | u64 | str | octets | domain
  deriving DecidableEq, Repr

/-- The apply classes of Table 00-5; `none` is a read-only value. -/
inductive Apply where
  | none | i | t | p | q | b
  deriving DecidableEq, Repr

/-- One line of an object table: the subindices it covers, its type, the rights of operator, installer and maker
(0 none, 1 r, 2 w, 3 rw), its apply class, its default, the range of a written value, its length in octets, and whether
its table gives a default other than "—" (R442). -/
structure Row where
  first  : Nat
  last   : Nat
  type   : DType
  rights : Nat × Nat × Nat
  apply  : Apply
  dflt   : Int
  lo     : Int
  hi     : Int
  len    : Nat
  stored : Bool
  deriving DecidableEq, Repr

/-- One object: its index and its rows. -/
structure Obj where
  index : Nat
  rows  : List Row
  deriving DecidableEq, Repr

/-- Rows of Table 16-4 Object 1000h, Device type. -/
def rows1000 : List Row :=
  [⟨0x01, 0x01, .u32, (1, 1, 1), .none, 65537, 0, 4294967295, 4, true⟩]

/-- Rows of Table 16-5 Objects 1008h, 1009h and 100Ah, Device name, Hardware version and Software version (same layout). -/
def rows1008 : List Row :=
  [⟨0x01, 0x01, .str, (1, 1, 1), .none, 0, 0, 0, 16, false⟩]

/-- Rows of Table 16-6 Object 1010h, Store configuration. -/
def rows1010 : List Row :=
  [⟨0x01, 0x01, .u32, (0, 2, 2), .i, 0, 0, 4294967295, 4, false⟩,
   ⟨0x02, 0x02, .u8, (1, 1, 1), .none, 0, 0, 255, 1, true⟩]

/-- Rows of Table 16-7 Object 1011h, Restore defaults. -/
def rows1011 : List Row :=
  [⟨0x01, 0x01, .u32, (0, 2, 2), .q, 0, 0, 4294967295, 4, false⟩]

/-- Rows of Table 00-3 Identity subindices. -/
def rows1018 : List Row :=
  [⟨0x01, 0x01, .u32, (1, 1, 1), .none, 3898, 0, 4294967295, 4, true⟩,
   ⟨0x02, 0x02, .u32, (1, 1, 1), .none, 20768, 0, 4294967295, 4, true⟩,
   ⟨0x03, 0x03, .u32, (1, 1, 1), .none, 0, 0, 4294967295, 4, true⟩,
   ⟨0x04, 0x04, .u32, (1, 1, 1), .none, 0, 0, 4294967295, 4, true⟩]

/-- Rows of Table 16-8 Object 1020h, Configuration identity. -/
def rows1020 : List Row :=
  [⟨0x01, 0x01, .u32, (1, 3, 3), .i, 0, 0, 4294967295, 4, true⟩,
   ⟨0x02, 0x02, .u32, (1, 1, 1), .none, 0, 0, 4294967295, 4, false⟩,
   ⟨0x03, 0x03, .bool, (1, 1, 1), .none, 0, 0, 1, 1, true⟩,
   ⟨0x04, 0x04, .bool, (1, 1, 1), .none, 0, 0, 1, 1, true⟩]

/-- Rows of Table 16-9 Object 1030h, Object directory. -/
def rows1030 : List Row :=
  [⟨0x01, 0x01, .u16, (1, 1, 1), .none, 0, 0, 65535, 2, false⟩,
   ⟨0x02, 0x02, .domain, (1, 1, 1), .none, 0, 0, 0, 412, false⟩,
   ⟨0x03, 0x03, .u16, (1, 1, 1), .none, 0, 0, 65535, 2, false⟩,
   ⟨0x04, 0x04, .domain, (1, 1, 1), .none, 0, 0, 0, 14848, false⟩]

/-- Rows of Table 17-7 Object 2000h, Mode request. -/
def rows2000 : List Row :=
  [⟨0x01, 0x01, .u8, (3, 3, 3), .i, 1, 0, 255, 1, true⟩,
   ⟨0x02, 0x02, .u8, (3, 3, 3), .i, 0, 0, 1, 1, true⟩,
   ⟨0x03, 0x03, .u32, (1, 1, 1), .none, 0, 0, 4294967295, 4, true⟩]

/-- Rows of Table 17-8 Object 2001h, Mode state. -/
def rows2001 : List Row :=
  [⟨0x01, 0x01, .u8, (1, 1, 1), .none, 0, 0, 255, 1, true⟩,
   ⟨0x02, 0x02, .u8, (1, 1, 1), .none, 0, 0, 255, 1, true⟩,
   ⟨0x03, 0x03, .u8, (1, 1, 1), .none, 0, 0, 255, 1, true⟩,
   ⟨0x04, 0x04, .u8, (1, 1, 1), .none, 0, 0, 255, 1, true⟩,
   ⟨0x05, 0x05, .u64, (1, 1, 1), .none, 0, 0, 18446744073709551615, 8, true⟩,
   ⟨0x06, 0x06, .u32, (1, 1, 1), .none, 0, 0, 4294967295, 4, true⟩,
   ⟨0x07, 0x07, .u32, (1, 1, 1), .none, 0, 0, 4294967295, 4, true⟩,
   ⟨0x08, 0x08, .u64, (1, 1, 1), .none, 0, 0, 18446744073709551615, 8, true⟩,
   ⟨0x09, 0x09, .u32, (1, 1, 1), .none, 0, 0, 4294967295, 4, true⟩]

/-- Rows of Table 17-9 Object 2002h, Tide lines. -/
def rows2002 : List Row :=
  [⟨0x01, 0x01, .u32, (1, 3, 3), .i, 4096, 2048, 1048576, 4, true⟩,
   ⟨0x02, 0x02, .u16, (1, 3, 3), .i, 200, 20, 10000, 2, true⟩,
   ⟨0x03, 0x03, .bool, (1, 3, 3), .i, 0, 0, 1, 1, true⟩,
   ⟨0x04, 0x04, .u64, (1, 3, 3), .i, 0, 0, 18446744073709551615, 8, true⟩,
   ⟨0x05, 0x05, .u8, (1, 1, 1), .none, 0, 0, 255, 1, true⟩,
   ⟨0x06, 0x06, .u64, (1, 1, 1), .none, 0, 0, 18446744073709551615, 8, true⟩,
   ⟨0x07, 0x07, .u32, (1, 1, 1), .none, 0, 0, 4294967295, 4, true⟩,
   ⟨0x08, 0x08, .u32, (1, 1, 1), .none, 0, 0, 4294967295, 4, true⟩,
   ⟨0x09, 0x09, .u32, (1, 1, 1), .none, 0, 0, 4294967295, 4, true⟩,
   ⟨0x0A, 0x0A, .u16, (1, 1, 1), .none, 255, 0, 65535, 2, true⟩]

/-- Rows of Table 15-10 Object 2100h, Aqlet sessions. -/
def rows2100 : List Row :=
  [⟨0x01, 0x01, .u8, (1, 1, 1), .none, 0, 0, 255, 1, true⟩,
   ⟨0x02, 0x02, .u16, (1, 3, 3), .i, 60, 10, 3600, 2, true⟩,
   ⟨0x03, 0x03, .u8, (1, 1, 3), .i, 5, 3, 20, 1, true⟩,
   ⟨0x04, 0x04, .u16, (1, 1, 3), .i, 300, 10, 3600, 2, true⟩,
   ⟨0x05, 0x05, .u32, (1, 1, 1), .none, 0, 0, 4294967295, 4, true⟩,
   ⟨0x06, 0x06, .u32, (1, 1, 1), .none, 0, 0, 4294967295, 4, true⟩,
   ⟨0x07, 0x07, .u32, (1, 1, 1), .none, 0, 0, 4294967295, 4, true⟩,
   ⟨0x08, 0x08, .u32, (1, 1, 1), .none, 0, 0, 4294967295, 4, true⟩,
   ⟨0x09, 0x09, .u32, (1, 1, 1), .none, 0, 0, 4294967295, 4, true⟩,
   ⟨0x0A, 0x0A, .u32, (1, 1, 1), .none, 0, 0, 4294967295, 4, true⟩]

/-- Rows of Table 15-11 Object 2101h, Session table. -/
def rows2101 : List Row :=
  [⟨0x01, 0x08, .u64, (1, 1, 1), .none, 0, 0, 18446744073709551615, 8, true⟩]

/-- Rows of Table 15-13 Object 2102h, Role secrets. -/
def rows2102 : List Row :=
  [⟨0x01, 0x01, .octets, (0, 0, 2), .i, 0, 0, 0, 32, true⟩,
   ⟨0x02, 0x02, .octets, (0, 0, 2), .i, 0, 0, 0, 32, true⟩,
   ⟨0x03, 0x03, .octets, (0, 0, 2), .i, 0, 0, 0, 32, true⟩,
   ⟨0x04, 0x04, .u8, (1, 1, 1), .none, 0, 0, 255, 1, true⟩]

/-- Rows of Table 15-14 Object 2103h, Audit record. -/
def rows2103 : List Row :=
  [⟨0x01, 0x01, .u32, (0, 1, 1), .none, 0, 0, 4294967295, 4, false⟩,
   ⟨0x02, 0x02, .u32, (0, 1, 1), .none, 0, 0, 4294967295, 4, false⟩,
   ⟨0x03, 0x03, .u32, (0, 3, 3), .i, 0, 0, 4294967295, 4, true⟩,
   ⟨0x04, 0x04, .domain, (0, 1, 1), .none, 0, 0, 0, 32768, false⟩,
   ⟨0x05, 0x05, .u32, (0, 1, 1), .none, 0, 0, 4294967295, 4, true⟩,
   ⟨0x06, 0x06, .u32, (0, 1, 1), .none, 0, 0, 4294967295, 4, true⟩]

/-- Rows of Table 18-12 Object 2800h, Event routing. -/
def rows2800 : List Row :=
  [⟨0x01, 0x01, .u64, (1, 3, 3), .i, 0, 0, 18446744073709551615, 8, true⟩,
   ⟨0x02, 0x02, .u64, (1, 3, 3), .i, 234187180623265792, 0, 18446744073709551615, 8, true⟩,
   ⟨0x03, 0x03, .u64, (1, 3, 3), .i, 6, 0, 18446744073709551615, 8, true⟩,
   ⟨0x04, 0x04, .u64, (1, 3, 3), .i, 0, 0, 18446744073709551615, 8, true⟩,
   ⟨0x05, 0x05, .u64, (1, 3, 3), .i, 18446744073709551615, 0, 18446744073709551615, 8, true⟩,
   ⟨0x06, 0x06, .u64, (1, 3, 3), .i, 18356672081162141695, 0, 18446744073709551615, 8, true⟩,
   ⟨0x07, 0x07, .u8, (1, 1, 1), .none, 0, 0, 255, 1, true⟩,
   ⟨0x08, 0x08, .u16, (1, 1, 1), .none, 0, 0, 65535, 2, true⟩]

/-- Rows of Table 18-13 Object 2801h, Event flags. -/
def rows2801 : List Row :=
  [⟨0x01, 0x02, .u64, (1, 1, 1), .none, 0, 0, 18446744073709551615, 8, true⟩,
   ⟨0x03, 0x04, .u64, (0, 2, 2), .i, 0, 0, 18446744073709551615, 8, false⟩]

/-- Rows of Table 18-14 Object 2802h, Occurrence counters. -/
def rows2802 : List Row :=
  [⟨0x01, 0x80, .u32, (1, 1, 1), .none, 0, 0, 4294967295, 4, true⟩]

/-- Rows of Table 18-15 Object 2803h, Event journal. -/
def rows2803 : List Row :=
  [⟨0x01, 0x01, .u32, (1, 1, 1), .none, 0, 0, 4294967295, 4, false⟩,
   ⟨0x02, 0x02, .u32, (1, 1, 1), .none, 0, 0, 4294967295, 4, false⟩,
   ⟨0x03, 0x03, .u32, (1, 3, 3), .i, 0, 0, 4294967295, 4, true⟩,
   ⟨0x04, 0x04, .domain, (1, 1, 1), .none, 0, 0, 0, 32768, false⟩,
   ⟨0x05, 0x05, .u32, (1, 1, 1), .none, 0, 0, 4294967295, 4, true⟩]

/-- Rows of Table 06-5 Object 3000h, Bar geometry. -/
def rows3000 : List Row :=
  [⟨0x01, 0x01, .u8, (1, 3, 3), .q, 64, 1, 64, 1, true⟩,
   ⟨0x02, 0x02, .u32, (1, 1, 1), .none, 63520, 0, 4294967295, 4, true⟩,
   ⟨0x03, 0x03, .u16, (1, 3, 3), .q, 9600, 0, 32000, 2, true⟩,
   ⟨0x04, 0x04, .u16, (1, 1, 1), .none, 636, 0, 65535, 2, true⟩,
   ⟨0x05, 0x44, .i16, (1, 3, 3), .t, 0, (-128), 128, 2, true⟩]

/-- Rows of Table 06-6 Object 3001h, Row offsets. -/
def rows3001 : List Row :=
  [⟨0x01, 0x01, .u16, (1, 3, 3), .q, 0, 0, 1008, 2, true⟩,
   ⟨0x02, 0x02, .u16, (1, 3, 3), .q, 192, 0, 1008, 2, true⟩,
   ⟨0x03, 0x03, .u16, (1, 3, 3), .q, 384, 0, 1008, 2, true⟩,
   ⟨0x04, 0x04, .u16, (1, 3, 3), .q, 576, 0, 1008, 2, true⟩]

/-- Rows of Table 06-7 Object 3002h, Stitch masks. -/
def rows3002 : List Row :=
  [⟨0x01, 0x3F, .u64, (1, 3, 3), .t, 0, 0, 18446744073709551615, 8, true⟩]

/-- Rows of Table 06-8 Object 3020h, Polder status. -/
def rows3020 : List Row :=
  [⟨0x01, 0x10, .u32, (1, 1, 1), .none, 0, 0, 4294967295, 4, false⟩,
   ⟨0x11, 0x11, .u32, (1, 1, 1), .none, 0, 0, 4294967295, 4, false⟩,
   ⟨0x12, 0x12, .u8, (1, 1, 1), .none, 255, 0, 255, 1, true⟩,
   ⟨0x13, 0x13, .u8, (1, 1, 1), .none, 255, 0, 255, 1, true⟩,
   ⟨0x14, 0x14, .u32, (1, 1, 1), .none, 0, 0, 4294967295, 4, true⟩,
   ⟨0x15, 0x15, .u32, (1, 1, 1), .none, 0, 0, 4294967295, 4, true⟩,
   ⟨0x16, 0x16, .u32, (1, 1, 1), .none, 0, 0, 4294967295, 4, true⟩,
   ⟨0x17, 0x17, .u32, (1, 1, 1), .none, 0, 0, 4294967295, 4, true⟩,
   ⟨0x18, 0x18, .u16, (1, 3, 3), .i, 100, 20, 400, 2, true⟩,
   ⟨0x19, 0x19, .bool, (1, 3, 3), .i, 1, 0, 1, 1, true⟩,
   ⟨0x1A, 0x1A, .u32, (1, 3, 3), .i, 4096, 1024, 1048576, 4, true⟩,
   ⟨0x1B, 0x1B, .u8, (0, 2, 2), .i, 0, 0, 15, 1, false⟩,
   ⟨0x1C, 0x1C, .u8, (0, 2, 2), .t, 0, 0, 15, 1, false⟩]

/-- Rows of Table 02-6 Object 3100h, Print mode. -/
def rows3100 : List Row :=
  [⟨0x01, 0x01, .u16, (1, 3, 3), .q, 1200, 600, 1200, 2, true⟩,
   ⟨0x02, 0x02, .u8, (1, 3, 3), .q, 2, 1, 2, 1, true⟩,
   ⟨0x03, 0x03, .u32, (1, 3, 3), .q, 192000, 1, 192000, 4, true⟩]

/-- Rows of Table 02-7 Object 3101h, Pacing source. -/
def rows3101 : List Row :=
  [⟨0x01, 0x01, .u8, (1, 3, 3), .q, 0, 0, 6, 1, true⟩,
   ⟨0x02, 0x02, .u8, (1, 1, 1), .none, 0, 0, 255, 1, true⟩,
   ⟨0x03, 0x03, .u32, (1, 3, 3), .q, 1, 0, 4294967295, 4, true⟩,
   ⟨0x04, 0x04, .u32, (1, 3, 3), .q, 1, 1, 4294967295, 4, true⟩,
   ⟨0x05, 0x05, .u32, (1, 3, 3), .i, 4096, 256, 1048576, 4, true⟩,
   ⟨0x06, 0x06, .u16, (1, 3, 3), .i, 64, 0, 65535, 2, true⟩,
   ⟨0x07, 0x07, .bool, (1, 3, 3), .i, 1, 0, 1, 1, true⟩,
   ⟨0x08, 0x08, .u32, (1, 1, 1), .none, 0, 0, 4294967295, 4, true⟩,
   ⟨0x09, 0x09, .bool, (1, 1, 1), .none, 0, 0, 1, 1, true⟩]

/-- Rows of Table 07-10 Object 3400h, Health summary. -/
def rows3400 : List Row :=
  [⟨0x01, 0x01, .u32, (1, 1, 1), .none, 0, 0, 4294967295, 4, false⟩,
   ⟨0x02, 0x02, .u32, (1, 1, 1), .none, 0, 0, 4294967295, 4, false⟩,
   ⟨0x03, 0x03, .u32, (1, 1, 1), .none, 0, 0, 4294967295, 4, false⟩,
   ⟨0x04, 0x04, .u32, (1, 1, 1), .none, 0, 0, 4294967295, 4, false⟩,
   ⟨0x05, 0x05, .u32, (1, 1, 1), .none, 0, 0, 4294967295, 4, true⟩,
   ⟨0x06, 0x06, .u32, (1, 1, 1), .none, 0, 0, 4294967295, 4, true⟩,
   ⟨0x07, 0x07, .u32, (1, 1, 1), .none, 0, 0, 4294967295, 4, false⟩,
   ⟨0x08, 0x08, .u32, (1, 1, 1), .none, 0, 0, 4294967295, 4, false⟩,
   ⟨0x09, 0x09, .u32, (1, 1, 1), .none, 0, 0, 4294967295, 4, false⟩,
   ⟨0x0A, 0x0A, .u32, (1, 1, 1), .none, 0, 0, 4294967295, 4, false⟩,
   ⟨0x0B, 0x0B, .u8, (1, 1, 1), .none, 3, 0, 255, 1, true⟩,
   ⟨0x0C, 0x0C, .bool, (1, 3, 3), .t, 1, 0, 1, 1, true⟩,
   ⟨0x0D, 0x0D, .bool, (1, 3, 3), .i, 1, 0, 1, 1, true⟩,
   ⟨0x0E, 0x0E, .u32, (1, 1, 1), .none, 0, 0, 4294967295, 4, true⟩,
   ⟨0x0F, 0x0F, .u16, (1, 1, 1), .none, 0, 0, 65535, 2, true⟩]

/-- Rows of Table 07-11 Object 3401h, Column health window. -/
def rows3401 : List Row :=
  [⟨0x01, 0x01, .u8, (1, 3, 3), .i, 0, 0, 63, 1, true⟩,
   ⟨0x02, 0x02, .u16, (1, 3, 3), .i, 0, 0, 1008, 2, true⟩,
   ⟨0x03, 0x12, .u8, (1, 3, 3), .t, 0, 0, 255, 1, true⟩,
   ⟨0x13, 0x13, .u8, (1, 3, 3), .i, 0, 0, 2, 1, true⟩]

/-- Rows of Table 07-13 Object 3402h, Seepage. -/
def rows3402 : List Row :=
  [⟨0x01, 0x01, .u32, (1, 1, 1), .none, 0, 0, 4294967295, 4, true⟩,
   ⟨0x02, 0x02, .u32, (1, 1, 1), .none, 0, 0, 4294967295, 4, true⟩,
   ⟨0x03, 0x03, .u32, (1, 1, 1), .none, 0, 0, 4294967295, 4, true⟩,
   ⟨0x04, 0x04, .u32, (1, 1, 1), .none, 0, 0, 4294967295, 4, true⟩,
   ⟨0x05, 0x05, .u32, (1, 1, 1), .none, 0, 0, 4294967295, 4, true⟩,
   ⟨0x06, 0x06, .u64, (1, 1, 1), .none, 0, 0, 18446744073709551615, 8, true⟩,
   ⟨0x07, 0x16, .u32, (1, 1, 1), .none, 0, 0, 4294967295, 4, true⟩,
   ⟨0x17, 0x17, .u32, (1, 3, 3), .i, 10000, 1, 10000000, 4, true⟩]

/-- Rows of Table 07-14 Object 3403h, Health map. -/
def rows3403 : List Row :=
  [⟨0x01, 0x01, .domain, (1, 3, 3), .t, 0, 0, 0, 65536, true⟩,
   ⟨0x02, 0x02, .domain, (1, 1, 1), .none, 0, 0, 0, 65536, true⟩]

/-- Rows of Table 07-15 Object 3404h, Composer probe. -/
def rows3404 : List Row :=
  [⟨0x01, 0x01, .u32, (1, 3, 3), .i, 0, 0, 63519, 4, true⟩,
   ⟨0x02, 0x02, .u32, (1, 3, 3), .i, 0, 0, 63519, 4, true⟩,
   ⟨0x03, 0x03, .u8, (1, 3, 3), .i, 255, 0, 255, 1, true⟩,
   ⟨0x04, 0x04, .u8, (1, 3, 3), .i, 255, 0, 255, 1, true⟩,
   ⟨0x05, 0x05, .u32, (1, 3, 3), .i, 1024, 64, 65536, 4, true⟩,
   ⟨0x06, 0x06, .bool, (0, 2, 2), .t, 0, 0, 1, 1, false⟩,
   ⟨0x07, 0x07, .u8, (1, 1, 1), .none, 0, 0, 255, 1, true⟩,
   ⟨0x08, 0x08, .u64, (1, 1, 1), .none, 0, 0, 18446744073709551615, 8, true⟩]

/-- Rows of Table 07-16 Object 3405h, Assignment trace. -/
def rows3405 : List Row :=
  [⟨0x01, 0x08, .u32, (1, 3, 3), .i, 4294967295, 0, 4294967295, 4, true⟩,
   ⟨0x09, 0x10, .u64, (1, 1, 1), .none, 0, 0, 18446744073709551615, 8, true⟩,
   ⟨0x11, 0x11, .u16, (1, 1, 1), .none, 4096, 0, 65535, 2, true⟩,
   ⟨0x12, 0x12, .u32, (1, 1, 1), .none, 0, 0, 4294967295, 4, true⟩]

/-- Rows of Table 08-7 Object 3600h, Firing timebase. -/
def rows3600 : List Row :=
  [⟨0x01, 0x01, .u64, (1, 1, 1), .none, 0, 0, 18446744073709551615, 8, false⟩,
   ⟨0x02, 0x02, .u8, (1, 3, 3), .q, 1, 0, 1, 1, true⟩,
   ⟨0x03, 0x03, .u8, (1, 1, 1), .none, 0, 0, 255, 1, true⟩,
   ⟨0x04, 0x04, .u32, (1, 1, 1), .none, 4150, 0, 4294967295, 4, true⟩,
   ⟨0x05, 0x05, .u32, (1, 1, 1), .none, 0, 0, 4294967295, 4, false⟩,
   ⟨0x06, 0x06, .u32, (1, 3, 3), .q, 0, 0, 4294967295, 4, true⟩,
   ⟨0x07, 0x07, .u16, (1, 3, 3), .q, 32000, 8000, 40000, 2, true⟩,
   ⟨0x08, 0x08, .u32, (1, 1, 1), .none, 0, 0, 4294967295, 4, false⟩,
   ⟨0x09, 0x09, .u32, (1, 1, 1), .none, 0, 0, 4294967295, 4, false⟩,
   ⟨0x0A, 0x0A, .u64, (1, 1, 1), .none, 0, 0, 18446744073709551615, 8, true⟩,
   ⟨0x0B, 0x0B, .u32, (1, 1, 1), .none, 0, 0, 4294967295, 4, true⟩]

/-- Rows of Table 08-8 Object 3601h, Pulse tables. -/
def rows3601 : List Row :=
  [⟨0x01, 0x02, .u64, (1, 3, 3), .t, 14989107109332254720, 0, 18446744073709551615, 8, true⟩,
   ⟨0x03, 0x04, .u64, (1, 3, 3), .t, 10377421090904866816, 0, 18446744073709551615, 8, true⟩,
   ⟨0x05, 0x06, .u64, (1, 3, 3), .t, 5765735072477478912, 0, 18446744073709551615, 8, true⟩,
   ⟨0x07, 0x08, .u64, (1, 3, 3), .t, 1154049054050091008, 0, 18446744073709551615, 8, true⟩,
   ⟨0x09, 0x0A, .u64, (1, 3, 3), .t, 14989107178051731456, 0, 18446744073709551615, 8, true⟩,
   ⟨0x0B, 0x0C, .u64, (1, 3, 3), .t, 10377421159624343552, 0, 18446744073709551615, 8, true⟩,
   ⟨0x0D, 0x0E, .u64, (1, 3, 3), .t, 5765735141196955648, 0, 18446744073709551615, 8, true⟩,
   ⟨0x0F, 0x10, .u64, (1, 3, 3), .t, 1154049122769567744, 0, 18446744073709551615, 8, true⟩,
   ⟨0x11, 0x12, .u64, (1, 3, 3), .t, 14989107246771208192, 0, 18446744073709551615, 8, true⟩,
   ⟨0x13, 0x14, .u64, (1, 3, 3), .t, 10377421228343820288, 0, 18446744073709551615, 8, true⟩,
   ⟨0x15, 0x16, .u64, (1, 3, 3), .t, 5765735209916432384, 0, 18446744073709551615, 8, true⟩,
   ⟨0x17, 0x18, .u64, (1, 3, 3), .t, 1154049191489044480, 0, 18446744073709551615, 8, true⟩,
   ⟨0x19, 0x1A, .u64, (1, 3, 3), .t, 14989107315490684928, 0, 18446744073709551615, 8, true⟩,
   ⟨0x1B, 0x1C, .u64, (1, 3, 3), .t, 10377421297063297024, 0, 18446744073709551615, 8, true⟩,
   ⟨0x1D, 0x1E, .u64, (1, 3, 3), .t, 5765735278635909120, 0, 18446744073709551615, 8, true⟩,
   ⟨0x1F, 0x20, .u64, (1, 3, 3), .t, 1154049260208521216, 0, 18446744073709551615, 8, true⟩,
   ⟨0x21, 0x22, .u64, (1, 3, 3), .t, 14989107384210161664, 0, 18446744073709551615, 8, true⟩,
   ⟨0x23, 0x24, .u64, (1, 3, 3), .t, 10377421365782773760, 0, 18446744073709551615, 8, true⟩,
   ⟨0x25, 0x26, .u64, (1, 3, 3), .t, 5765735347355385856, 0, 18446744073709551615, 8, true⟩,
   ⟨0x27, 0x28, .u64, (1, 3, 3), .t, 1154049328927997952, 0, 18446744073709551615, 8, true⟩,
   ⟨0x29, 0x2A, .u64, (1, 3, 3), .t, 14989107452929638400, 0, 18446744073709551615, 8, true⟩,
   ⟨0x2B, 0x2C, .u64, (1, 3, 3), .t, 10377421434502250496, 0, 18446744073709551615, 8, true⟩,
   ⟨0x2D, 0x2E, .u64, (1, 3, 3), .t, 5765735416074862592, 0, 18446744073709551615, 8, true⟩,
   ⟨0x2F, 0x30, .u64, (1, 3, 3), .t, 1154049397647474688, 0, 18446744073709551615, 8, true⟩,
   ⟨0x31, 0x32, .u64, (1, 3, 3), .t, 14989107521649115136, 0, 18446744073709551615, 8, true⟩,
   ⟨0x33, 0x34, .u64, (1, 3, 3), .t, 10377421503221727232, 0, 18446744073709551615, 8, true⟩,
   ⟨0x35, 0x36, .u64, (1, 3, 3), .t, 5765735484794339328, 0, 18446744073709551615, 8, true⟩,
   ⟨0x37, 0x38, .u64, (1, 3, 3), .t, 1154049466366951424, 0, 18446744073709551615, 8, true⟩,
   ⟨0x39, 0x3A, .u64, (1, 3, 3), .t, 14989107590368591872, 0, 18446744073709551615, 8, true⟩,
   ⟨0x3B, 0x3C, .u64, (1, 3, 3), .t, 10377421571941203968, 0, 18446744073709551615, 8, true⟩,
   ⟨0x3D, 0x3E, .u64, (1, 3, 3), .t, 5765735553513816064, 0, 18446744073709551615, 8, true⟩,
   ⟨0x3F, 0x40, .u64, (1, 3, 3), .t, 1154049535086428160, 0, 18446744073709551615, 8, true⟩]

/-- Rows of Table 08-9 Object 3602h, Die energy. -/
def rows3602 : List Row :=
  [⟨0x01, 0x40, .u16, (1, 3, 3), .t, 0, 0, 65535, 2, true⟩]

/-- Rows of Table 08-11 Object 3603h, Energy selection. -/
def rows3603 : List Row :=
  [⟨0x01, 0x04, .i8, (1, 3, 3), .t, 0, (-64), 64, 1, true⟩,
   ⟨0x05, 0x05, .i16, (1, 3, 3), .t, 200, (-32768), 32767, 2, true⟩,
   ⟨0x06, 0x06, .i16, (1, 3, 3), .t, 250, (-32768), 32767, 2, true⟩,
   ⟨0x07, 0x07, .i16, (1, 3, 3), .t, 300, (-32768), 32767, 2, true⟩,
   ⟨0x08, 0x08, .i16, (1, 3, 3), .t, 350, (-32768), 32767, 2, true⟩,
   ⟨0x09, 0x09, .i16, (1, 3, 3), .t, 400, (-32768), 32767, 2, true⟩,
   ⟨0x0A, 0x0A, .i16, (1, 3, 3), .t, 450, (-32768), 32767, 2, true⟩,
   ⟨0x0B, 0x0B, .i16, (1, 3, 3), .t, 500, (-32768), 32767, 2, true⟩]

/-- Rows of Table 08-12 Object 3610h, Thermal limits. -/
def rows3610 : List Row :=
  [⟨0x01, 0x01, .i16, (1, 3, 3), .i, 550, 300, 32767, 2, true⟩,
   ⟨0x02, 0x02, .i16, (1, 3, 3), .i, 20, 5, 100, 2, true⟩,
   ⟨0x03, 0x03, .i16, (1, 3, 3), .i, 700, 400, 800, 2, true⟩,
   ⟨0x04, 0x04, .i16, (1, 3, 3), .i, 50, 20, 200, 2, true⟩,
   ⟨0x05, 0x05, .bool, (1, 3, 3), .i, 1, 0, 1, 1, true⟩,
   ⟨0x06, 0x06, .i16, (1, 3, 3), .i, 350, (-32768), 32767, 2, true⟩,
   ⟨0x07, 0x07, .u16, (1, 3, 3), .i, 100, 20, 10000, 2, true⟩,
   ⟨0x08, 0x08, .u16, (1, 3, 3), .i, 10, 2, 100, 2, true⟩,
   ⟨0x09, 0x09, .u32, (1, 1, 1), .none, 0, 0, 4294967295, 4, true⟩,
   ⟨0x0A, 0x0A, .u32, (1, 1, 1), .none, 0, 0, 4294967295, 4, true⟩,
   ⟨0x0B, 0x0B, .u32, (1, 1, 1), .none, 0, 0, 4294967295, 4, true⟩,
   ⟨0x0C, 0x0C, .u8, (1, 1, 1), .none, 0, 0, 255, 1, true⟩,
   ⟨0x0D, 0x0D, .i16, (1, 1, 1), .none, 0, (-32768), 32767, 2, true⟩,
   ⟨0x0E, 0x0E, .u32, (1, 1, 1), .none, 0, 0, 4294967295, 4, true⟩]

/-- Rows of Table 08-13 Object 3611h, Die thermal state. -/
def rows3611 : List Row :=
  [⟨0x01, 0x40, .u32, (1, 1, 1), .none, 0, 0, 4294967295, 4, true⟩]

/-- Rows of Table 09-15 Object 3800h, Head link. -/
def rows3800 : List Row :=
  [⟨0x01, 0x01, .u16, (1, 3, 3), .i, 20, 5, 1000, 2, true⟩,
   ⟨0x02, 0x02, .u8, (1, 3, 3), .q, 24, 8, 48, 1, true⟩,
   ⟨0x03, 0x03, .u16, (1, 3, 3), .i, 60, 10, 1440, 2, true⟩,
   ⟨0x04, 0x04, .u8, (1, 1, 1), .none, 0, 0, 255, 1, true⟩,
   ⟨0x05, 0x05, .u32, (1, 1, 1), .none, 0, 0, 4294967295, 4, true⟩,
   ⟨0x06, 0x06, .u32, (1, 1, 1), .none, 0, 0, 4294967295, 4, true⟩,
   ⟨0x07, 0x07, .u32, (1, 1, 1), .none, 0, 0, 4294967295, 4, true⟩,
   ⟨0x08, 0x08, .u32, (1, 1, 1), .none, 0, 0, 4294967295, 4, true⟩,
   ⟨0x09, 0x09, .u32, (1, 1, 1), .none, 0, 0, 4294967295, 4, true⟩,
   ⟨0x0A, 0x0A, .u32, (1, 1, 1), .none, 0, 0, 4294967295, 4, true⟩]

/-- Rows of Table 09-16 Object 3801h, Die link status. -/
def rows3801 : List Row :=
  [⟨0x01, 0x40, .u32, (1, 1, 1), .none, 0, 0, 4294967295, 4, true⟩]

/-- Rows of Table 09-18 Object 3802h, Die quarantine. -/
def rows3802 : List Row :=
  [⟨0x01, 0x01, .u64, (1, 3, 3), .t, 0, 0, 18446744073709551615, 8, true⟩,
   ⟨0x02, 0x02, .u64, (1, 1, 1), .none, 0, 0, 18446744073709551615, 8, true⟩,
   ⟨0x03, 0x03, .u64, (1, 1, 1), .none, 0, 0, 18446744073709551615, 8, true⟩,
   ⟨0x04, 0x04, .u8, (0, 2, 2), .q, 0, 0, 63, 1, false⟩,
   ⟨0x05, 0x05, .u32, (1, 1, 1), .none, 0, 0, 4294967295, 4, true⟩]

/-- Rows of Table 09-19 Object 3803h, Die identity. -/
def rows3803 : List Row :=
  [⟨0x01, 0x01, .u8, (1, 3, 3), .i, 0, 0, 63, 1, true⟩,
   ⟨0x02, 0x02, .octets, (1, 1, 1), .none, 0, 0, 0, 8, false⟩,
   ⟨0x03, 0x03, .u32, (1, 1, 1), .none, 0, 0, 4294967295, 4, false⟩,
   ⟨0x04, 0x04, .u8, (1, 1, 1), .none, 0, 0, 255, 1, false⟩,
   ⟨0x05, 0x05, .u8, (1, 1, 1), .none, 0, 0, 255, 1, false⟩,
   ⟨0x06, 0x06, .i16, (1, 1, 1), .none, 0, (-32768), 32767, 2, false⟩,
   ⟨0x07, 0x07, .i16, (1, 1, 1), .none, 0, (-32768), 32767, 2, false⟩,
   ⟨0x08, 0x08, .u16, (1, 1, 1), .none, 0, 0, 65535, 2, false⟩,
   ⟨0x09, 0x0C, .u64, (1, 1, 1), .none, 0, 0, 18446744073709551615, 8, false⟩,
   ⟨0x0D, 0x0D, .u32, (1, 1, 1), .none, 0, 0, 4294967295, 4, false⟩,
   ⟨0x0E, 0x0E, .domain, (1, 1, 1), .none, 0, 0, 0, 8192, false⟩]

/-- Rows of Table 09-20 Object 3804h, Die temperatures. -/
def rows3804 : List Row :=
  [⟨0x01, 0x40, .u64, (1, 1, 1), .none, 9223512776490647552, 0, 18446744073709551615, 8, true⟩]

/-- Rows of Table 09-21 Object 3805h, Resistance meter. -/
def rows3805 : List Row :=
  [⟨0x01, 0x01, .bool, (1, 3, 3), .i, 1, 0, 1, 1, true⟩,
   ⟨0x02, 0x02, .u32, (1, 1, 1), .none, 0, 0, 4294967295, 4, true⟩,
   ⟨0x03, 0x03, .u32, (1, 1, 1), .none, 0, 0, 4294967295, 4, true⟩,
   ⟨0x04, 0x04, .u32, (1, 1, 1), .none, 0, 0, 4294967295, 4, true⟩,
   ⟨0x05, 0x05, .u32, (1, 1, 1), .none, 0, 0, 4294967295, 4, true⟩,
   ⟨0x06, 0x06, .u32, (1, 1, 1), .none, 0, 0, 4294967295, 4, true⟩,
   ⟨0x07, 0x07, .u32, (1, 1, 1), .none, 0, 0, 4294967295, 4, true⟩,
   ⟨0x08, 0x08, .u32, (1, 1, 1), .none, 0, 0, 4294967295, 4, true⟩,
   ⟨0x09, 0x09, .u32, (1, 1, 1), .none, 0, 0, 4294967295, 4, true⟩,
   ⟨0x0A, 0x0A, .u64, (1, 1, 1), .none, 0, 0, 18446744073709551615, 8, true⟩,
   ⟨0x0B, 0x0B, .u8, (1, 3, 3), .i, 0, 0, 63, 1, true⟩,
   ⟨0x0C, 0x0C, .domain, (1, 1, 1), .none, 0, 0, 0, 8192, false⟩,
   ⟨0x0D, 0x0D, .u64, (1, 1, 1), .none, 0, 0, 18446744073709551615, 8, true⟩]

/-- Rows of Table 03-16 Object 4000h, Raster link. -/
def rows4000 : List Row :=
  [⟨0x01, 0x01, .bool, (1, 3, 3), .q, 1, 0, 1, 1, true⟩,
   ⟨0x02, 0x02, .u8, (1, 3, 3), .q, 5, 0, 5, 1, true⟩,
   ⟨0x03, 0x03, .u8, (1, 3, 3), .q, 255, 0, 255, 1, true⟩,
   ⟨0x04, 0x04, .bool, (1, 3, 3), .i, 1, 0, 1, 1, true⟩,
   ⟨0x05, 0x05, .u8, (1, 1, 1), .none, 0, 0, 255, 1, true⟩,
   ⟨0x06, 0x06, .u8, (1, 1, 1), .none, 0, 0, 255, 1, true⟩,
   ⟨0x07, 0x07, .u8, (1, 1, 1), .none, 0, 0, 255, 1, true⟩,
   ⟨0x08, 0x08, .u8, (1, 1, 1), .none, 0, 0, 255, 1, true⟩,
   ⟨0x09, 0x09, .u8, (1, 1, 1), .none, 0, 0, 255, 1, true⟩,
   ⟨0x0A, 0x0A, .u8, (1, 1, 1), .none, 0, 0, 255, 1, true⟩,
   ⟨0x0B, 0x0B, .u16, (1, 3, 3), .i, 200, 20, 10000, 2, true⟩,
   ⟨0x0C, 0x0C, .u8, (1, 3, 3), .q, 32, 0, 255, 1, true⟩,
   ⟨0x0D, 0x0D, .bool, (0, 2, 2), .q, 0, 0, 1, 1, false⟩]

/-- Rows of Table 03-17 Object 4001h, Raster lane status. -/
def rows4001 : List Row :=
  [⟨0x01, 0x08, .u32, (1, 1, 1), .none, 0, 0, 4294967295, 4, true⟩]

/-- Rows of Table 03-19 Object 4002h, Raster link counters. -/
def rows4002 : List Row :=
  [⟨0x01, 0x01, .u32, (1, 1, 1), .none, 0, 0, 4294967295, 4, true⟩,
   ⟨0x02, 0x02, .u32, (1, 1, 1), .none, 0, 0, 4294967295, 4, true⟩,
   ⟨0x03, 0x03, .u32, (1, 1, 1), .none, 0, 0, 4294967295, 4, true⟩,
   ⟨0x04, 0x04, .u32, (1, 1, 1), .none, 0, 0, 4294967295, 4, true⟩,
   ⟨0x05, 0x05, .u32, (1, 1, 1), .none, 0, 0, 4294967295, 4, true⟩,
   ⟨0x06, 0x06, .u32, (1, 1, 1), .none, 0, 0, 4294967295, 4, true⟩,
   ⟨0x07, 0x07, .u32, (1, 1, 1), .none, 0, 0, 4294967295, 4, true⟩,
   ⟨0x08, 0x08, .u32, (1, 1, 1), .none, 0, 0, 4294967295, 4, true⟩,
   ⟨0x09, 0x09, .u32, (1, 1, 1), .none, 0, 0, 4294967295, 4, true⟩,
   ⟨0x0A, 0x0A, .u32, (1, 1, 1), .none, 0, 0, 4294967295, 4, true⟩,
   ⟨0x0B, 0x0B, .u32, (1, 1, 1), .none, 0, 0, 4294967295, 4, true⟩,
   ⟨0x0C, 0x0C, .u32, (1, 1, 1), .none, 0, 0, 4294967295, 4, true⟩,
   ⟨0x0D, 0x0D, .u32, (1, 1, 1), .none, 0, 0, 4294967295, 4, true⟩,
   ⟨0x0E, 0x0E, .u32, (1, 1, 1), .none, 0, 0, 4294967295, 4, true⟩]

/-- Rows of Table 03-20 Object 4003h, Raster link test. -/
def rows4003 : List Row :=
  [⟨0x01, 0x01, .u8, (1, 3, 3), .i, 0, 0, 3, 1, true⟩,
   ⟨0x02, 0x02, .u8, (1, 3, 3), .i, 0, 0, 255, 1, true⟩,
   ⟨0x03, 0x03, .bool, (1, 3, 3), .i, 0, 0, 1, 1, true⟩,
   ⟨0x04, 0x0B, .u32, (1, 1, 1), .none, 0, 0, 4294967295, 4, true⟩]

/-- Rows of Table 04-12 Object 4400h, DRAM configuration. -/
def rows4400 : List Row :=
  [⟨0x01, 0x01, .u8, (1, 3, 3), .b, 4, 4, 16, 1, true⟩,
   ⟨0x02, 0x02, .u8, (1, 3, 3), .b, 16, 8, 32, 1, true⟩,
   ⟨0x03, 0x03, .u8, (1, 3, 3), .b, 1, 1, 2, 1, true⟩,
   ⟨0x04, 0x04, .u16, (1, 3, 3), .b, 6400, 3200, 6400, 2, true⟩,
   ⟨0x05, 0x05, .u32, (1, 1, 1), .none, 0, 0, 4294967295, 4, false⟩,
   ⟨0x06, 0x06, .u8, (1, 1, 1), .none, 0, 0, 255, 1, false⟩,
   ⟨0x07, 0x07, .bool, (1, 3, 3), .b, 1, 0, 1, 1, true⟩,
   ⟨0x08, 0x08, .u32, (1, 3, 3), .b, 1024, 256, 8192, 4, true⟩,
   ⟨0x09, 0x09, .u32, (1, 3, 3), .q, 65536, 4096, 1048576, 4, true⟩,
   ⟨0x0A, 0x0A, .u16, (1, 3, 3), .i, 24, 1, 168, 2, true⟩,
   ⟨0x0B, 0x0B, .u16, (1, 3, 3), .i, 4096, 512, 32768, 2, true⟩,
   ⟨0x0C, 0x0C, .u16, (1, 3, 3), .i, 1000, 100, 10000, 2, true⟩,
   ⟨0x0D, 0x0D, .bool, (0, 2, 2), .q, 0, 0, 1, 1, false⟩]

/-- Rows of Table 04-13 Object 4401h, Freeboard. -/
def rows4401 : List Row :=
  [⟨0x01, 0x01, .u32, (1, 1, 1), .none, 0, 0, 4294967295, 4, true⟩,
   ⟨0x02, 0x02, .u32, (1, 1, 1), .none, 0, 0, 4294967295, 4, true⟩,
   ⟨0x03, 0x03, .u16, (1, 3, 3), .i, 250, 250, 10000, 2, true⟩,
   ⟨0x04, 0x04, .u16, (1, 3, 3), .i, 100, 100, 65535, 2, true⟩,
   ⟨0x05, 0x05, .u32, (1, 3, 3), .i, 19200, 1, 192000, 4, true⟩,
   ⟨0x06, 0x06, .u32, (1, 1, 1), .none, 0, 0, 4294967295, 4, true⟩,
   ⟨0x07, 0x07, .u32, (1, 1, 1), .none, 0, 0, 4294967295, 4, true⟩,
   ⟨0x08, 0x08, .u32, (1, 1, 1), .none, 0, 0, 4294967295, 4, true⟩,
   ⟨0x09, 0x09, .u32, (1, 1, 1), .none, 0, 0, 4294967295, 4, false⟩,
   ⟨0x0A, 0x0A, .u32, (1, 1, 1), .none, 0, 0, 4294967295, 4, false⟩]

/-- Rows of Table 04-14 Object 4402h, DRAM port quality of service. -/
def rows4402 : List Row :=
  [⟨0x01, 0x01, .u32, (1, 3, 3), .i, 4000, 0, 1000000, 4, true⟩,
   ⟨0x02, 0x03, .u32, (1, 3, 3), .i, 10000, 0, 1000000, 4, true⟩,
   ⟨0x04, 0x04, .u32, (1, 3, 3), .i, 20000, 0, 1000000, 4, true⟩,
   ⟨0x05, 0x06, .u32, (1, 3, 3), .i, 6000, 0, 1000000, 4, true⟩,
   ⟨0x07, 0x07, .u32, (1, 3, 3), .i, 20000, 0, 1000000, 4, true⟩,
   ⟨0x08, 0x08, .u32, (1, 3, 3), .i, 3000, 0, 1000000, 4, true⟩,
   ⟨0x09, 0x09, .u32, (1, 3, 3), .i, 6000, 0, 1000000, 4, true⟩,
   ⟨0x0A, 0x0A, .u32, (1, 3, 3), .i, 100000, 0, 1000000, 4, true⟩,
   ⟨0x0B, 0x0B, .u8, (1, 3, 3), .i, 64, 1, 255, 1, true⟩,
   ⟨0x0C, 0x0D, .u8, (1, 3, 3), .i, 32, 1, 255, 1, true⟩,
   ⟨0x0E, 0x0E, .u8, (1, 3, 3), .i, 16, 1, 255, 1, true⟩,
   ⟨0x0F, 0x10, .u8, (1, 3, 3), .i, 24, 1, 255, 1, true⟩,
   ⟨0x11, 0x11, .u8, (1, 3, 3), .i, 16, 1, 255, 1, true⟩,
   ⟨0x12, 0x13, .u8, (1, 3, 3), .i, 8, 1, 255, 1, true⟩,
   ⟨0x14, 0x14, .u8, (1, 3, 3), .i, 4, 1, 255, 1, true⟩]

/-- Rows of Table 04-15 Object 4403h, DRAM status. -/
def rows4403 : List Row :=
  [⟨0x01, 0x01, .u8, (1, 1, 1), .none, 0, 0, 255, 1, false⟩,
   ⟨0x02, 0x02, .u32, (1, 1, 1), .none, 0, 0, 4294967295, 4, true⟩,
   ⟨0x03, 0x03, .u32, (1, 1, 1), .none, 0, 0, 4294967295, 4, true⟩,
   ⟨0x04, 0x04, .u32, (1, 1, 1), .none, 0, 0, 4294967295, 4, true⟩,
   ⟨0x05, 0x05, .u32, (1, 1, 1), .none, 0, 0, 4294967295, 4, true⟩,
   ⟨0x06, 0x06, .u32, (1, 1, 1), .none, 0, 0, 4294967295, 4, true⟩,
   ⟨0x07, 0x07, .u32, (1, 1, 1), .none, 0, 0, 4294967295, 4, true⟩,
   ⟨0x08, 0x08, .u32, (1, 1, 1), .none, 0, 0, 4294967295, 4, true⟩,
   ⟨0x09, 0x09, .u32, (1, 1, 1), .none, 0, 0, 4294967295, 4, true⟩,
   ⟨0x0A, 0x0A, .u32, (1, 1, 1), .none, 0, 0, 4294967295, 4, true⟩,
   ⟨0x0B, 0x0B, .u32, (1, 1, 1), .none, 0, 0, 4294967295, 4, true⟩,
   ⟨0x0C, 0x0C, .bool, (1, 1, 1), .none, 0, 0, 1, 1, true⟩,
   ⟨0x0D, 0x0D, .u64, (1, 1, 1), .none, 0, 0, 18446744073709551615, 8, true⟩,
   ⟨0x0E, 0x17, .u32, (1, 1, 1), .none, 0, 0, 4294967295, 4, true⟩]

/-- Rows of Table 04-16 Object 4404h, Page queue. -/
def rows4404 : List Row :=
  [⟨0x01, 0x01, .u16, (1, 1, 1), .none, 0, 0, 65535, 2, true⟩,
   ⟨0x02, 0x02, .u16, (1, 1, 1), .none, 0, 0, 65535, 2, true⟩,
   ⟨0x03, 0x03, .u32, (1, 1, 1), .none, 0, 0, 4294967295, 4, true⟩,
   ⟨0x04, 0x04, .u8, (1, 1, 1), .none, 0, 0, 255, 1, true⟩,
   ⟨0x05, 0x05, .u32, (1, 1, 1), .none, 0, 0, 4294967295, 4, true⟩,
   ⟨0x06, 0x06, .u32, (1, 1, 1), .none, 0, 0, 4294967295, 4, true⟩,
   ⟨0x07, 0x07, .u32, (1, 1, 1), .none, 0, 0, 4294967295, 4, true⟩]

/-- Rows of Table 04-17 Object 4405h, DRAM training. -/
def rows4405 : List Row :=
  [⟨0x01, 0x14, .u32, (1, 1, 1), .none, 0, 0, 4294967295, 4, true⟩,
   ⟨0x15, 0x15, .bool, (0, 0, 2), .q, 0, 0, 1, 1, false⟩,
   ⟨0x16, 0x16, .u8, (1, 1, 1), .none, 0, 0, 255, 1, true⟩]

/-- Rows of Table 04-18 Object 4406h, Mirror and channel loss. -/
def rows4406 : List Row :=
  [⟨0x01, 0x01, .u32, (1, 1, 1), .none, 0, 0, 4294967295, 4, true⟩,
   ⟨0x02, 0x02, .u32, (1, 1, 1), .none, 0, 0, 4294967295, 4, true⟩,
   ⟨0x03, 0x03, .u32, (1, 1, 1), .none, 0, 0, 4294967295, 4, true⟩,
   ⟨0x04, 0x04, .u32, (1, 1, 1), .none, 0, 0, 4294967295, 4, true⟩,
   ⟨0x05, 0x05, .u32, (1, 1, 1), .none, 0, 0, 4294967295, 4, true⟩,
   ⟨0x06, 0x06, .u8, (1, 1, 1), .none, 0, 0, 255, 1, true⟩]

/-- Rows of Table 05-9 Object 4800h, Codec engine. -/
def rows4800 : List Row :=
  [⟨0x01, 0x01, .u16, (1, 3, 3), .i, 256, 16, 256, 2, true⟩,
   ⟨0x02, 0x02, .u8, (1, 1, 1), .none, 0, 0, 255, 1, true⟩,
   ⟨0x03, 0x03, .u32, (1, 1, 1), .none, 0, 0, 4294967295, 4, true⟩,
   ⟨0x04, 0x04, .u32, (1, 1, 1), .none, 0, 0, 4294967295, 4, true⟩,
   ⟨0x05, 0x05, .u32, (1, 1, 1), .none, 0, 0, 4294967295, 4, true⟩,
   ⟨0x06, 0x06, .u32, (1, 1, 1), .none, 0, 0, 4294967295, 4, true⟩,
   ⟨0x07, 0x07, .u32, (1, 1, 1), .none, 0, 0, 4294967295, 4, true⟩,
   ⟨0x08, 0x08, .u32, (1, 1, 1), .none, 0, 0, 4294967295, 4, true⟩]

/-- Rows of Table 05-10 Object 4801h, Ingest verifier. -/
def rows4801 : List Row :=
  [⟨0x01, 0x01, .u32, (1, 1, 1), .none, 0, 0, 4294967295, 4, true⟩,
   ⟨0x02, 0x02, .u32, (1, 1, 1), .none, 0, 0, 4294967295, 4, true⟩,
   ⟨0x03, 0x03, .u8, (1, 1, 1), .none, 0, 0, 255, 1, true⟩,
   ⟨0x04, 0x04, .u16, (1, 1, 1), .none, 0, 0, 65535, 2, true⟩,
   ⟨0x05, 0x05, .u32, (1, 1, 1), .none, 0, 0, 4294967295, 4, true⟩]

/-- Rows of Table 05-11 Object 4802h, Refusal log. -/
def rows4802 : List Row :=
  [⟨0x01, 0x01, .u32, (1, 3, 3), .i, 0, 0, 4294967295, 4, true⟩,
   ⟨0x02, 0x41, .octets, (1, 1, 1), .none, 0, 0, 0, 16, true⟩]

/-- Rows of Table 10-9 Object 5000h, Camera binding and ports. -/
def rows5000 : List Row :=
  [⟨0x01, 0x01, .u8, (1, 3, 3), .q, 0, 0, 255, 1, true⟩,
   ⟨0x02, 0x02, .u8, (1, 3, 3), .q, 1, 0, 255, 1, true⟩,
   ⟨0x03, 0x04, .u8, (1, 3, 3), .q, 4, 1, 4, 1, true⟩,
   ⟨0x05, 0x06, .u16, (1, 3, 3), .q, 4500, 80, 4500, 2, true⟩,
   ⟨0x07, 0x08, .u16, (1, 3, 3), .q, 400, 100, 1000, 2, true⟩,
   ⟨0x09, 0x0A, .u8, (1, 3, 3), .q, 54, 0, 127, 1, true⟩,
   ⟨0x0B, 0x0C, .u16, (1, 1, 1), .none, 0, 0, 65535, 2, true⟩]

/-- Rows of Table 10-10 Object 5001h, Tile map. -/
def rows5001 : List Row :=
  [⟨0x01, 0x08, .u64, (1, 3, 3), .q, 0, 0, 18446744073709551615, 8, true⟩,
   ⟨0x09, 0x10, .u64, (1, 3, 3), .q, 0, 0, 18446744073709551615, 8, true⟩]

/-- Rows of Table 10-11 Object 5002h, Exposure. -/
def rows5002 : List Row :=
  [⟨0x01, 0x02, .u32, (1, 3, 3), .i, 5000, 100, 4294967295, 4, true⟩,
   ⟨0x03, 0x04, .i16, (1, 3, 3), .i, 0, 0, 4800, 2, true⟩,
   ⟨0x05, 0x06, .u8, (1, 3, 3), .q, 2, 0, 7, 1, true⟩,
   ⟨0x07, 0x08, .u16, (1, 1, 1), .none, 0, 0, 65535, 2, true⟩,
   ⟨0x09, 0x0A, .u16, (1, 1, 1), .none, 0, 0, 65535, 2, true⟩,
   ⟨0x0B, 0x0C, .u32, (1, 3, 3), .q, 0, 0, 4294967295, 4, true⟩,
   ⟨0x0D, 0x0E, .u32, (1, 3, 3), .q, 0, 0, 4294967295, 4, true⟩,
   ⟨0x0F, 0x0F, .u16, (1, 3, 3), .i, 200, 50, 5000, 2, true⟩]

/-- Rows of Table 10-13 Object 5003h, Triggers and frames. -/
def rows5003 : List Row :=
  [⟨0x01, 0x02, .u32, (1, 3, 3), .q, 0, 0, 16000000, 4, true⟩,
   ⟨0x03, 0x04, .u16, (1, 3, 3), .q, 1000, 100, 10000, 2, true⟩,
   ⟨0x05, 0x06, .u16, (1, 3, 3), .q, 1024, 256, 4096, 2, true⟩,
   ⟨0x07, 0x08, .u8, (1, 3, 3), .q, 0, 0, 1, 1, true⟩,
   ⟨0x09, 0x0A, .u32, (1, 3, 3), .q, 20000, 1000, 10000000, 4, true⟩,
   ⟨0x0B, 0x0C, .u8, (1, 3, 3), .q, 8, 1, 16, 1, true⟩,
   ⟨0x0D, 0x0E, .u8, (1, 1, 1), .none, 0, 0, 255, 1, false⟩,
   ⟨0x0F, 0x0F, .bool, (1, 3, 3), .i, 0, 0, 1, 1, true⟩,
   ⟨0x10, 0x10, .u64, (2, 2, 2), .i, 0, 0, 18446744073709551615, 8, false⟩]

/-- Rows of Table 10-14 Object 5004h, Camera status. -/
def rows5004 : List Row :=
  [⟨0x01, 0x02, .u8, (1, 1, 1), .none, 0, 0, 255, 1, true⟩,
   ⟨0x03, 0x04, .u32, (1, 1, 1), .none, 0, 0, 4294967295, 4, true⟩,
   ⟨0x05, 0x06, .u32, (1, 1, 1), .none, 0, 0, 4294967295, 4, true⟩,
   ⟨0x07, 0x08, .u32, (1, 1, 1), .none, 0, 0, 4294967295, 4, true⟩,
   ⟨0x09, 0x0A, .u32, (1, 1, 1), .none, 0, 0, 4294967295, 4, true⟩,
   ⟨0x0B, 0x0C, .u32, (1, 1, 1), .none, 0, 0, 4294967295, 4, true⟩,
   ⟨0x0D, 0x0E, .u32, (1, 1, 1), .none, 0, 0, 4294967295, 4, true⟩,
   ⟨0x0F, 0x10, .u32, (1, 1, 1), .none, 0, 0, 4294967295, 4, true⟩,
   ⟨0x11, 0x12, .u32, (1, 1, 1), .none, 0, 0, 4294967295, 4, true⟩,
   ⟨0x13, 0x14, .u32, (1, 1, 1), .none, 0, 0, 4294967295, 4, true⟩,
   ⟨0x15, 0x16, .bool, (0, 2, 2), .i, 0, 0, 1, 1, false⟩]

/-- Rows of Table 11-4 Object 5200h, Inspection setup. -/
def rows5200 : List Row :=
  [⟨0x01, 0x01, .u32, (1, 3, 3), .q, 0, 0, 63518, 4, true⟩,
   ⟨0x02, 0x02, .u32, (1, 3, 3), .q, 31744, 0, 63518, 4, true⟩,
   ⟨0x03, 0x04, .u8, (1, 1, 1), .none, 0, 0, 255, 1, true⟩,
   ⟨0x05, 0x06, .u32, (1, 1, 1), .none, 0, 0, 4294967295, 4, false⟩,
   ⟨0x07, 0x07, .u8, (1, 3, 3), .i, 8, 1, 64, 1, true⟩,
   ⟨0x08, 0x08, .u16, (1, 3, 3), .i, 1024, 1, 4095, 2, true⟩,
   ⟨0x09, 0x09, .u64, (1, 1, 1), .none, 0, 0, 18446744073709551615, 8, true⟩,
   ⟨0x0A, 0x0A, .u32, (1, 1, 1), .none, 0, 0, 4294967295, 4, true⟩]

/-- Rows of Table 11-5 Object 5201h, Streak findings. -/
def rows5201 : List Row :=
  [⟨0x01, 0x01, .u16, (1, 3, 3), .i, 150, 20, 2000, 2, true⟩,
   ⟨0x02, 0x02, .u16, (1, 3, 3), .i, 300, 20, 2000, 2, true⟩,
   ⟨0x03, 0x03, .u16, (1, 3, 3), .i, 256, 32, 4096, 2, true⟩,
   ⟨0x04, 0x04, .u8, (1, 3, 3), .i, 2, 1, 8, 1, true⟩,
   ⟨0x05, 0x05, .u16, (1, 3, 3), .i, 512, 128, 4096, 2, true⟩,
   ⟨0x06, 0x06, .u16, (1, 3, 3), .i, 700, 300, 990, 2, true⟩,
   ⟨0x07, 0x07, .u16, (1, 3, 3), .i, 150, 20, 700, 2, true⟩,
   ⟨0x08, 0x08, .u32, (1, 3, 3), .i, 1024, 64, 65536, 4, true⟩,
   ⟨0x09, 0x09, .u16, (1, 3, 3), .i, 750, 51, 1000, 2, true⟩,
   ⟨0x0A, 0x0A, .u16, (1, 3, 3), .i, 250, 50, 950, 2, true⟩,
   ⟨0x0B, 0x0B, .u16, (1, 3, 3), .i, 60, 5, 1440, 2, true⟩,
   ⟨0x0C, 0x0C, .u16, (1, 1, 1), .none, 0, 0, 65535, 2, true⟩,
   ⟨0x0D, 0x0D, .u32, (1, 1, 1), .none, 0, 0, 4294967295, 4, true⟩,
   ⟨0x0E, 0x0E, .u32, (1, 1, 1), .none, 0, 0, 4294967295, 4, true⟩,
   ⟨0x0F, 0x0F, .u32, (1, 1, 1), .none, 0, 0, 4294967295, 4, true⟩,
   ⟨0x10, 0x10, .u32, (1, 1, 1), .none, 0, 0, 4294967295, 4, true⟩]

/-- Rows of Table 11-6 Object 5202h, Density table. -/
def rows5202 : List Row :=
  [⟨0x01, 0x01, .u16, (1, 3, 3), .i, 0, 0, 4095, 2, true⟩,
   ⟨0x02, 0x02, .u16, (1, 3, 3), .i, 1229, 0, 4095, 2, true⟩,
   ⟨0x03, 0x03, .u16, (1, 3, 3), .i, 2088, 0, 4095, 2, true⟩,
   ⟨0x04, 0x04, .u16, (1, 3, 3), .i, 2690, 0, 4095, 2, true⟩,
   ⟨0x05, 0x05, .u16, (1, 3, 3), .i, 3112, 0, 4095, 2, true⟩,
   ⟨0x06, 0x06, .u16, (1, 3, 3), .i, 3407, 0, 4095, 2, true⟩,
   ⟨0x07, 0x07, .u16, (1, 3, 3), .i, 3613, 0, 4095, 2, true⟩,
   ⟨0x08, 0x08, .u16, (1, 3, 3), .i, 3758, 0, 4095, 2, true⟩,
   ⟨0x09, 0x09, .u16, (1, 3, 3), .i, 3859, 0, 4095, 2, true⟩,
   ⟨0x0A, 0x0A, .u16, (1, 3, 3), .i, 3930, 0, 4095, 2, true⟩,
   ⟨0x0B, 0x0B, .u16, (1, 3, 3), .i, 3979, 0, 4095, 2, true⟩,
   ⟨0x0C, 0x0C, .u16, (1, 3, 3), .i, 4014, 0, 4095, 2, true⟩,
   ⟨0x0D, 0x0D, .u16, (1, 3, 3), .i, 4038, 0, 4095, 2, true⟩]

/-- Rows of Table 11-7 Object 5203h, Health proposals. -/
def rows5203 : List Row :=
  [⟨0x01, 0x01, .u8, (1, 3, 3), .i, 1, 0, 2, 1, true⟩,
   ⟨0x02, 0x02, .u8, (1, 3, 3), .i, 2, 0, 2, 1, true⟩,
   ⟨0x03, 0x03, .u8, (1, 3, 3), .i, 1, 0, 2, 1, true⟩,
   ⟨0x04, 0x04, .u16, (1, 3, 3), .i, 16, 1, 4096, 2, true⟩,
   ⟨0x05, 0x05, .u8, (1, 1, 1), .none, 0, 0, 255, 1, true⟩,
   ⟨0x06, 0x06, .u8, (1, 3, 3), .i, 0, 0, 63, 1, true⟩,
   ⟨0x07, 0x07, .octets, (1, 1, 1), .none, 0, 0, 0, 32, false⟩,
   ⟨0x08, 0x08, .u16, (0, 2, 2), .i, 0, 0, 65535, 2, false⟩,
   ⟨0x09, 0x09, .u16, (0, 2, 2), .i, 0, 0, 65535, 2, false⟩,
   ⟨0x0A, 0x0A, .u32, (1, 1, 1), .none, 0, 0, 4294967295, 4, true⟩,
   ⟨0x0B, 0x0B, .u32, (1, 1, 1), .none, 0, 0, 4294967295, 4, true⟩,
   ⟨0x0C, 0x0C, .u32, (1, 1, 1), .none, 0, 0, 4294967295, 4, true⟩,
   ⟨0x0D, 0x0D, .u32, (1, 1, 1), .none, 0, 0, 4294967295, 4, true⟩]

/-- Rows of Table 11-8 Object 5204h, Registration. -/
def rows5204 : List Row :=
  [⟨0x01, 0x01, .bool, (1, 3, 3), .i, 0, 0, 1, 1, true⟩,
   ⟨0x02, 0x02, .u8, (1, 3, 3), .i, 8, 1, 64, 1, true⟩,
   ⟨0x03, 0x03, .u16, (1, 3, 3), .i, 4, 1, 64, 2, true⟩,
   ⟨0x04, 0x04, .u16, (1, 3, 3), .i, 8, 1, 64, 2, true⟩,
   ⟨0x05, 0x05, .u16, (1, 3, 3), .i, 64, 0, 128, 2, true⟩,
   ⟨0x06, 0x06, .u16, (1, 3, 3), .i, 16, 1, 4096, 2, true⟩,
   ⟨0x07, 0x16, .u64, (1, 1, 1), .none, 0, 0, 18446744073709551615, 8, true⟩]

/-- Rows of Table 11-9 Object 5205h, Zone compare. -/
def rows5205 : List Row :=
  [⟨0x01, 0x01, .u16, (1, 3, 3), .i, 1024, 100, 4095, 2, true⟩,
   ⟨0x02, 0x02, .u16, (1, 3, 3), .i, 20, 1, 1000, 2, true⟩,
   ⟨0x03, 0x03, .bool, (1, 3, 3), .i, 1, 0, 1, 1, true⟩,
   ⟨0x04, 0x04, .u32, (1, 1, 1), .none, 0, 0, 4294967295, 4, true⟩]

/-- Rows of Table 12-2 Object 5400h, Light setup. -/
def rows5400 : List Row :=
  [⟨0x01, 0x02, .bool, (1, 3, 3), .q, 0, 0, 1, 1, true⟩,
   ⟨0x03, 0x0A, .u16, (1, 3, 3), .q, 400, 0, 10000, 2, true⟩,
   ⟨0x0B, 0x0B, .u16, (1, 3, 3), .q, 100, 100, 1000, 2, true⟩,
   ⟨0x0C, 0x0C, .u16, (1, 3, 3), .q, 200, 50, 2000, 2, true⟩,
   ⟨0x0D, 0x0D, .u16, (1, 3, 3), .i, 16, 1, 1024, 2, true⟩,
   ⟨0x0E, 0x0E, .u16, (1, 3, 3), .q, 65535, 0, 65535, 2, true⟩]

/-- Rows of Table 12-3 Object 5401h, Column currents. -/
def rows5401 : List Row :=
  [⟨0x01, 0x10, .u16, (1, 3, 3), .q, 500, 0, 3000, 2, true⟩,
   ⟨0x11, 0x11, .u16, (1, 3, 3), .q, 100, 10, 1000, 2, true⟩,
   ⟨0x12, 0x12, .u16, (1, 3, 3), .q, 2000, 200, 20000, 2, true⟩]

/-- Rows of Table 12-4 Object 5402h, Light derating. -/
def rows5402 : List Row :=
  [⟨0x01, 0x01, .i16, (1, 3, 3), .i, 450, 200, 32767, 2, true⟩,
   ⟨0x02, 0x02, .i16, (1, 3, 3), .i, 850, (-32768), 1000, 2, true⟩,
   ⟨0x03, 0x04, .i16, (1, 1, 1), .none, (-32768), (-32768), 32767, 2, true⟩,
   ⟨0x05, 0x06, .u8, (1, 1, 1), .none, 16, 0, 255, 1, true⟩,
   ⟨0x07, 0x08, .i16, (1, 1, 1), .none, 0, (-32768), 32767, 2, true⟩]

/-- Rows of Table 12-5 Object 5403h, Light status. -/
def rows5403 : List Row :=
  [⟨0x01, 0x02, .u8, (1, 1, 1), .none, 0, 0, 255, 1, true⟩,
   ⟨0x03, 0x03, .u64, (1, 1, 1), .none, 0, 0, 18446744073709551615, 8, true⟩,
   ⟨0x04, 0x04, .u64, (1, 1, 1), .none, 0, 0, 18446744073709551615, 8, true⟩,
   ⟨0x05, 0x05, .u16, (1, 1, 1), .none, 0, 0, 65535, 2, true⟩,
   ⟨0x06, 0x06, .u32, (1, 1, 1), .none, 0, 0, 4294967295, 4, true⟩,
   ⟨0x07, 0x07, .u32, (1, 1, 1), .none, 0, 0, 4294967295, 4, true⟩,
   ⟨0x08, 0x08, .u32, (1, 1, 1), .none, 0, 0, 4294967295, 4, true⟩,
   ⟨0x09, 0x0A, .bool, (0, 2, 2), .i, 0, 0, 1, 1, false⟩]

/-- Rows of Table 13-7 Objects 6000h–6003h, Axis 0–3 (same layout). -/
def rows6000 : List Row :=
  [⟨0x01, 0x01, .u8, (1, 3, 3), .q, 0, 0, 1, 1, true⟩,
   ⟨0x02, 0x02, .u16, (1, 3, 3), .q, 16, 1, 256, 2, true⟩,
   ⟨0x03, 0x03, .u32, (1, 3, 3), .i, 200, 1, 10000, 4, true⟩,
   ⟨0x04, 0x04, .u32, (1, 3, 3), .i, 200000, 1, 200000, 4, true⟩,
   ⟨0x05, 0x05, .u32, (1, 3, 3), .i, 100000, 10, 100000000, 4, true⟩,
   ⟨0x06, 0x06, .u32, (1, 3, 3), .i, 100000, 10, 100000000, 4, true⟩,
   ⟨0x07, 0x07, .u32, (1, 3, 3), .i, 1000000, 10, 100000000, 4, true⟩,
   ⟨0x08, 0x08, .i32, (1, 1, 1), .none, 0, (-2147483648), 2147483647, 4, true⟩,
   ⟨0x09, 0x09, .i32, (0, 2, 2), .q, 0, (-2147483648), 2147483647, 4, false⟩,
   ⟨0x0A, 0x0A, .i32, (1, 1, 1), .none, 0, (-2147483648), 2147483647, 4, true⟩,
   ⟨0x0B, 0x0B, .octets, (0, 2, 2), .i, 0, 0, 0, 32, false⟩,
   ⟨0x0C, 0x0C, .u8, (1, 1, 1), .none, 0, 0, 255, 1, true⟩,
   ⟨0x0D, 0x0D, .u16, (1, 1, 1), .none, 0, 0, 65535, 2, true⟩,
   ⟨0x0E, 0x0E, .u16, (1, 1, 1), .none, 0, 0, 65535, 2, true⟩,
   ⟨0x0F, 0x0F, .u8, (1, 1, 1), .none, 0, 0, 255, 1, true⟩,
   ⟨0x10, 0x10, .u8, (1, 3, 3), .q, 0, 0, 1, 1, true⟩,
   ⟨0x11, 0x11, .u32, (1, 3, 3), .i, 5000, 1, 200000, 4, true⟩,
   ⟨0x12, 0x12, .i32, (1, 3, 3), .i, 0, (-2147483648), 2147483647, 4, true⟩,
   ⟨0x13, 0x13, .u32, (1, 3, 3), .i, 10000000, 1, 4294967295, 4, true⟩,
   ⟨0x14, 0x14, .u32, (1, 3, 3), .i, 2000, 1, 4294967295, 4, true⟩,
   ⟨0x15, 0x15, .u64, (1, 1, 1), .none, 0, 0, 18446744073709551615, 8, true⟩,
   ⟨0x16, 0x16, .u32, (1, 1, 1), .none, 0, 0, 4294967295, 4, true⟩]

/-- Rows of Table 13-9 Object 6010h, Limit inputs. -/
def rows6010 : List Row :=
  [⟨0x01, 0x01, .u8, (1, 3, 3), .q, 192, 0, 255, 1, true⟩,
   ⟨0x02, 0x02, .u8, (1, 3, 3), .q, 194, 0, 255, 1, true⟩,
   ⟨0x03, 0x03, .u8, (1, 3, 3), .q, 196, 0, 255, 1, true⟩,
   ⟨0x04, 0x04, .u8, (1, 3, 3), .q, 198, 0, 255, 1, true⟩,
   ⟨0x05, 0x05, .u8, (1, 3, 3), .q, 200, 0, 255, 1, true⟩,
   ⟨0x06, 0x06, .u8, (1, 3, 3), .q, 202, 0, 255, 1, true⟩,
   ⟨0x07, 0x07, .u8, (1, 3, 3), .q, 204, 0, 255, 1, true⟩,
   ⟨0x08, 0x08, .u8, (1, 3, 3), .q, 206, 0, 255, 1, true⟩,
   ⟨0x09, 0x09, .u16, (1, 3, 3), .i, 500, 0, 10000, 2, true⟩,
   ⟨0x0A, 0x0A, .u16, (1, 3, 3), .i, 2000, 10, 60000, 2, true⟩,
   ⟨0x0B, 0x0B, .u8, (1, 1, 1), .none, 0, 0, 255, 1, true⟩,
   ⟨0x0C, 0x13, .u64, (1, 1, 1), .none, 0, 0, 18446744073709551615, 8, true⟩,
   ⟨0x14, 0x14, .u32, (1, 1, 1), .none, 0, 0, 4294967295, 4, true⟩]

/-- Rows of Table 13-10 Objects 6011h–6014h, Axis current of axes 0–3 (same layout). -/
def rows6011 : List Row :=
  [⟨0x01, 0x01, .u16, (1, 3, 3), .i, 300, 50, 65535, 2, true⟩,
   ⟨0x02, 0x02, .u16, (1, 3, 3), .i, 1000, 0, 5000, 2, true⟩,
   ⟨0x03, 0x03, .u16, (1, 3, 3), .i, 200, 0, 65535, 2, true⟩,
   ⟨0x04, 0x04, .u16, (1, 3, 3), .i, 100, 1, 10000, 2, true⟩,
   ⟨0x05, 0x05, .u16, (1, 3, 3), .q, 100, 10, 1000, 2, true⟩,
   ⟨0x06, 0x06, .u16, (1, 3, 3), .i, 50, 10, 500, 2, true⟩,
   ⟨0x07, 0x07, .u16, (1, 3, 3), .i, 500, 100, 5000, 2, true⟩,
   ⟨0x08, 0x08, .u16, (1, 3, 3), .i, 1000, 200, 20000, 2, true⟩,
   ⟨0x09, 0x09, .u16, (1, 3, 3), .i, 768, 64, 1023, 2, true⟩,
   ⟨0x0A, 0x0A, .u8, (1, 3, 3), .i, 8, 2, 64, 1, true⟩,
   ⟨0x0B, 0x0B, .bool, (0, 2, 2), .q, 0, 0, 1, 1, false⟩,
   ⟨0x0C, 0x0C, .u16, (1, 1, 1), .none, 0, 0, 65535, 2, true⟩,
   ⟨0x0D, 0x0D, .u16, (1, 1, 1), .none, 0, 0, 65535, 2, true⟩,
   ⟨0x0E, 0x0E, .i16, (1, 1, 1), .none, 0, (-32768), 32767, 2, true⟩,
   ⟨0x0F, 0x0F, .u16, (1, 1, 1), .none, 0, 0, 65535, 2, true⟩]

/-- Rows of Table 02-8 Objects 6400h and 6401h, Position channel 0 and 1 (same layout). -/
def rows6400 : List Row :=
  [⟨0x01, 0x01, .u8, (1, 3, 3), .q, 0, 0, 2, 1, true⟩,
   ⟨0x02, 0x02, .bool, (1, 3, 3), .q, 0, 0, 1, 1, true⟩,
   ⟨0x03, 0x03, .u8, (1, 3, 3), .q, 20, 0, 255, 1, true⟩,
   ⟨0x04, 0x04, .u32, (1, 3, 3), .q, 1, 1, 4294967295, 4, true⟩,
   ⟨0x05, 0x05, .u32, (1, 3, 3), .q, 1, 1, 4294967295, 4, true⟩,
   ⟨0x06, 0x06, .u8, (1, 3, 3), .q, 0, 0, 2, 1, true⟩,
   ⟨0x07, 0x07, .u32, (1, 3, 3), .q, 0, 0, 4294967295, 4, true⟩,
   ⟨0x08, 0x08, .u16, (1, 3, 3), .i, 2, 0, 65535, 2, true⟩,
   ⟨0x09, 0x09, .u8, (1, 3, 3), .q, 0, 0, 1, 1, true⟩,
   ⟨0x0A, 0x0A, .u16, (1, 3, 3), .q, 59, 3, 4096, 2, true⟩,
   ⟨0x0B, 0x0B, .u64, (1, 1, 1), .none, 0, 0, 18446744073709551615, 8, true⟩,
   ⟨0x0C, 0x0C, .u64, (0, 2, 2), .q, 0, 0, 281474976710655, 8, false⟩,
   ⟨0x0D, 0x0D, .i32, (1, 1, 1), .none, 0, (-2147483648), 2147483647, 4, true⟩,
   ⟨0x0E, 0x0E, .u64, (1, 1, 1), .none, 0, 0, 18446744073709551615, 8, true⟩,
   ⟨0x0F, 0x0F, .i32, (1, 1, 1), .none, 0, (-2147483648), 2147483647, 4, true⟩,
   ⟨0x10, 0x10, .u32, (1, 1, 1), .none, 0, 0, 4294967295, 4, true⟩,
   ⟨0x11, 0x11, .u32, (1, 1, 1), .none, 0, 0, 4294967295, 4, true⟩,
   ⟨0x12, 0x12, .u16, (1, 1, 1), .none, 0, 0, 65535, 2, true⟩,
   ⟨0x13, 0x13, .u16, (1, 3, 3), .i, 50, 1, 10000, 2, true⟩]

/-- Rows of Table 02-10 Object 6402h, High-water and pacing. -/
def rows6402 : List Row :=
  [⟨0x01, 0x01, .u16, (1, 3, 3), .i, 2, 0, 1000, 2, true⟩,
   ⟨0x02, 0x02, .u64, (1, 1, 1), .none, 0, 0, 18446744073709551615, 8, true⟩,
   ⟨0x03, 0x03, .u64, (1, 1, 1), .none, 0, 0, 18446744073709551615, 8, true⟩,
   ⟨0x04, 0x04, .u16, (1, 1, 1), .none, 0, 0, 65535, 2, true⟩,
   ⟨0x05, 0x05, .u8, (1, 3, 3), .q, 0, 0, 2, 1, true⟩,
   ⟨0x06, 0x06, .u64, (1, 3, 3), .q, 0, 0, 18446744073709551615, 8, true⟩,
   ⟨0x07, 0x07, .u32, (1, 1, 1), .none, 0, 0, 4294967295, 4, true⟩,
   ⟨0x08, 0x08, .u32, (1, 1, 1), .none, 0, 0, 4294967295, 4, true⟩,
   ⟨0x09, 0x09, .u32, (1, 1, 1), .none, 0, 0, 4294967295, 4, true⟩,
   ⟨0x0A, 0x0A, .u32, (1, 1, 1), .none, 0, 0, 4294967295, 4, true⟩,
   ⟨0x0B, 0x0B, .u32, (1, 1, 1), .none, 0, 0, 4294967295, 4, true⟩]

/-- Rows of Table 14-9 Object 7000h, Time base. -/
def rows7000 : List Row :=
  [⟨0x01, 0x01, .u8, (1, 1, 1), .none, 0, 0, 255, 1, true⟩,
   ⟨0x02, 0x02, .u64, (1, 1, 1), .none, 0, 0, 18446744073709551615, 8, true⟩,
   ⟨0x03, 0x03, .u16, (1, 1, 1), .none, 0, 0, 65535, 2, true⟩,
   ⟨0x04, 0x04, .i32, (1, 1, 1), .none, 0, (-2147483648), 2147483647, 4, true⟩,
   ⟨0x05, 0x05, .i32, (1, 1, 1), .none, 0, (-2147483648), 2147483647, 4, true⟩,
   ⟨0x06, 0x06, .i32, (1, 1, 1), .none, 0, (-2147483648), 2147483647, 4, true⟩,
   ⟨0x07, 0x07, .u32, (1, 1, 1), .none, 0, 0, 4294967295, 4, true⟩,
   ⟨0x08, 0x08, .u32, (1, 3, 3), .i, 50000, 100, 50000, 4, true⟩,
   ⟨0x09, 0x09, .u16, (1, 3, 3), .i, 250, 100, 10000, 2, true⟩,
   ⟨0x0A, 0x0A, .u16, (1, 3, 3), .i, 100, 10, 10000, 2, true⟩,
   ⟨0x0B, 0x0B, .u32, (1, 3, 3), .i, 200, 20, 1000000, 4, true⟩,
   ⟨0x0C, 0x0C, .u8, (1, 3, 3), .i, 3, 2, 16, 1, true⟩,
   ⟨0x0D, 0x0D, .bool, (0, 2, 2), .q, 0, 0, 1, 1, false⟩,
   ⟨0x0E, 0x0E, .bool, (1, 1, 1), .none, 0, 0, 1, 1, true⟩,
   ⟨0x0F, 0x0F, .octets, (1, 1, 1), .none, 0, 0, 0, 8, true⟩,
   ⟨0x10, 0x10, .u32, (1, 1, 1), .none, 0, 0, 4294967295, 4, true⟩,
   ⟨0x11, 0x11, .u32, (1, 1, 1), .none, 0, 0, 4294967295, 4, true⟩,
   ⟨0x12, 0x12, .u32, (1, 1, 1), .none, 0, 0, 4294967295, 4, true⟩]

/-- Rows of Table 14-10 Object 7001h, PTP. -/
def rows7001 : List Row :=
  [⟨0x01, 0x01, .u8, (1, 3, 3), .q, 0, 0, 127, 1, true⟩,
   ⟨0x02, 0x02, .u8, (1, 3, 3), .q, 2, 1, 2, 1, true⟩,
   ⟨0x03, 0x03, .bool, (1, 3, 3), .q, 0, 0, 1, 1, true⟩,
   ⟨0x04, 0x04, .u8, (1, 3, 3), .q, 128, 0, 255, 1, true⟩,
   ⟨0x05, 0x05, .u8, (1, 3, 3), .q, 128, 0, 255, 1, true⟩,
   ⟨0x06, 0x06, .u8, (1, 3, 3), .q, 248, 0, 255, 1, true⟩,
   ⟨0x07, 0x07, .i8, (1, 3, 3), .q, (-4), (-7), 0, 1, true⟩,
   ⟨0x08, 0x08, .i8, (1, 3, 3), .q, 0, (-4), 4, 1, true⟩,
   ⟨0x09, 0x09, .u8, (1, 3, 3), .i, 16, 1, 64, 1, true⟩,
   ⟨0x0A, 0x0A, .u8, (1, 1, 1), .none, 0, 0, 255, 1, true⟩,
   ⟨0x0B, 0x0B, .u32, (1, 1, 1), .none, 0, 0, 4294967295, 4, true⟩]

/-- Rows of Table 14-11 Object 7002h, Port timing. -/
def rows7002 : List Row :=
  [⟨0x01, 0x02, .u16, (1, 3, 3), .i, 0, 0, 2000, 2, true⟩,
   ⟨0x03, 0x04, .u16, (1, 3, 3), .i, 0, 0, 2000, 2, true⟩,
   ⟨0x05, 0x06, .i32, (1, 3, 3), .i, 0, (-1000000), 1000000, 4, true⟩,
   ⟨0x07, 0x08, .u32, (1, 1, 1), .none, 0, 0, 4294967295, 4, true⟩,
   ⟨0x09, 0x09, .u8, (1, 1, 1), .none, 0, 0, 255, 1, true⟩]

/-- Rows of Table 14-12 Object 7003h, Time triggers. -/
def rows7003 : List Row :=
  [⟨0x01, 0x06, .u64, (1, 3, 3), .i, 0, 0, 18446744073709551615, 8, true⟩,
   ⟨0x07, 0x08, .u64, (1, 1, 1), .none, 0, 0, 18446744073709551615, 8, true⟩,
   ⟨0x09, 0x0E, .u32, (1, 3, 3), .i, 0, 0, 4294967295, 4, true⟩,
   ⟨0x0F, 0x10, .u32, (1, 1, 1), .none, 0, 0, 4294967295, 4, true⟩,
   ⟨0x11, 0x11, .u16, (1, 3, 3), .q, 1000, 100, 10000, 2, true⟩,
   ⟨0x12, 0x12, .u32, (1, 1, 1), .none, 0, 0, 4294967295, 4, true⟩]

/-- Rows of Table 14-13 Object 7004h, Captures and PPS. -/
def rows7004 : List Row :=
  [⟨0x01, 0x04, .octets, (1, 1, 1), .none, 0, 0, 0, 24, true⟩,
   ⟨0x05, 0x0A, .octets, (1, 1, 1), .none, 0, 0, 0, 24, true⟩,
   ⟨0x0B, 0x0B, .u8, (1, 3, 3), .i, 0, 0, 255, 1, true⟩,
   ⟨0x0C, 0x0C, .u8, (1, 3, 3), .i, 20, 0, 255, 1, true⟩,
   ⟨0x0D, 0x0D, .u32, (1, 1, 1), .none, 0, 0, 4294967295, 4, true⟩,
   ⟨0x0E, 0x0E, .u32, (1, 3, 3), .i, 100, 0, 500000, 4, true⟩,
   ⟨0x0F, 0x0F, .i32, (1, 1, 1), .none, 0, (-2147483648), 2147483647, 4, true⟩]

/-- Rows of Table 14-14 Object 7200h, Network. -/
def rows7200 : List Row :=
  [⟨0x01, 0x01, .octets, (1, 1, 1), .none, 0, 0, 0, 6, true⟩,
   ⟨0x02, 0x03, .bool, (1, 3, 3), .q, 1, 0, 1, 1, true⟩,
   ⟨0x04, 0x05, .u8, (1, 3, 3), .q, 0, 0, 31, 1, true⟩,
   ⟨0x06, 0x07, .bool, (1, 1, 1), .none, 0, 0, 1, 1, true⟩,
   ⟨0x08, 0x08, .u16, (1, 3, 3), .i, 300, 10, 3600, 2, true⟩,
   ⟨0x09, 0x09, .u8, (1, 3, 3), .q, 0, 0, 2, 1, true⟩,
   ⟨0x0A, 0x0A, .u8, (1, 1, 1), .none, 0, 0, 255, 1, true⟩,
   ⟨0x0B, 0x0B, .u8, (1, 3, 3), .q, 5, 1, 100, 1, true⟩,
   ⟨0x0C, 0x0C, .u16, (1, 3, 3), .q, 0, 0, 65535, 2, true⟩,
   ⟨0x0D, 0x0D, .u32, (1, 1, 1), .none, 0, 0, 4294967295, 4, true⟩]

/-- Rows of Table 14-15 Object 7201h, Port counters. -/
def rows7201 : List Row :=
  [⟨0x01, 0x02, .u32, (1, 1, 1), .none, 0, 0, 4294967295, 4, true⟩,
   ⟨0x03, 0x04, .u32, (1, 1, 1), .none, 0, 0, 4294967295, 4, true⟩,
   ⟨0x05, 0x06, .u32, (1, 1, 1), .none, 0, 0, 4294967295, 4, true⟩,
   ⟨0x07, 0x08, .u32, (1, 1, 1), .none, 0, 0, 4294967295, 4, true⟩,
   ⟨0x09, 0x0A, .u32, (1, 1, 1), .none, 0, 0, 4294967295, 4, true⟩,
   ⟨0x0B, 0x0B, .u32, (1, 1, 1), .none, 0, 0, 4294967295, 4, true⟩,
   ⟨0x0C, 0x0C, .u32, (1, 1, 1), .none, 0, 0, 4294967295, 4, true⟩]

/-- Rows of Table 18-16 Object 7400h, Mailbox channels. -/
def rows7400 : List Row :=
  [⟨0x01, 0x08, .u8, (1, 3, 3), .q, 19, 0, 255, 1, true⟩,
   ⟨0x09, 0x10, .u8, (1, 3, 3), .q, 49, 0, 255, 1, true⟩,
   ⟨0x11, 0x14, .u8, (1, 3, 3), .q, 52, 0, 255, 1, true⟩,
   ⟨0x15, 0x18, .u8, (1, 3, 3), .q, 67, 0, 255, 1, true⟩,
   ⟨0x19, 0x1C, .u8, (1, 3, 3), .q, 53, 0, 255, 1, true⟩,
   ⟨0x1D, 0x20, .u8, (1, 3, 3), .q, 83, 0, 255, 1, true⟩,
   ⟨0x21, 0x40, .u64, (1, 1, 1), .none, 0, 0, 18446744073709551615, 8, true⟩,
   ⟨0x41, 0x41, .u32, (1, 1, 1), .none, 0, 0, 4294967295, 4, true⟩,
   ⟨0x42, 0x42, .u32, (1, 1, 1), .none, 0, 0, 4294967295, 4, true⟩,
   ⟨0x43, 0x43, .u64, (1, 1, 1), .none, 0, 0, 18446744073709551615, 8, true⟩]

/-- Rows of Table 18-17 Object 7401h, Rings. -/
def rows7401 : List Row :=
  [⟨0x01, 0x03, .u64, (1, 1, 1), .none, 17173504, 0, 18446744073709551615, 8, false⟩,
   ⟨0x04, 0x04, .u64, (1, 1, 1), .none, 369559552, 0, 18446744073709551615, 8, false⟩,
   ⟨0x05, 0x05, .u64, (1, 1, 1), .none, 1627785216, 0, 18446744073709551615, 8, false⟩,
   ⟨0x06, 0x07, .u64, (1, 1, 1), .none, 67503616, 0, 18446744073709551615, 8, false⟩,
   ⟨0x08, 0x08, .u64, (1, 1, 1), .none, 17238016, 0, 18446744073709551615, 8, false⟩,
   ⟨0x09, 0x09, .u64, (1, 1, 1), .none, 1090914816, 0, 18446744073709551615, 8, false⟩,
   ⟨0x0A, 0x0A, .u64, (1, 1, 1), .none, 17108480, 0, 18446744073709551615, 8, false⟩,
   ⟨0x0B, 0x0C, .u64, (1, 1, 1), .none, 50661888, 0, 18446744073709551615, 8, false⟩,
   ⟨0x0D, 0x0D, .u64, (1, 1, 1), .none, 352716800, 0, 18446744073709551615, 8, false⟩,
   ⟨0x0E, 0x0E, .u64, (1, 1, 1), .none, 51054080, 0, 18446744073709551615, 8, false⟩,
   ⟨0x0F, 0x0F, .u64, (1, 1, 1), .none, 806028800, 0, 18446744073709551615, 8, false⟩,
   ⟨0x10, 0x10, .u64, (1, 1, 1), .none, 822479872, 0, 18446744073709551615, 8, false⟩,
   ⟨0x11, 0x20, .u32, (1, 1, 1), .none, 0, 0, 4294967295, 4, true⟩]

/-- Rows of Table 18-18 Object 7402h, Lock registers. -/
def rows7402 : List Row :=
  [⟨0x01, 0x20, .u16, (1, 1, 1), .none, 0, 0, 65535, 2, true⟩,
   ⟨0x21, 0x21, .u32, (1, 1, 1), .none, 0, 0, 4294967295, 4, true⟩,
   ⟨0x22, 0x22, .u32, (1, 1, 1), .none, 0, 0, 4294967295, 4, true⟩]

/-- Rows of Table 19-7 Object 7800h, Calibration sets. -/
def rows7800 : List Row :=
  [⟨0x01, 0x01, .u8, (1, 1, 1), .none, 0, 0, 255, 1, false⟩,
   ⟨0x02, 0x02, .i16, (1, 1, 1), .none, (-400), (-32768), 32767, 2, true⟩,
   ⟨0x03, 0x03, .i16, (1, 1, 1), .none, 0, (-32768), 32767, 2, true⟩,
   ⟨0x04, 0x04, .i16, (1, 1, 1), .none, 400, (-32768), 32767, 2, true⟩,
   ⟨0x05, 0x05, .i16, (1, 1, 1), .none, 800, (-32768), 32767, 2, true⟩,
   ⟨0x06, 0x06, .i16, (1, 1, 1), .none, 1150, (-32768), 32767, 2, true⟩,
   ⟨0x07, 0x07, .i16, (1, 1, 1), .none, 0, (-32768), 32767, 2, false⟩,
   ⟨0x08, 0x08, .u32, (1, 1, 1), .none, 0, 0, 4294967295, 4, true⟩,
   ⟨0x09, 0x09, .u16, (1, 1, 1), .none, 0, 0, 65535, 2, false⟩,
   ⟨0x0A, 0x0F, .u8, (1, 1, 1), .none, 0, 0, 255, 1, false⟩,
   ⟨0x10, 0x13, .u8, (1, 1, 1), .none, 0, 0, 255, 1, true⟩]

/-- Rows of Table 19-8 Object 7801h, Calibration verify. -/
def rows7801 : List Row :=
  [⟨0x01, 0x01, .u8, (0, 0, 2), .q, 0, 0, 255, 1, false⟩,
   ⟨0x02, 0x02, .u32, (1, 1, 3), .q, 12000, 9000, 15000, 4, true⟩,
   ⟨0x03, 0x03, .u8, (1, 1, 1), .none, 0, 0, 255, 1, true⟩,
   ⟨0x04, 0x04, .u8, (1, 1, 1), .none, 0, 0, 255, 1, true⟩,
   ⟨0x05, 0x05, .u8, (1, 1, 1), .none, 0, 0, 255, 1, true⟩,
   ⟨0x06, 0x06, .i32, (1, 1, 1), .none, 0, (-2147483648), 2147483647, 4, true⟩,
   ⟨0x07, 0x07, .u8, (1, 1, 1), .none, 0, 0, 255, 1, true⟩,
   ⟨0x08, 0x08, .u8, (0, 0, 2), .q, 0, 0, 255, 1, false⟩]

/-- Rows of Table 19-9 Object 7C00h, Hold-up. -/
def rows7C00 : List Row :=
  [⟨0x01, 0x01, .u8, (1, 3, 3), .q, 3, 1, 3, 1, true⟩,
   ⟨0x02, 0x02, .u16, (1, 3, 3), .q, 10800, 9000, 11500, 2, true⟩,
   ⟨0x03, 0x03, .u16, (1, 3, 3), .q, 11200, 0, 12000, 2, true⟩,
   ⟨0x04, 0x04, .u16, (1, 3, 3), .q, 100, 10, 10000, 2, true⟩,
   ⟨0x05, 0x05, .bool, (1, 3, 3), .q, 1, 0, 1, 1, true⟩,
   ⟨0x06, 0x06, .u32, (1, 1, 1), .none, 0, 0, 4294967295, 4, true⟩,
   ⟨0x07, 0x07, .u8, (1, 1, 1), .none, 0, 0, 255, 1, true⟩,
   ⟨0x08, 0x08, .u8, (1, 1, 1), .none, 0, 0, 255, 1, true⟩,
   ⟨0x09, 0x09, .u64, (1, 1, 1), .none, 0, 0, 18446744073709551615, 8, true⟩,
   ⟨0x0A, 0x0A, .u8, (1, 1, 1), .none, 0, 0, 255, 1, true⟩,
   ⟨0x0B, 0x0B, .u8, (1, 1, 1), .none, 0, 0, 255, 1, true⟩,
   ⟨0x0C, 0x0C, .u64, (1, 1, 1), .none, 0, 0, 18446744073709551615, 8, true⟩,
   ⟨0x0D, 0x0D, .u64, (1, 1, 1), .none, 0, 0, 18446744073709551615, 8, true⟩,
   ⟨0x0E, 0x0E, .u64, (1, 1, 1), .none, 0, 0, 18446744073709551615, 8, true⟩,
   ⟨0x0F, 0x10, .u64, (1, 1, 1), .none, 0, 0, 18446744073709551615, 8, true⟩,
   ⟨0x11, 0x14, .u64, (1, 1, 1), .none, 0, 0, 18446744073709551615, 8, true⟩]

/-- Rows of Table 19-10 Object 7C01h, Supply monitors. -/
def rows7C01 : List Row :=
  [⟨0x01, 0x0B, .u16, (1, 1, 1), .none, 0, 0, 65535, 2, false⟩,
   ⟨0x0C, 0x0C, .u16, (1, 1, 1), .none, 0, 0, 65535, 2, false⟩,
   ⟨0x0D, 0x0D, .u16, (1, 1, 1), .none, 0, 0, 65535, 2, true⟩,
   ⟨0x0E, 0x0E, .i16, (1, 1, 1), .none, 0, (-32768), 32767, 2, false⟩,
   ⟨0x0F, 0x0F, .i16, (1, 1, 1), .none, 0, (-32768), 32767, 2, false⟩]

/-- Rows of Table 19-11 Object 7C10h, Pace meters. -/
def rows7C10 : List Row :=
  [⟨0x01, 0x18, .u16, (1, 1, 1), .none, 1024, 0, 65535, 2, false⟩,
   ⟨0x19, 0x19, .u16, (1, 1, 1), .none, 1024, 0, 65535, 2, false⟩,
   ⟨0x1A, 0x1A, .u8, (1, 1, 1), .none, 0, 0, 255, 1, false⟩]

/-- Rows of Table 17-10 Object 7E00h, Firmware images. -/
def rows7E00 : List Row :=
  [⟨0x01, 0x01, .u8, (1, 1, 1), .none, 0, 0, 255, 1, false⟩,
   ⟨0x02, 0x02, .u8, (1, 1, 1), .none, 0, 0, 255, 1, false⟩,
   ⟨0x03, 0x03, .u8, (1, 1, 1), .none, 0, 0, 255, 1, false⟩,
   ⟨0x04, 0x05, .u32, (1, 1, 1), .none, 0, 0, 4294967295, 4, false⟩,
   ⟨0x06, 0x07, .u8, (1, 1, 1), .none, 0, 0, 255, 1, false⟩,
   ⟨0x08, 0x08, .u32, (1, 1, 1), .none, 0, 0, 4294967295, 4, true⟩]

/-- Rows of Table 17-11 Object 7E01h, Image transfer. -/
def rows7E01 : List Row :=
  [⟨0x01, 0x01, .domain, (0, 0, 2), .i, 0, 0, 0, 16777216, false⟩,
   ⟨0x02, 0x02, .u8, (1, 1, 1), .none, 0, 0, 255, 1, true⟩,
   ⟨0x03, 0x03, .u32, (1, 1, 1), .none, 0, 0, 4294967295, 4, true⟩]

/-- Rows of Table 17-12 Object 7E02h, Image swap. -/
def rows7E02 : List Row :=
  [⟨0x01, 0x01, .u32, (0, 0, 2), .i, 0, 0, 4294967295, 4, false⟩,
   ⟨0x02, 0x02, .u8, (1, 1, 1), .none, 0, 0, 255, 1, true⟩,
   ⟨0x03, 0x03, .u16, (1, 1, 3), .i, 60, 10, 3600, 2, true⟩,
   ⟨0x04, 0x04, .u32, (0, 0, 2), .i, 0, 0, 4294967295, 4, false⟩,
   ⟨0x05, 0x05, .u32, (1, 1, 1), .none, 0, 0, 4294967295, 4, true⟩]

/-- The objects 1000h to 1030h. -/
def objects1000 : List Obj :=
  [⟨0x1000, rows1000⟩,
   ⟨0x1008, rows1008⟩,
   ⟨0x1009, rows1008⟩,
   ⟨0x100A, rows1008⟩,
   ⟨0x1010, rows1010⟩,
   ⟨0x1011, rows1011⟩,
   ⟨0x1018, rows1018⟩,
   ⟨0x1020, rows1020⟩,
   ⟨0x1030, rows1030⟩]

/-- The objects 2000h to 2803h. -/
def objects2000 : List Obj :=
  [⟨0x2000, rows2000⟩,
   ⟨0x2001, rows2001⟩,
   ⟨0x2002, rows2002⟩,
   ⟨0x2100, rows2100⟩,
   ⟨0x2101, rows2101⟩,
   ⟨0x2102, rows2102⟩,
   ⟨0x2103, rows2103⟩,
   ⟨0x2800, rows2800⟩,
   ⟨0x2801, rows2801⟩,
   ⟨0x2802, rows2802⟩,
   ⟨0x2803, rows2803⟩]

/-- The objects 3000h to 3020h. -/
def objects3000 : List Obj :=
  [⟨0x3000, rows3000⟩,
   ⟨0x3001, rows3001⟩,
   ⟨0x3002, rows3002⟩,
   ⟨0x3020, rows3020⟩]

/-- The objects 3100h to 3101h. -/
def objects3100 : List Obj :=
  [⟨0x3100, rows3100⟩,
   ⟨0x3101, rows3101⟩]

/-- The objects 3400h to 3405h. -/
def objects3400 : List Obj :=
  [⟨0x3400, rows3400⟩,
   ⟨0x3401, rows3401⟩,
   ⟨0x3402, rows3402⟩,
   ⟨0x3403, rows3403⟩,
   ⟨0x3404, rows3404⟩,
   ⟨0x3405, rows3405⟩]

/-- The objects 3600h to 3611h. -/
def objects3600 : List Obj :=
  [⟨0x3600, rows3600⟩,
   ⟨0x3601, rows3601⟩,
   ⟨0x3602, rows3602⟩,
   ⟨0x3603, rows3603⟩,
   ⟨0x3610, rows3610⟩,
   ⟨0x3611, rows3611⟩]

/-- The objects 3800h to 3805h. -/
def objects3800 : List Obj :=
  [⟨0x3800, rows3800⟩,
   ⟨0x3801, rows3801⟩,
   ⟨0x3802, rows3802⟩,
   ⟨0x3803, rows3803⟩,
   ⟨0x3804, rows3804⟩,
   ⟨0x3805, rows3805⟩]

/-- The objects 4000h to 4802h. -/
def objects4000 : List Obj :=
  [⟨0x4000, rows4000⟩,
   ⟨0x4001, rows4001⟩,
   ⟨0x4002, rows4002⟩,
   ⟨0x4003, rows4003⟩,
   ⟨0x4400, rows4400⟩,
   ⟨0x4401, rows4401⟩,
   ⟨0x4402, rows4402⟩,
   ⟨0x4403, rows4403⟩,
   ⟨0x4404, rows4404⟩,
   ⟨0x4405, rows4405⟩,
   ⟨0x4406, rows4406⟩,
   ⟨0x4800, rows4800⟩,
   ⟨0x4801, rows4801⟩,
   ⟨0x4802, rows4802⟩]

/-- The objects 5000h to 5403h. -/
def objects5000 : List Obj :=
  [⟨0x5000, rows5000⟩,
   ⟨0x5001, rows5001⟩,
   ⟨0x5002, rows5002⟩,
   ⟨0x5003, rows5003⟩,
   ⟨0x5004, rows5004⟩,
   ⟨0x5200, rows5200⟩,
   ⟨0x5201, rows5201⟩,
   ⟨0x5202, rows5202⟩,
   ⟨0x5203, rows5203⟩,
   ⟨0x5204, rows5204⟩,
   ⟨0x5205, rows5205⟩,
   ⟨0x5400, rows5400⟩,
   ⟨0x5401, rows5401⟩,
   ⟨0x5402, rows5402⟩,
   ⟨0x5403, rows5403⟩]

/-- The objects 6000h to 6402h. -/
def objects6000 : List Obj :=
  [⟨0x6000, rows6000⟩,
   ⟨0x6001, rows6000⟩,
   ⟨0x6002, rows6000⟩,
   ⟨0x6003, rows6000⟩,
   ⟨0x6010, rows6010⟩,
   ⟨0x6011, rows6011⟩,
   ⟨0x6012, rows6011⟩,
   ⟨0x6013, rows6011⟩,
   ⟨0x6014, rows6011⟩,
   ⟨0x6400, rows6400⟩,
   ⟨0x6401, rows6400⟩,
   ⟨0x6402, rows6402⟩]

/-- The objects 7000h to 7E02h. -/
def objects7000 : List Obj :=
  [⟨0x7000, rows7000⟩,
   ⟨0x7001, rows7001⟩,
   ⟨0x7002, rows7002⟩,
   ⟨0x7003, rows7003⟩,
   ⟨0x7004, rows7004⟩,
   ⟨0x7200, rows7200⟩,
   ⟨0x7201, rows7201⟩,
   ⟨0x7400, rows7400⟩,
   ⟨0x7401, rows7401⟩,
   ⟨0x7402, rows7402⟩,
   ⟨0x7800, rows7800⟩,
   ⟨0x7801, rows7801⟩,
   ⟨0x7C00, rows7C00⟩,
   ⟨0x7C01, rows7C01⟩,
   ⟨0x7C10, rows7C10⟩,
   ⟨0x7E00, rows7E00⟩,
   ⟨0x7E01, rows7E01⟩,
   ⟨0x7E02, rows7E02⟩]

/-- Every object of Table 16-13, by ascending index. -/
def objects : List Obj :=
  objects1000 ++ objects2000 ++ objects3000 ++ objects3100 ++ objects3400 ++ objects3600 ++ objects3800
    ++ objects4000 ++ objects5000 ++ objects6000 ++ objects7000

/-- The object of an index (R430). -/
def objectAt (index : Nat) : Option Obj := objects.find? fun o => o.index == index

/-- The highest subindex of an object, its subindex 00h (R428). -/
def Obj.highest (o : Obj) : Nat := o.rows.foldl (fun m r => max m r.last) 0

/-- The row of a subindex. -/
def Obj.row (o : Obj) (sub : Nat) : Option Row := o.rows.find? fun r => decide (r.first ≤ sub ∧ sub ≤ r.last)

/-- The row of a subindex by its number. -/
def rowOf (k : Nat) : Option Row :=
  match objectAt (k / 256) with
  | some o => o.row (k % 256)
  | none => none

/-- The value of a subindex after RESET_N, before the stored configuration is loaded (R436): the table's default. -/
def resetValue (k : Nat) : Int :=
  match rowOf k with
  | some r => r.dflt
  | none => 0

/-- The number of bits of a numeric type (Table 16-1). -/
def DType.width : DType → Nat
  | .bool => 1
  | .i8 => 8
  | .u8 => 8
  | .i16 => 16
  | .u16 => 16
  | .i32 => 32
  | .u32 => 32
  | .u64 => 64
  | _ => 0

/-- The width of a subindex, modulo which a counter counts (R435). -/
def widthOf (k : Nat) : Nat :=
  match rowOf k with
  | some r => r.type.width
  | none => 0

end Sys2Proof.Machine
end

