-- ==== Sys2Proof/Machine/State.lean ====
section
/-! DEFINITION. Machine/State.lean: everything the spec gives the chip, as plain data, and its reset value. -/
namespace Sys2Proof.Machine

/-- What leaves the chip. -/
inductive Out where
  /-- A packet handed to the lanes (R83): octets 1–7 of its START block, its payload and its `LCRC`. -/
  | packet (start : Nat) (payload : Octets) (lcrc : Nat)
  /-- A LINK block, octets 1–7, handed to the lanes for 4 consecutive columns (R102, Table 03-12). -/
  | link (block : Nat)
  /-- One block position of the 8 lanes, each a scrambled block or electrical idle (R77, R78, R99). -/
  | column (lanes : List (Option LineBlock))
  /-- A Clause 22 read of a register of the PHY at an address, on the management interface of an SGMII port (R374). -/
  | mdio (port phy register : Nat)
  /-- An Ethernet frame, without its FCS, sent from a port of the switch: from the high queue or not (R376). -/
  | frame (port : Nat) (high : Bool) (data : Octets)
  /-- The answer to a register access of a master that does not come by a MEM packet: abort code and value (R481). -/
  | answer (master abort value : Nat)
  /-- A firmware pair's internal interrupt (R483). -/
  | doorbell (identity : Nat)
  /-- The save record as it is programmed into its slot of flash (R506, Tables 19-4 and 19-5). -/
  | saved (record : Octets)
  /-- PPS_OUT high for a width in µs (R401). -/
  | pps (widthUs : Nat)
  /-- A burst on the strobe of row r of die d (Table 08-2): its first rise in 78.125 ps, and its pulses as
  (rise after that, width). -/
  | burst (die row start : Nat) (pulses : List (Nat × Nat))
  /-- Code groups on a head link lane, 0–511 (Tables 09-2 to 09-4): a frame after one IDLE, or the IDLE of a RESYNC. -/
  | headFrame (lane : Nat) (groups : List Nat)

  /-- A step of an axis in external mode: a STEP pulse of 1,000 ns at AXn_A1, with the level of DIR (R344). -/
  | step (axis : Nat) (forward : Bool)
  /-- The ENABLE output of an axis in external mode, AXn_B1 (R344). -/
  | axisEnable (axis : Nat) (on : Bool)
  /-- The bridge of phase A (0) or B (1) of an axis in internal mode: 0 off, 1 drive, 2 slow decay, 3 fast decay, and the
  sign of the setpoint (R344, R362). -/
  | bridge (axis phase mode : Nat) (negative : Bool)

  /-- CSIn_LTRIG of a port high for a width in ns, with CSIn_FSYNC or not (R286, R290). -/
  | trigger (port widthNs : Nat) (sync : Bool)
  /-- CSIn_FSYNC alone, at a frame's first line whose line trigger is skipped (R287, R290). -/
  | sync (port widthNs : Nat)
  /-- A write of camera registers on CSIn_SCL and CSIn_SDA: the 7-bit camera address, and (register, octets, code) (R292). -/
  | i2c (port address : Nat) (writes : List (Nat × Nat × Nat))
  /-- A row of the light on for a time in ns, with its columns at k/16 of `COL_CURRENT_MA` (R328, R340). -/
  | light (row ns k : Nat)
  /-- Rows of the light off: those of pipeline 0 or 1, or with 2 all rows and every column gate (R336, R337). -/
  | lightOff (which : Nat)
  deriving DecidableEq, Repr

/-- Whether a firmware pair runs (R36, R38). -/
inductive PairState where
  | running
  | restarting
  | held
  deriving DecidableEq, Repr

/-- One firmware pair: its state, the times of its last mismatches, newest first (R38), and whether its internal
interrupt is raised (R483). -/
structure Pair where
  state    : PairState
  times    : List Nat
  doorbell : Bool
  deriving DecidableEq, Repr

/-- Chapter 01 and the reset input: R522's reset state, the firmware pairs, what Table 01-8 and R22 have lost, and what
R34 watches. -/
structure Sys where
  inReset     : Bool
  /-- The time at which RESET_N was released (R55, R457). -/
  releasedAt  : Nat
  supervisor  : Pair
  inspection  : Pair
  motion      : Pair
  islandsLost : List Nat
  regionsLost : List Nat
  /-- The regions whose pace figure was below 1,000 in the last window (R34). -/
  paceLow     : List Nat
  deriving DecidableEq, Repr

/-- What a latch of the position block holds (R53): the count, its extrapolated fraction in 2⁻¹⁶ count and the island-11
time. -/
structure Latch where
  count : Nat
  frac  : Nat
  time  : Nat
  deriving DecidableEq, Repr

/-- One position channel, or the step generator of axis 0 as a pacing source: the accepted levels of its inputs A and B
(R39), the latch of the last count edge, the last 17 edge times newest first and the
run of edges in one direction (R54), the quadrature errors of the last 1 ms (R42), the index latched last with the arming
of R48 to R50, and the wheel block of R51 and R52 with the last reference. -/
structure Channel where
  a         : Bool
  b         : Bool
  edge      : Option Latch
  times     : List Nat
  run       : Nat
  quad      : List Nat
  /-- The last index; none while the comparison of R48 is not armed. -/
  index     : Option Latch
  back      : Bool
  missing   : Bool
  wheelEdge : Option Nat
  wheelGap  : Option Nat
  teeth     : Nat
  refSeen   : Bool
  goodRevs  : Nat
  wheelRef  : Option Latch
  deriving DecidableEq, Repr

/-- The cross-check window of R67: the net counts of both sources since its start, the quadrature errors and the `INDEX_BAD`
seen in it of either (R68), and both net counts at the last edge before the active source's first indicator (R70). -/
structure CheckWindow where
  active     : Int
  checking   : Int
  atEdge     : Int × Int
  quadActive : Bool
  quadCheck  : Bool
  badActive  : Bool
  badCheck   : Bool
  good       : Option (Int × Int)
  deriving DecidableEq, Repr

/-- Chapter 02: the channels, the fraction of the high-water position above `HWM_COUNT` in 2⁻¹⁶ count (R57), the
excursion of R63, the OVERSPEED latch of R66, the origin that waits for an index (R61), and the cross-check. -/
structure Position where
  ch0       : Channel
  ch1       : Channel
  gen       : Channel
  genCount  : Nat
  frac      : Nat
  excursion : Bool
  overspeed : Bool
  originDue : Bool
  /-- The channel that checks the active source now, if any. -/
  checking  : Option Nat
  window    : CheckWindow
  deriving DecidableEq, Repr

/-- A sequenced packet of the chip: sent and held for replay (R93), or waiting for credit (R90). -/
structure Sent where
  type    : Nat
  seq     : Nat
  payload : Octets
  sends   : Nat
  deriving DecidableEq, Repr

/-- An ORDER that has been sent and not yet taken effect (R102). -/
structure WidthOrder where
  mask   : Nat
  target : Nat
  tries  : Nat
  acked  : Bool
  deriving DecidableEq, Repr

/-- A packet as the lanes carry it (R83): octets 1–7 of its START block, its payload, the zero octets after it, its `LCRC`,
and whether another block stood where a data block was due. -/
structure Packet where
  start   : Nat
  payload : Octets
  pad     : Octets
  lcrc    : Nat
  broken  : Bool
  deriving DecidableEq, Repr

/-- The equalisers of one lane (R76): the pre- and post-cursor of its transmitter, and the peaking in dB and the taps that
its receiver has adapted. -/
structure Equaliser where
  pre  : Nat
  post : Nat
  ctle : Nat
  taps : List Nat
  deriving DecidableEq, Repr

/-- One lane (R76–R80, R96–R105): sync headers tested and invalid ones among them, the last 58 line bits received and sent,
the parity since the last AM sent, the `BIP8` results of the last 8 marker periods, the consecutive AMs missing or with a
wrong lane number, its equalisers and those it was trained to at a rate, `PRE_STAT`, `POST_STAT`, bits [29:27] of its TRN
blocks, and the last 31 bits of PRBS31 sent and received. -/
structure Lane where
  tested   : Nat
  invalid  : Nat
  rxBits   : Nat
  txBits   : Nat
  txParity : Nat
  bip      : List Bool
  badAms   : Nat
  eq       : Equaliser
  trained  : List (Nat × Equaliser)
  preStat  : Nat
  postStat : Nat
  verdict  : Nat
  txPrbs   : Nat
  rxPrbs   : Nat
  deriving DecidableEq, Repr

/-- The lanes together (R78–R82, R96–R104): the 8 lanes; the lanes that passed each rate index so far, the rate the
countdown leads to, the countdown, whether the chosen rate is being tested again, and the lanes that this training has marked
failed; the last `AM_COUNT` received and the ORDER under way; the mask that packets are striped with; the next block position
since an AM, the next `AM_COUNT` sent, the columns since a FILL column, the columns in the elastic buffer, and the LINK blocks
with their columns left and the packets that wait for the lanes. -/
structure Lanes where
  units     : List Lane
  passes    : List (Nat × Nat)
  nextRate  : Option Nat
  countdown : Nat
  settling  : Bool
  marked    : Nat
  amCount   : Nat
  order     : Option WidthOrder
  stripe    : Nat
  txPos     : Nat
  txCount   : Nat
  fillAge   : Nat
  elastic   : Nat
  txLinks   : List (Nat × Nat)
  txPackets : List (List LineBlock)
  deriving DecidableEq, Repr

/-- Chapter 03: the lanes, sequence numbers, replay buffer and credits of the raster link. -/
structure Link where
  lanes     : Lanes
  expectSeq : Nat
  delivered : Bool
  /-- `EXPECT_SEQ` of the last gap NACK and its time (`nack_once`). -/
  gapNack   : Option (Nat × Nat)
  nextTx    : Nat
  replay    : List Sent
  /-- Packets that wait for credit, oldest first: type and payload. -/
  waiting   : List (Nat × Octets)
  spentR    : Nat
  spentC    : Nat
  limitR    : Nat
  limitC    : Nat
  /-- Units the host has spent in each pool, and the cumulative limits the chip advertises. -/
  hostR     : Nat
  hostC     : Nat
  advR      : Nat
  advC      : Nat
  heard     : Bool
  lastReset : Bool
  /-- R485: the next CREDIT raises the host's doorbells again. -/
  doorbells : Bool
  echoId    : Nat
  echoSent  : Option (Nat × Nat)
  lastAck   : Nat
  deriving DecidableEq, Repr

/-- A raster block of a page (R147): its index, the channel of its home copy (0 A, 1 B) and the first of its granules there
(R114), its octets, whether the other channel holds a mirror copy (R137) and the first granule of that, and whether no copy of
it can be read any more (Table 04-9). -/
structure Block where
  index    : Nat
  channel  : Nat
  at_      : Nat
  data     : Octets
  mirrored : Bool
  mirrorAt : Nat
  lost     : Bool
  deriving DecidableEq, Repr

/-- A page (R113 to R124): its name, its lines, whether it is committed, its flags of Table 04-7, the granules of 64
bytes reserved for it, its blocks, the indices a RESEND names, the bands freed (R118), the lines counted in `COUNT`, the
lines skipped, the line F of Table 04-5, the lines that starved (R124), whether FREEBOARD_EMPTY has been raised for it, and
whether a band was freed with a block that was never resident. -/
structure Page where
  tag       : Nat
  stream    : Nat
  start     : Nat
  lines     : Nat
  total     : Nat
  committed : Bool
  flags     : Nat
  reserved  : Nat
  blocks    : List Block
  resend    : List Nat
  freed     : Nat
  blank     : List Nat
  skipped   : Nat
  abortAt   : Option Int
  empty     : List Nat
  starved   : Bool
  lacking   : Bool
  /-- R454: committed while the chip drains, so that it waits for the next entry. -/
  held      : Bool
  deriving DecidableEq, Repr

/-- What waits behind the verifier in one stream (R155, R158): a block with the channel and the first granule of its copy and
whether its page was removed meanwhile, or a COMMIT. -/
inductive Arrival where
  | block (data : Octets) (channel at_ : Nat) (gone : Bool)
  | commit (tag start : Nat)
  deriving DecidableEq, Repr

/-- A codec job in flight (R165): its descriptor, and what it has found and made: `STATUS`, `REASON`, blocks done, the
block that failed, bytes, fallbacks, the blocks for a page with their channel, and the octets for the window. -/
structure Job where
  words    : List Nat
  status   : Nat
  reason   : Nat
  done     : Nat
  failed   : Nat
  bytes    : Nat
  rawBack  : Nat
  verBack  : Nat
  blocks   : List (Nat × Octets)
  writes   : List (Nat × Octets)
  deriving DecidableEq, Repr

/-- Chapters 04 and 05: the pages in START_LINE order, the end of R116, the FREEBOARD_LOW latch of R123,
the verifier's queues of both streams, the codec jobs, the number last written to `LOG_SEQ` (R170), and the pages
evicted and not opened again as stream, tag, start and lines (R140). -/
structure PageStore where
  pages    : List Page
  lastEnd  : Nat
  armed    : Bool
  queue0   : List Arrival
  queue1   : List Arrival
  jobs     : List Job
  logRead  : Nat
  evicted  : List (Nat × Nat × Nat × Nat)
  deriving DecidableEq, Repr

/-- A request that waits for its data burst, or for its completion behind older ones of its port (R128): the burst's end where
it has been. -/
structure DramWait where
  request : DramRequest
  served  : Option Nat
  deriving DecidableEq, Repr

/-- One entry of a bank's row tracker (R133): the bank, the row, the activations it counts, those of each port in the window,
and whether it has been handled. -/
structure RowCount where
  bank    : Nat
  row     : Nat
  count   : Nat
  ports   : List Nat
  handled : Bool
  deriving DecidableEq, Repr

/-- The DRAM controller. Ranks, banks and rows carry one number each. Requests in the order they came; the row open in a bank;
the round robin of R126; the ports in in-order mode for a row (R129); the port and rank of the last burst (R131). Refreshes owed
and the next due per rank, and the last one per subchannel as (subchannel, rank, time) (R130, R131). The devices' thresholds and
the accumulated activations of a bank (R132), the row trackers, and the ports throttled on a row with their last activation
(R133). Corrections per device and uncorrectable errors and exhausted writes per channel with their times (R134, R138), the
beginning of the scrub pass (R136), the line from which the mirror area was full (R137), a channel in restoration (R142), what the
training under way has found (R145), and per channel the write timing in 1/1024 UI and the drift to be taken up in the next
refresh gap (R145). -/
structure Dram where
  waiting   : List DramWait
  openRows  : List (Nat × Nat)
  robin     : List Int
  inOrder   : List (Nat × Nat)
  lastBurst : Option (Nat × Nat)
  owed      : List (Nat × Nat)
  dueAt     : List (Nat × Nat)
  refreshed : List (Nat × Nat × Nat)
  rfm       : Option (Nat × Nat)
  raa       : List (Nat × Nat)
  rows      : List RowCount
  throttles : List (Nat × Nat × Nat)
  corrected : List (Nat × Nat)
  ueTimes   : List (Nat × Nat)
  crcTimes  : List (Nat × Nat)
  scrubFrom : Nat
  fullAt    : Option Int
  restoring : Option Nat
  found     : Option Training
  timing    : List Int
  drift     : List (Nat × Int)
  deriving DecidableEq, Repr

/-- A polder (R196, Table 06-9): its state code, its fault count, held at 255, and `LAST_CAUSE`. -/
structure Polder where
  state  : Nat
  faults : Nat
  cause  : Nat
  deriving DecidableEq, Repr

/-- What the sluice has admitted to a stream (R173, R124): web lines first to last of one band that begins at web line
`base`, with the pixels of each block column read, 16,384 in raster order. -/
structure Chunk where
  base  : Int
  first : Int
  last  : Int
  tiles : List (Nat × List Nat)
  deriving DecidableEq, Repr

/-- A lane line of the 16 lanes of a stream (R185, R221): its web line, and per fitted die the nozzles of its 1,024
columns that fire: bits 0–3 rows A–D of the die, or of the lower die of an overlap, bits 4–7 those of the higher. -/
structure LaneLine where
  line : Int
  dies : List (Nat × List Nat)
  deriving DecidableEq, Repr

/-- One stream of a polder (R172): the next web line of each of its two dies, whose lanes take a lane line each as they have
room (R173, R185), its band buffers, and the lane lines in its lane FIFOs and history tails, newest first. -/
structure Stream where
  next  : Int × Int
  bufs  : List Chunk
  lines : List LaneLine
  deriving DecidableEq, Repr

/-- A `DIE_TRIM` ramp (R180): the die, its tide line, and the trim position before and after it in 1/256 line. -/
structure Ramp where
  die  : Nat
  line : Int
  old  : Int
  new  : Int
  deriving DecidableEq, Repr

/-- Chapter 06: the polders and polder S, whom polder S serves or shadows, whether it is connected (R192), when and why
the takeover began, the tide line of a return (R197), the polder after which shadowing goes on, the
web lines at which both streams were joined (R190), the streams (2p the even
stream of polder p), the ramps, and the pages a LANE_FIFO_UNDERRUN has been raised for (R187). -/
structure Polders where
  units     : List Polder
  spare     : Polder
  serving   : Option Nat
  shadowed  : Option Nat
  connected : Bool
  takenAt   : Nat
  takeCause : Nat
  returnAt  : Option Int
  resume    : Option Nat
  joined    : Int × Int
  streams   : List Stream
  ramps     : List Ramp
  underrun  : List (Nat × Nat)
  deriving DecidableEq, Repr

/-- A probe (R222): the values of 3404h:01–05h it was handed over with, and its tide line once known. -/
structure Probe where
  first : Nat
  last  : Nat
  odd   : Nat
  even  : Nat
  lines : Nat
  start : Option Int
  deriving DecidableEq, Repr

/-- Chapter 07: the health maps by nozzle 4096·die + 4·column + row, as state + 4·cause, sparse with GOOD and written
as what an unlisted nozzle reads: in force, staged, the copy a commit brings (R202), the one it replaces; the nozzles
inhibited by R204; the nozzles written last, as the instant and the first and last nozzle of each write (R206); the probe,
and the probes whose lines have been composed and may still fire (R222); the lines the trace keeps per window, newest
first, each with its run by `MODE_CHANGES` (R223); the seeped and lost drops of the present window of 1 s (R217). -/
structure Health where
  inForce   : List (Nat × Nat)
  staged    : List (Nat × Nat)
  coming    : List (Nat × Nat)
  old       : List (Nat × Nat)
  inhibited : List Nat
  written   : List (Nat × Nat × Nat)
  probe     : Option Probe
  probed    : List Probe
  traces    : List (List (Nat × Int × List (Nat × Nat)))
  seeped    : Nat
  lost      : Nat
  deriving DecidableEq, Repr

/-- A pulse entry as a slot takes it (Table 08-3, R234, R248), in units of 78.125 ps: the main width with its trims. -/
structure Burst where
  preCount : Nat
  preWidth : Nat
  preGap   : Nat
  main     : Nat
  kwWidth  : Nat
  kwCount  : Nat
  deriving DecidableEq, Repr

/-- A committed slot (R58, R237): its web line and number, its predicted firing time in 78.125 ps, the time of its
commitment in ns, and its pulse entry. -/
structure Slot where
  line  : Int
  index : Nat
  due   : Nat
  setAt : Nat
  burst : Burst
  deriving DecidableEq, Repr

/-- The schedule of one row of a die: the web line and slot to commit next, the committed slots that have not started, the
line in progress with whether it is a keep-warm line and the bursts it has had, the end of the guard of the last burst
in 78.125 ps, the columns that the line in progress fires, the last line completed with the end of its 16th burst, when
the last print or keep-warm line began (R244), the web line whose FIRE frame goes next, whether that frame replaces the
current buffer (R258), its `TAG`, the web line last sent as a keep-warm line, the keep-warm line of READY under way as its
first slot, slot length and burst length (R245), the last row line counted by R259, and the web line at which a slip was
found (R260). -/
structure RowLine where
  line     : Int
  slot     : Nat
  queue    : List Slot
  firing   : Option (Int × Bool)
  bursts   : Nat
  guardEnd : Nat
  drops    : List Nat
  ended    : Option (Int × Nat)
  began    : Option Nat
  sendLine : Int
  replace  : Bool
  tag      : Nat
  warmSent : Option Int
  warmRun  : Option (Nat × Nat × Nat)
  missed   : Option Int
  slip     : Option Int
  deriving DecidableEq, Repr

/-- Chapter 08: the rows that fire, by 4·die + row, until when slots may still start after a sag (R503), the firing lines
counted by R187 last, the pages that a HEAD_FRAME_MISSED has been raised for (R259), and when READY last sent keep-warm lines (R245). -/
structure Firing where
  rows      : List (Nat × RowLine)
  cutoff    : Option Nat
  uncovered : List Int
  missed    : List (Nat × Nat)
  warmAt    : Nat
  deriving DecidableEq, Repr

/-- The lifetime figures of a die (Table 09-11). -/
structure Life where
  seq         : Nat
  fires       : List Nat
  kwLines     : Nat
  poweredMin  : Nat
  hotStops    : Nat
  quarantines : Nat
  deriving DecidableEq, Repr

/-- What a result of the meter changed, so that R274 can discard it: the heater, its entry in the resistance map and its
count of results within 6 % before, the state of its nozzle in the staged map before and after where the result staged
one, and the counter that counted it. -/
structure MeterUndo where
  heater  : Nat
  entry   : Nat
  streak  : Nat
  health  : Option (Nat × Nat)
  counter : Option Nat
  deriving DecidableEq, Repr

/-- The resistance meter's state of a die (R272 to R276): whether its idle window is open, the nozzle of the measurement
under way (4096 the reference), the sweep place i, heaters since the reference, the last good reference in 0.01 Ω, what
the results since then have changed, reference errors in a row, the nozzle and class of a confirmation that is due, the
results within 6 % in a row by nozzle, and the resistance map by nozzle in 0.01 Ω, FFFFh where unlisted. -/
structure Meter where
  idle    : Bool
  task    : Option Nat
  sweep   : Nat
  since   : Nat
  ref     : Option Nat
  undo    : List MeterUndo
  errors  : Nat
  confirm : Option (Nat × Nat)
  streaks : List (Nat × Nat)
  map     : List (Nat × Nat)
  deriving DecidableEq, Repr

/-- The thermal state of a die (R236, R247 to R251, R538): its four sensors in 0.1 °C where valid, the band, the states of
Table 08-14, whether a valid reading has come since its link entered UP, when the last one came (or UP was entered),
when a keep-warm line ran last, and whether one waits for a measurement (R246). -/
structure Thermal where
  sensors : List (Option Int)
  band    : Nat
  soft    : Bool
  hot     : Bool
  stale   : Bool
  seen    : Bool
  since   : Nat
  warmed  : Option Nat
  warmDue : Bool
  deriving DecidableEq, Repr

/-- A poll that a lane has sent and whose reply is due: its order and argument, the burst counts (R260) and the tags of the
next buffers (R259) that the reply should show, and whether no ID_WRITE has been sent since (R267). -/
structure HeadPoll where
  lane   : Nat
  op     : Nat
  arg    : Nat
  counts : List Nat
  tags   : List (Option Nat)
  fresh  : Bool
  deriving DecidableEq, Repr

/-- A die and its link (Table 09-12, Table 09-17): the link state and when it was entered, whether the identity is good, its
failed lanes, lowest eye and the sampling phase of each lane in 1/64 UI (R254), its RETRAINs, the times of its last
RETRAINs, RESYNCs and discarded replies, newest first, when the link entered UP, the identity memory as read in TRAIN and
the 16 octets read so far by number (R264), the last print burst, the lane polled last for sensors, the polls whose replies
are due, the lanes polled once more (R259), the orders that wait for a line period (R262), its lifetime figures, the
lifetime copy that counts and when copies were written last (R266, R267), its meter, its temperatures, and the ID_WRITE
orders still to send, each an address and 16 octets (R267). -/
structure Die where
  link      : Nat
  enteredAt : Nat
  idOk      : Bool
  lanesBad  : Nat
  eye       : Nat
  phases    : List Nat
  retrains  : Nat
  retrainAt : List Nat
  resyncAt  : List Nat
  discardAt : List Nat
  upAt      : Nat
  memory    : Octets
  reading   : List (Nat × Octets)
  lastBurst : Option Nat
  polled    : Nat
  polls     : List HeadPoll
  again     : List Nat
  orders    : List (Nat × Nat × Octets)
  life      : Life
  copy      : Nat
  copiedAt  : Nat
  meter     : Meter
  thermal   : Thermal
  idWrites  : List (Nat × Octets)
  deriving DecidableEq, Repr

/-- What a lane has sent in the present line period (R262): the firing line, whether a poll, a resend and another order have
gone, and when the lane was polled last. -/
structure LaneUse where
  line     : Int
  polled   : Bool
  resent   : Bool
  ordered  : Bool
  polledAt : Option Nat
  deriving DecidableEq, Repr

/-- Chapter 09: the dies by number, the quarantine in force before the last change of it (R207), and by lane the running
disparity of what the chip sends (R255; 1 positive), what it has sent in the present line period, and the code errors
(R255) and discarded frames (R256) of its receiver. -/
structure Heads where
  dies          : List (Nat × Die)
  quarantineOld : Nat
  disparity     : List (Nat × Nat)
  uses          : List (Nat × LaneUse)
  codeErrors    : List (Nat × Nat)
  discarded     : List (Nat × Nat)
  deriving DecidableEq, Repr

/-- A settings generation (R291, R341): its number, its exposure in ns and its gain in 0.01 dB with the compensation. -/
structure Settings where
  number   : Nat
  exposure : Nat
  gain     : Int
  deriving DecidableEq, Repr

/-- A settings transaction on I²C (R292, R294): the generation, the registers to write as (address, octets, code), the
codes it will have written (exposure, gain), and the failures so far. -/
structure Transaction where
  settings : Settings
  writes   : List (Nat × Nat × Nat)
  codes    : Option Nat × Option Nat
  tries    : Nat
  deriving DecidableEq, Repr

/-- A camera line of a frame (R286, R287, R334): triggered and due from the camera, replaced by zeros, entered as
zeros by a restart (R300), or a diagnostic line that the camera delivers and that is replaced by zeros. -/
inductive CameraSlot where
  | due
  | zero
  | lost
  | diag
  deriving DecidableEq, Repr

/-- A merged pipeline line (R284): its pixels, the spans (first pixel, width) that were replaced by zeros, and whether a
restart entered it as zeros (R300). -/
structure MergedLine where
  pixels : List Nat
  zeroed : List (Nat × Nat)
  lost   : Bool
  deriving DecidableEq, Repr

/-- A frame (R288 to R290, R296 to R299): its number, the camera line of its first line, the local time of its first
trigger, its buffer (none: discarded), its flags of Table 10-6, `CSI_FRAME`, its camera lines in order, whether no more
follow, whether the camera's frame has begun and ended, whether its lines from now on are lost to a restart (R300), its merged
lines, newest first, the embedded-data packets stored, the sensor lines replaced by R299, and the events already raised for
it. -/
structure Frame where
  number   : Nat
  first    : Int
  start    : Nat
  buffer   : Option Nat
  flags    : Nat
  csi      : Nat
  slots    : List CameraSlot
  closed   : Bool
  begun    : Bool
  ended    : Bool
  lost     : Bool
  lines    : List MergedLine
  embedded : List Octets
  bad      : Nat
  told     : List Nat
  deriving DecidableEq, Repr

/-- A frame buffer in use after the frame's end (R297): whether inspection and the host have released it, the frame, and the
settings in force in it. -/
structure HeldFrame where
  inspected : Bool
  released  : Bool
  frame     : Frame
  settings  : Settings
  deriving DecidableEq, Repr

/-- The line buffer of a tile (R284): the lines delivered in the present camera frame, and those not merged yet, oldest
first; none for a bad line. -/
structure TileFeed where
  got  : Nat
  held : List (Option (List Nat))
  deriving DecidableEq, Repr

/-- The effect point of a settings generation (R293): its first frame, and the end of its transaction until the next
FSYNC. -/
structure EffectPoint where
  frame    : Int
  settings : Settings
  wrote    : Option Nat
  deriving DecidableEq, Repr

/-- A pipeline of camera intake: open frames, oldest first, frame buffers held, the next frame number, the next camera
line, the firing time of its trigger once committed (R58), the tile feeds, the newest, base and pending settings generations,
the effect points, newest first (R293), the frames flagged GEN_UNCERTAIN, the codes last written, the transaction under way,
whether a write waits for an FSYNC and whether one has come, the consecutive failures (R294), the times of the last restarts
and lane synchronisation errors (R300), and the period of the last trigger (R289). -/
structure Pipeline where
  frames    : List Frame
  held      : List HeldFrame
  nextFrame : Nat
  nextLine  : Int
  due       : Option Nat
  feeds     : List TileFeed
  newest    : Settings
  base      : Settings
  pending   : Option Settings
  effects   : List EffectPoint
  uncertain : List Int
  sent      : Option Nat × Option Nat
  write     : Option Transaction
  waitSync  : Bool
  syncCame  : Bool
  failures  : Nat
  restarts  : List Nat
  syncTimes : List Nat
  period    : Option Nat
  deriving DecidableEq, Repr

/-- What inspection knows of a pixel that it traces (R311 to R315): its pixel, the trace window (0–7) or none, the trace
entries copied, newest line first, and per camera line analysed since (line, residual, coverage), oldest first. -/
structure Tracked where
  pixel   : Nat
  window  : Option Nat
  trace   : List (Int × List (Nat × Nat))
  samples : List (Int × Rat × Nat)
  deriving DecidableEq, Repr

/-- A streak candidate (R310 to R314): its pixel, whether EXCESS, the consecutive frames as a candidate, whether it is
confirmed, the consecutive frames towards clearing, the profile at its last frame, its trace, the order of its first
sighting, whether it waits for a window, the naming probes asked for, whether it waits for its turn to probe, whether a probe asked
for has no tide line yet, the web lines of the probe that it is judged by, and whether it has been named or declared
unnamed. -/
structure Streak where
  pixel     : Nat
  excess    : Bool
  run       : Nat
  confirmed : Bool
  clearing  : Nat
  profile   : Int
  tracked   : Tracked
  seq       : Nat
  waits     : Bool
  probes    : Nat
  queued    : Bool
  asked     : Bool
  probe     : Option (Int × Int)
  settled   : Bool
  deriving DecidableEq, Repr

/-- A proposal (R316, R317): its number, its nozzle as 4096·die + 4·column + row, the proposed state, its record words. -/
structure Proposal where
  id     : Nat
  nozzle : Nat
  state  : Nat
  words  : List Nat
  deriving DecidableEq, Repr

/-- Registration of one zone and rank (R320, R321): the sum and the number of its valid frames in the period, whether the
limit has stopped it, whether a change of its trims is on its way, and the web line up to which it waits. -/
structure Rank where
  sum     : Rat
  frames  : Nat
  limited : Bool
  asked   : Bool
  until_  : Option Int
  deriving DecidableEq, Repr

/-- One zone seen by a pipeline: the consecutive frames of mismatch (R319), its ranks, and the sum and number of its
cross-web errors in the period. -/
structure Zone where
  run   : Nat
  even  : Rank
  odd   : Rank
  cross : Rat
  seen  : Nat
  deriving DecidableEq, Repr

/-- The inspection of one pipeline: the cause of its blindness or 0 (R322), the background by pixel (R306), the settings it
stands for (R308), its streaks and zones, and the first camera line not analysed yet. -/
structure Inspect where
  blind      : Nat
  background : List (Nat × Rat)
  settings   : Option Settings
  streaks    : List Streak
  zones      : List Zone
  seenTo     : Int
  deriving DecidableEq, Repr

/-- A probe of R315 on a PROBATION nozzle: the pipeline, the nozzle, its trace, and the probe's lines once known. -/
structure Recheck where
  pipeline : Nat
  nozzle   : Nat
  tracked  : Tracked
  probe    : Option (Int × Int)
  deriving DecidableEq, Repr

/-- A band of the expected image (R303): its first and last web line, and the pixels of each block column read. -/
structure ExpectBand where
  first : Int
  last  : Int
  tiles : List (Nat × List Nat)
  deriving DecidableEq, Repr

/-- Chapter 11: both pipelines, the expected history, newest band first, the columns excused as (web line, first, last)
(R305), the order of sightings, the held proposals, oldest first, nozzles with the times of their applied OUT proposals
(R316), dies with the time of INSPECT_LIMIT, rejected nozzles with their pipeline, pixel and whether the streak has
cleared since (R318), the recheck under way and the times of the last rechecks (R315), and who owns the naming probe
(pipeline and pixel). -/
structure Inspection where
  units    : List Inspect
  bands    : List ExpectBand
  excused  : List (Int × Nat × Nat)
  sighted  : Nat
  held     : List Proposal
  outs     : List (Nat × Nat)
  limits   : List (Nat × Nat)
  rejected : List (Nat × Nat × Nat × Bool)
  recheck  : Option Recheck
  checked  : List (Nat × Nat)
  prober   : Option (Nat × Nat)
  deriving DecidableEq, Repr

/-- A pulse of the light (R328, R333, R338): its row, when it began and for how long it runs. -/
structure Pulse where
  row   : Nat
  start : Nat
  span  : Nat
  deriving DecidableEq, Repr

/-- The exposure window of a pipeline (R328): from the line trigger, to its end, whether its line diagnoses (R334), with the rows
still to light and for how long. -/
structure Exposure where
  opens : Nat
  ends  : Nat
  diag  : Bool
  rows  : List (Nat × Nat)
  deriving DecidableEq, Repr

/-- The light of one pipeline: its last exposure window, the camera lines since the last diagnosis and since the last
closed gap (R333, R334), the last row diagnosed, the restore test with its row pulses left and the segments measured
(segment, open or short found, in order) and the time of its last pulse (R338), the k that its current runs at, the
generation and frame of the last change of k when the current has not changed yet (R341), since when its thermistor
reads invalid, and whether it is too hot (R342). -/
structure Lamp where
  window    : Option Exposure
  lines     : Nat
  gapless   : Nat
  lastRow   : Nat
  testing   : Option (List Nat × List (Nat × Nat))
  testedAt  : Nat
  current   : Nat
  change    : Option (Nat × Int)
  invalidAt : Option Nat
  hot       : Bool
  deriving DecidableEq, Repr

/-- Chapter 12: both lights, the pulse that is on, the end of the last one, and what the last bad measurement of a
segment found (segment 16·row + column, 1 open, 2 short) (R335). -/
structure Light where
  units   : List Lamp
  pulse   : Option Pulse
  lastEnd : Nat
  suspect : List (Nat × Nat)
  deriving DecidableEq, Repr

/-- A motion command as Table 13-2 spells it. -/
structure Motion where
  id     : Nat
  op     : Nat
  axis   : Nat
  target : Int
  speed  : Nat
  accel  : Nat
  decel  : Nat
  deriving DecidableEq, Repr

/-- What an axis does once it stands still (R348, R351, R360, R365): it only stands, the command ends with a result, it
runs on a number of microsteps or without end at a speed in 2⁻¹⁶ microstep/s, it homes, or it goes on with LEARN. -/
inductive AxisNext where
  | rest
  | finish (result : Nat)
  | run (forward : Bool) (dist : Option Nat) (goal : Nat)
  | home
  | seek
  | homed
  | learnt
  deriving DecidableEq, Repr

/-- The chopper of one phase (R362, R363): 0 off, 1 drive, 2 slow decay, 3 fast decay, since when, the chop cycles counted
and the sum of the differences between setpoint and mean of those cycles. -/
structure Chopper where
  mode   : Nat
  since  : Nat
  cycles : Nat
  sum    : Int
  deriving DecidableEq, Repr

/-- One axis (R344 to R367): the command in progress, whether it moves and in which direction, its speed in 2⁻¹⁶
microstep/s, the fraction of the interval in 2⁻¹⁶ ns and when its next step is due, the microsteps left (none: velocity
mode), the speed it runs towards, the acceleration of the command (0: the value in force), the deceleration in force,
whether the final deceleration has begun, what follows at standstill, the stop under way (0 none, 6 limit, 7 fault), the
step of homing (R360), the microsteps travelled since it began to move, the entry of the sine table, the choppers of
phases A and B, the last λ and for how many full steps it has risen, the time of the last step, whether the current has
gone to hold, the last steps as (time, position before), the ends of the chop cycles of the last 1 ms, and the speed
number, the full steps there, the duties and the start of LEARN. -/
structure Axis where
  command   : Option Motion
  moving    : Bool
  forward   : Bool
  v         : Nat
  acc       : Nat
  due       : Nat
  dist      : Option Nat
  goal      : Nat
  accel     : Nat
  decel     : Nat
  final     : Bool
  after     : AxisNext
  stop      : Nat
  homing    : Nat
  travelled : Nat
  entry     : Nat
  phaseA    : Chopper
  phaseB    : Chopper
  load      : Nat
  rises     : Nat
  lastStep  : Nat
  held      : Bool
  steps     : List (Nat × Int)
  chops     : List Nat
  learning  : Option Nat
  atSpeed   : Nat
  duties    : List (List Nat)
  deriving DecidableEq, Repr

/-- A limit input (R358, R359): the first edge of its trip, and since when it has been inactive. -/
structure LimitInput where
  first : Nat
  idle  : Option Nat
  deriving DecidableEq, Repr

/-- Chapter 13: the axes and the limit inputs. -/
structure Axes where
  units  : List Axis
  limits : List LimitInput
  deriving DecidableEq, Repr

/-- A two-step Sync whose Follow_Up is awaited (R384, R385): the port it came by, its sequenceId, its
sourcePortIdentity, its receive time and correctionField in 2⁻¹⁶ ns, and what the switch adds to the Follow_Up. -/
structure TwoStep where
  port     : Nat
  seq      : Nat
  source   : Nat
  received : Int
  add      : Int
  deriving DecidableEq, Repr

/-- A request of the chip's own PTP clock whose response is awaited: port, sequenceId, transmit time in 2⁻¹⁶ ns (none
when its timestamp was dropped, R382), the receive time and correction of a two-step Pdelay_Resp (R386, R391). -/
structure DelayRequest where
  port : Nat
  seq  : Nat
  sent : Option Int
  back : Option (Int × Int)
  deriving DecidableEq, Repr

/-- What an Announce says of a master (R384): the BMCA quantities as one number to compare, its identity, the port it
came by, the time it was last heard, and the interval of its Announces as a base-2 logarithm of seconds. -/
structure Master where
  rank     : Nat
  identity : Nat
  port     : Nat
  heard    : Nat
  interval : Int
  deriving DecidableEq, Repr

/-- The local clock and its servo (R387–R396). -/
structure Time where
  /-- B in 2⁻¹⁶ ns and τ_B (R387). -/
  base      : Int
  tauBase   : Nat
  /-- The island-11 time and τ of the two newest captures, newest first (R390). -/
  pairs     : List (Nat × Nat)
  /-- The offsets of ACQUIRING with their times, newest first (R392). -/
  offsets   : List (Nat × Int)
  within    : Nat
  lastTheta : Option Int
  jumps     : Nat
  lastSync  : Nat
  /-- The Sync interval of the selected master, base-2 logarithm of seconds. -/
  logSync   : Int
  large     : Bool
  /-- The last t₂ − t₁ less its corrections, and the path delays of R391, newest first, all in 2⁻¹⁶ ns. -/
  forward   : Option Int
  delays    : List Int
  /-- The peer delays of SG0 and SG1 (R386). -/
  peer0     : Int
  peer1     : Int
  twoStep   : List TwoStep
  requests  : List DelayRequest
  masters   : List Master
  /-- clockIdentity of the master whose Sync was used last. -/
  master    : Nat
  sequence  : Nat
  /-- The timestamps of R382 that wait for ring 10, oldest first. -/
  txQueue   : List (Nat × Nat)
  /-- Captures of TRIG0–3 and triggers 0–5: number taken and whether the last is unread (R400). -/
  captures  : List (Nat × Bool)
  /-- R53: the extrapolated fractions of both channels latched with each capture, in 2⁻¹⁶ count. -/
  fractions : List (Nat × Nat)
  /-- Armed triggers whose time had already passed (R399). -/
  late      : List Nat
  /-- The accepted levels of TRIG0–3 (R400). -/
  trigHigh  : Nat
  /-- Until when PPS_OUT is high (R401). -/
  ppsUntil  : Option Nat
  deriving DecidableEq, Repr

/-- An address entry of the switch (R375). -/
structure Address where
  mac  : Nat
  port : Nat
  seen : Nat
  deriving DecidableEq, Repr

/-- A frame that waits for the wire, and the kind, identifier and messageType of the timestamp that its sending takes (R381). -/
structure Waiting where
  data  : Octets
  stamp : Option (Nat × Nat × Nat)
  deriving DecidableEq, Repr

/-- The egress of an SGMII port (R376): until when the wire is taken, and the two queues, oldest first. -/
structure Egress where
  wire : Nat
  high : List Waiting
  low  : List Waiting
  deriving DecidableEq, Repr

/-- The switch and the ring (R373–R379). -/
structure Net where
  table     : List Address
  port1     : Egress
  port2     : Egress
  blocked   : Bool
  ringSeq   : Nat
  lastCheck : Nat
  deriving DecidableEq, Repr

/-- An audit record, Table 15-7. -/
structure AuditRecord where
  time    : Nat
  seq     : Nat
  kind    : Nat
  master  : Nat
  role    : Nat
  valid   : Bool
  reqId   : Nat
  index   : Nat
  sub     : Nat
  op      : Nat
  abort   : Nat
  session : Nat
  value   : Nat
  deriving DecidableEq, Repr

/-- A cached response (R412). -/
structure Reply where
  seq   : Nat
  reqId : Nat
  frame : Octets
  deriving DecidableEq, Repr

/-- A READ_BLOCK snapshot (R445) or a WRITE_BLOCK assembly (R446). -/
structure Transfer where
  key   : Nat
  total : Nat
  data  : Octets
  last  : Nat
  deriving DecidableEq, Repr

/-- The notices of R419 that a session has not been sent yet, and its NOTIFY budget. -/
structure Notices where
  mask        : Nat
  seq         : Nat
  lost        : Nat
  queue       : List (Nat × Nat)
  windowStart : Nat
  sent        : Nat
  deriving DecidableEq, Repr

/-- A request still executing (R412): its `SEQ` and `REQ_ID`, its operation, whether it asks for a timestamp, and its
VLAN tag. -/
structure Running where
  seq   : Nat
  reqId : Nat
  op    : Nat
  ts    : Bool
  vlan  : Octets
  deriving DecidableEq, Repr

/-- One session (R407, R409). -/
structure Session where
  slot      : Nat
  id        : Nat
  role      : Nat
  path      : Path
  src       : Nat
  isOpen    : Bool
  hostNonce : Octets
  chipNonce : Octets
  key       : Octets
  startedAt : Nat
  lastValid : Nat
  /-- The highest `SEQ` executed, none before the first request (R412). -/
  highest   : Option Nat
  cache     : List Reply
  /-- Every `SEQ` executed that lies within the 32 below the highest (R412). -/
  done      : List Nat
  running   : List Running
  /-- The staging set (R417): subindex and value, in the order staged. -/
  staged    : List (Nat × Int)
  notices   : Notices
  snapshot  : Option Transfer
  assembly  : Option Transfer
  deriving DecidableEq, Repr

/-- A source locked out for a role, or one failed AUTH of it (R410), and when. -/
structure Attempt where
  role : Nat
  path : Path
  src  : Nat
  time : Nat
  deriving DecidableEq, Repr

/-- Chapter 15: the sessions, the failed AUTH attempts of the last 60 s, the lockouts with the time each began, and
the requests that wait on ring 13 while the supervisor restarts (R37). -/
structure Aqlet where
  sessions : List Session
  failures : List Attempt
  lockouts : List Attempt
  waiting  : List (Request × ImageCheck)
  /-- `AUDIT_SEQ` of the newest record, and the records not yet in flash, newest first (R425). -/
  auditSeq : Nat
  unwritten : List AuditRecord
  deriving DecidableEq, Repr

/-- Who asked for a tide-line commit, or for a mode: the session, its `SEQ`, `REQ_ID` and operation, its role and the
master identity of its path. -/
structure Asker where
  id     : Nat
  seq    : Nat
  reqId  : Nat
  op     : Nat
  role   : Nat
  master : Nat
  deriving DecidableEq, Repr

/-- Where a tide-line commit comes from. -/
inductive CommitSource where
  /-- A session's COMMIT, or its WRITE of one class-T subindex. -/
  | session (asker : Asker)
  /-- A health commit of the supervisor (R203). -/
  | health
  /-- Another commit of the firmware pairs: a quarantine of R269 or a registration step of R321. -/
  | firmware
  deriving DecidableEq, Repr

/-- The stages of a tide-line commit, 2002h:05. -/
inductive CommitStage where
  | held
  | staging
  | settled
  | retiring
  deriving DecidableEq, Repr

/-- A tide-line commit in progress (R458–R464): its entries by subindex, the values they replace, its lead, its tide
line T, the participants that have not acknowledged, and when it was handed over. -/
structure Commit where
  source  : CommitSource
  stage   : CommitStage
  entries : List (Nat × Int)
  old     : List (Nat × Int)
  lead    : Nat
  line    : Int
  waiting : List Nat
  since   : Nat
  deriving DecidableEq, Repr

/-- Chapter 17: the commit in progress, the supervisor's commits that wait their turn (R462), what a fill and a drain
hold, what start-up found, the swap of firmware images (R466, R467) and the configuration save (R443). -/
structure Modes where
  commit      : Option Commit
  queued      : List (CommitSource × List (Nat × Int))
  /-- R454: the last line of the pages a drain waits for, or of the PROOF run (R451). -/
  lastLine    : Int
  filledLanes : List Nat
  fillFrom    : Nat
  /-- R457: the recovery loader of the boot ROM serves Aqlet sessions. -/
  loader      : Bool
  /-- R457: start-up fell back from this image; R512: a save record was restored. -/
  fellBack    : Option Nat
  restored    : Bool
  /-- R466: the image swapped from, the pairs that still have to run the other image, and whether the swap goes back. -/
  swapFrom    : Nat
  swapPairs   : List PairId
  swapBack    : Bool
  confirmBy   : Nat
  /-- R443: the values a running save writes. -/
  saving      : Option (List (Nat × Int))
  deriving DecidableEq, Repr

/-- A journal record, Table 18-2. -/
structure JournalRecord where
  time   : Nat
  seq    : Nat
  source : Nat
  alt    : Bool
  breach : Nat
  region : Nat
  valid  : Bool
  detail : Nat
  deriving DecidableEq, Repr

/-- Chapter 18: the journal records not yet in flash, newest first (R474), the time of the last raise of each source
or ring whose rate is limited, the notices in the mailbox slots by channel (R483), and the ring indexes (R489). -/
structure Events where
  journalSeq : Nat
  journal    : List JournalRecord
  limits     : List (Nat × Nat)
  notices    : List (Nat × Nat)
  heads      : List Nat
  tails      : List Nat
  deriving DecidableEq, Repr

/-- A save record of Tables 19-4 and 19-5, as gathered at detection (R506): health entries as 1024·die + column with states
and causes, lifetime figures as die, identity (empty where it is not known) and octets. -/
structure SaveRecord where
  count     : Nat
  time      : Nat
  mode      : Nat
  cause     : Nat
  region    : Nat
  flags     : Nat
  line      : Nat
  hwm       : Nat
  origin    : Nat
  counts    : List Nat
  pages     : List Nat
  health    : List (Nat × Nat)
  lifetimes : List (Nat × Octets × Octets)
  journal   : List JournalRecord
  audit     : List AuditRecord
  deriving DecidableEq, Repr

/-- One save slot of flash (R507): erased, or holding a record whose CRC is right or wrong. -/
inductive SaveSlot where
  | erased
  | holds (record : SaveRecord) (crcRight : Bool)
  deriving DecidableEq, Repr

/-- The two kinds of holding of R509. -/
inductive Holding where
  | none
  | afterSag
  | afterFault
  deriving DecidableEq, Repr

/-- Chapter 19: the hold-up save, the holding state, whether the fault was DRAM_CONFIG_BAD (R509), whether RESET_N went
low during the save and its release that came meanwhile (R522), the restored health entries of identities without a
saved map (R512), the JUNCTION_HOT latch, the temperature of the correction generation in force in 0.1 °C, and the item
of a running verify run. -/
structure Power where
  saving      : Option SaveRecord
  /-- R509: a save, or the wait that stands for it, is under way. -/
  pending     : Bool
  holding     : Holding
  configBad   : Bool
  resetLater  : Bool
  bootLater   : Option BootReport
  unplaced    : List (Octets × Nat × Nat)
  hot         : Bool
  genTemp     : Option Int
  verifyItem  : Option Nat
  deriving DecidableEq, Repr

/-- A copy of the stored configuration in flash (R443, R444). -/
inductive ConfigCopy where
  | erased
  | holds (count : Nat) (crcRight : Bool) (values : List (Nat × Int))
  deriving DecidableEq, Repr

/-- A health map saved in flash under a die identity (R208). -/
structure SavedMap where
  identity : Octets
  states   : List (Nat × Nat)
  crcRight : Bool
  deriving DecidableEq, Repr

/-- What flash holds and keeps across RESET_N: the two copies of the stored configuration (R443), the role secrets
(R422), the audit area and the count erased from it (R425), the journal area (R474), newest first, the saved health
maps (R208), kept energies (R235) and lifetime figures (R266) by die identity, the save slots (R507), the duty tables
of R365, the firmware images (R457, R465) and the calibration sets (R515). -/
structure Flash where
  configA   : ConfigCopy
  configB   : ConfigCopy
  secrets   : List Octets
  audit     : List AuditRecord
  journal   : List JournalRecord
  maps      : List SavedMap
  energies  : List (Octets × Int)
  lifetimes : List (Octets × Octets)
  slots     : List SaveSlot
  duty      : List (Nat × List Nat)
  /-- `IMAGE_VERSION` and `IMAGE_STATE` of images A and B. -/
  images    : List (Nat × Nat)
  preferred : Nat
  fallbacks : Nat
  erased    : Nat
  calSets   : List Bool
  /-- R518: the trims in force by item, each correction's Δ in millionths of L, and the quality of each item. -/
  trims     : List (Nat × List Int)
  quality   : List Nat
  /-- `SAVE_COUNT` of the last record written (Table 19-4). -/
  saves     : Nat
  deriving DecidableEq, Repr

/-- A firmware pair that runs. -/
def Pair.fresh : Pair := { state := .running, times := [], doorbell := false }

/-- Chapter 01 in the reset state of R522. -/
def Sys.reset : Sys :=
  { inReset := true, releasedAt := 0, supervisor := Pair.fresh, inspection := Pair.fresh, motion := Pair.fresh,
    islandsLost := [], regionsLost := [], paceLow := [] }

/-- A position channel after RESET_N (R45, R54). -/
def Channel.reset : Channel :=
  { a := false, b := false, edge := none, times := [], run := 0, quad := [], index := none, back := false,
    missing := false, wheelEdge := none, wheelGap := none, teeth := 0, refSeen := false, goodRevs := 2, wheelRef := none }

/-- A fresh cross-check window (R67). -/
def CheckWindow.fresh : CheckWindow :=
  { active := 0, checking := 0, atEdge := (0, 0), quadActive := false, quadCheck := false, badActive := false,
    badCheck := false, good := none }

/-- Chapter 02 after RESET_N. -/
def Position.reset : Position :=
  { ch0 := Channel.reset, ch1 := Channel.reset, gen := Channel.reset, genCount := 0, frac := 0, excursion := false,
    overspeed := false, originDue := false, checking := none, window := CheckWindow.fresh }

/-- One lane after RESET_N (log entry 52). -/
def Lane.reset : Lane :=
  { tested := 0, invalid := 0, rxBits := 0, txBits := 0, txParity := 0, bip := [], badAms := 0,
    eq := { pre := 0, post := 0, ctle := 0, taps := List.replicate 8 0 }, trained := [], preStat := 0, postStat := 0,
    verdict := 0, txPrbs := 0, rxPrbs := 0 }

/-- The lanes after RESET_N. -/
def Lanes.reset : Lanes :=
  { units := List.replicate 8 Lane.reset, passes := [], nextRate := none, countdown := 0, settling := false, marked := 0,
    amCount := 0, order := none, stripe := 0, txPos := 0, txCount := 0, fillAge := 0, elastic := 16, txLinks := [],
    txPackets := [] }

/-- The raster link after RESET_N (R89, R95): 64 units of pool C and none of pool R, because the chip is in BOOT. -/
def Link.reset : Link :=
  { lanes := Lanes.reset, expectSeq := 0, delivered := false, gapNack := none, nextTx := 0, replay := [],
    waiting := [], spentR := 0, spentC := 0, limitR := 0, limitC := 0, hostR := 0, hostC := 0, advR := 0, advC := 64,
    heard := false, lastReset := false, doorbells := false, echoId := 0, echoSent := none, lastAck := 0 }

/-- Chapters 04 and 05 after RESET_N. -/
def PageStore.reset : PageStore :=
  { pages := [], lastEnd := 0, armed := false, queue0 := [], queue1 := [], jobs := [], logRead := 0,
    evicted := [] }

/-- The DRAM controller after RESET_N. -/
def Dram.reset : Dram :=
  { waiting := [], openRows := [], robin := List.replicate 10 0, inOrder := [], lastBurst := none, owed := [], dueAt := [],
    refreshed := [], rfm := none, raa := [], rows := [], throttles := [], corrected := [], ueTimes := [], crcTimes := [],
    scrubFrom := 0, fullAt := none, restoring := none, found := none, timing := [0, 0], drift := [] }

/-- A stream that has not started. -/
def Stream.idle : Stream := { next := (0, 0), bufs := [], lines := [] }

/-- Chapter 06 after RESET_N: every polder fitted, as `DIES` defaults to 64. -/
def Polders.reset : Polders :=
  { units := List.replicate 16 { state := 1, faults := 0, cause := 0 }, spare := { state := 8, faults := 0, cause := 0 },
    serving := none, shadowed := none, connected := false, takenAt := 0, takeCause := 0, returnAt := none, resume := none, joined := (0, 0),
    streams := List.replicate 32 Stream.idle, ramps := [], underrun := [] }

/-- Chapter 07 after RESET_N. -/
def Health.reset : Health :=
  { inForce := [], staged := [], coming := [], old := [], inhibited := [], written := [], probe := none, probed := [], traces := List.replicate 8 [],
    seeped := 0, lost := 0 }

/-- A row that has not fired. -/
def RowLine.idle : RowLine :=
  { line := 0, slot := 0, queue := [], firing := none, bursts := 0, guardEnd := 0, drops := [], ended := none,
    began := none, sendLine := 0, replace := true, tag := 0, warmSent := none, warmRun := none, missed := none, slip := none }

/-- Chapter 08 after RESET_N. -/
def Firing.reset : Firing := { rows := [], cutoff := none, uncovered := [], missed := [], warmAt := 0 }

/-- Lifetime figures from 0. -/
def Life.zero : Life := { seq := 0, fires := [0, 0, 0, 0], kwLines := 0, poweredMin := 0, hotStops := 0, quarantines := 0 }

/-- A meter that has measured nothing. -/
def Meter.fresh : Meter :=
  { idle := false, task := none, sweep := 0, since := 0, ref := none, undo := [], errors := 0, confirm := none,
    streaks := [], map := [] }

/-- A die of which nothing has been read. -/
def Thermal.unread : Thermal :=
  { sensors := [none, none, none, none], band := 0, soft := false, hot := false, stale := false, seen := false, since := 0,
    warmed := none, warmDue := false }

/-- A die that is not fitted. -/
def Die.unfitted : Die :=
  { link := 0, enteredAt := 0, idOk := false, lanesBad := 0, eye := 0, phases := List.replicate 8 0, retrains := 0, retrainAt := [], resyncAt := [], discardAt := [],
    upAt := 0, memory := [], reading := [], lastBurst := none, polled := 0, polls := [], again := [], orders := [],
    life := Life.zero, copy := 0, copiedAt := 0, meter := Meter.fresh,
    thermal := Thermal.unread, idWrites := [] }

/-- A lane that has sent nothing. -/
def LaneUse.idle : LaneUse := { line := 0, polled := false, resent := false, ordered := false, polledAt := none }

/-- Chapter 09 after RESET_N: the dies go to TRAIN in BOOT (Table 09-12). -/
def Heads.reset : Heads :=
  { dies := [], quarantineOld := 0, disparity := [], uses := [], codeErrors := [], discarded := [] }

/-- The settings generation before the first (R291), with the defaults of Table 10-11. -/
def Settings.first : Settings := { number := 0, exposure := 5000, gain := 0 }

/-- A pipeline after RESET_N. -/
def Pipeline.reset : Pipeline :=
  { frames := [], held := [], nextFrame := 0, nextLine := 0, due := none, feeds := List.replicate 8 { got := 0, held := [] },
    newest := Settings.first, base := Settings.first, pending := none, effects := [], uncertain := [],
    sent := (none, none), write := none, waitSync := false, syncCame := false, failures := 0,
    restarts := [], syncTimes := [], period := none }

/-- A rank of which nothing has been measured. -/
def Rank.fresh : Rank := { sum := 0, frames := 0, limited := false, asked := false, until_ := none }

/-- A zone of which nothing has been seen. -/
def Zone.fresh : Zone := { run := 0, even := Rank.fresh, odd := Rank.fresh, cross := 0, seen := 0 }

/-- A pipeline that is blind because its light is off (R322): `ENABLE` defaults to 0. -/
def Inspect.reset : Inspect :=
  { blind := 2, background := [], settings := none, streaks := [], zones := List.replicate 16 Zone.fresh,
    seenTo := 0 }

/-- Chapter 11 after RESET_N. -/
def Inspection.reset : Inspection :=
  { units := [Inspect.reset, Inspect.reset], bands := [], excused := [], sighted := 0, held := [], outs := [], limits := [],
    rejected := [], recheck := none, checked := [], prober := none }

/-- A light that has not been lit. -/
def Lamp.reset : Lamp :=
  { window := none, lines := 0, gapless := 0, lastRow := 0, testing := none, testedAt := 0, current := 16, change := none,
    invalidAt := none, hot := false }

/-- Chapter 12 after RESET_N. -/
def Light.reset : Light := { units := [Lamp.reset, Lamp.reset], pulse := none, lastEnd := 0, suspect := [] }

/-- A phase that carries no current. -/
def Chopper.off : Chopper := { mode := 0, since := 0, cycles := 0, sum := 0 }

/-- An axis that is switched off (Table 13-5, BOOT). -/
def Axis.off : Axis :=
  { command := none, moving := false, forward := true, v := 0, acc := 0, due := 0, dist := none, goal := 0, accel := 0,
    decel := 0, final := false, after := .rest, stop := 0, homing := 0, travelled := 0, entry := 0, phaseA := Chopper.off,
    phaseB := Chopper.off, load := 0, rises := 0, lastStep := 0, held := true, steps := [], chops := [], learning := none,
    atSpeed := 0, duties := [] }

/-- Chapter 13 after RESET_N. -/
def Axes.reset : Axes :=
  { units := List.replicate 4 Axis.off, limits := List.replicate 8 { first := 0, idle := none } }

/-- The local clock after RESET_N (R387). -/
def Time.reset : Time :=
  { base := 0, tauBase := 0, pairs := [], offsets := [], within := 0, lastTheta := none, jumps := 0, lastSync := 0,
    logSync := -4, large := false, forward := none, delays := [], peer0 := 0, peer1 := 0, twoStep := [], requests := [], masters := [], master := 0,
    sequence := 0, txQueue := [], captures := List.replicate 10 (0, false),
    fractions := List.replicate 10 (0, 0), late := [], trigHigh := 0, ppsUntil := none }

/-- The switch after RESET_N. -/
def Net.reset : Net :=
  { table := [], port1 := { wire := 0, high := [], low := [] }, port2 := { wire := 0, high := [], low := [] }, blocked := false,
    ringSeq := 0, lastCheck := 0 }

/-- Chapter 15 after RESET_N: sessions end with it (R409). -/
def Aqlet.reset : Aqlet :=
  { sessions := [], failures := [], lockouts := [], waiting := [], auditSeq := 0, unwritten := [] }

/-- Chapter 17 after RESET_N. -/
def Modes.reset : Modes :=
  { commit := none, queued := [], lastLine := 0, filledLanes := [], fillFrom := 0, loader := false, fellBack := none,
    restored := false, swapFrom := 0, swapPairs := [], swapBack := false, confirmBy := 0, saving := none }

/-- Chapter 18 after RESET_N. -/
def Events.reset : Events :=
  { journalSeq := 0, journal := [], limits := [], notices := [], heads := List.replicate 16 0,
    tails := List.replicate 16 0 }

/-- Chapter 19 after RESET_N. -/
def Power.reset : Power :=
  { saving := none, pending := false, holding := .none, configBad := false, resetLater := false, bootLater := none,
    unplaced := [], hot := false,
    genTemp := none, verifyItem := none }

/-- Flash as a chip leaves the factory (log entry 12): no stored configuration, no secret, no record, image A valid. -/
def Flash.factory : Flash :=
  { configA := .erased, configB := .erased, secrets := List.replicate 3 (List.replicate 32 0), audit := [],
    journal := [], maps := [], energies := [], lifetimes := [], slots := [.erased, .erased],
    duty := [], images := [(Config.imageVersion, 1), (0, 0)], preferred := 0, fallbacks := 0, erased := 0,
    calSets := List.replicate 5 true, trims := [], quality := (List.range 6).map Config.itemQuality, saves := 0 }

/-- Why a command stops the chip. No command of the spec does: whatever a command cannot do is answered, refused to its
sender or handled as the spec says, and the chip goes on. -/
inductive Fault where
  /-- Raised by no command: kept so that the type is inhabited; safe. -/
  | none
  deriving DecidableEq, Repr

/-- Why the model gives a command no meaning. -/
inductive Refusal where
  /-- Raised by a dispatch arm that has no meaning yet, with the row's mnemonic; safe. -/
  | notModelled (mnemonic : String)
  deriving DecidableEq, Repr

/-- The ORN-5120: island-11 time, the counter of free values (log entry 4), the dictionary's values and octet strings,
the shared memory, what has left the chip, the commands that wait, and the state of each chapter's blocks. -/
structure State where
  now     : Nat
  free    : Nat
  regs    : List (Nat × Int)
  blobs   : List (Nat × Octets)
  mem     : List Host.Cell
  out     : List Out
  pending : List Instr
  sys     : Sys
  pos     : Position
  link    : Link
  pageStore : PageStore
  dram    : Dram
  polders : Polders
  health  : Health
  firing  : Firing
  heads   : Heads
  time    : Time
  net     : Net
  aqlet   : Aqlet
  cameras : List Pipeline
  inspect : Inspection
  light   : Light
  axes    : Axes
  modes   : Modes
  events  : Events
  power   : Power
  flash   : Flash
  deriving DecidableEq, Repr

/-- The chip in the reset state of R522: RESET_N has been low since power came, and flash is as the chip left the factory.
Nothing happens until RESET_N is released (R457). -/
def State.reset : State :=
  { now := 0, free := 0, regs := [], blobs := [], mem := [], out := [], pending := [], sys := Sys.reset,
    pos := Position.reset, link := Link.reset, pageStore := PageStore.reset, dram := Dram.reset,
    polders := Polders.reset, health := Health.reset, firing := Firing.reset, heads := Heads.reset, time := Time.reset,
    net := Net.reset, aqlet := Aqlet.reset, cameras := [Pipeline.reset, Pipeline.reset], inspect := Inspection.reset,
    light := Light.reset, axes := Axes.reset, modes := Modes.reset, events := Events.reset, power := Power.reset,
    flash := Flash.factory }

end Sys2Proof.Machine
end

