-- ==== Sys2Proof/Machine/Ops.lean ====
section
/-! DEFINITION. Machine/Ops.lean: the named operations over the dictionary's values, the shared memory, the outputs and
time that every meaning uses. -/
namespace Sys2Proof.Machine

/-! ### Reading and writing cells -/

/-- The value in force of a dictionary subindex. -/
def State.reg (s : State) (k : Nat) : Int := Cells.get resetValue s.regs k

/-- A value that is never negative, as a natural number. -/
def State.regN (s : State) (k : Nat) : Nat := (s.reg k).toNat

/-- Puts a value into a dictionary subindex. -/
def State.setReg (s : State) (k : Nat) (v : Int) : State := { s with regs := Cells.put resetValue s.regs k v }

/-- Puts a natural number into a dictionary subindex. -/
def State.setRegN (s : State) (k v : Nat) : State := s.setReg k (v : Int)

/-- Puts 1 or 0 into a BOOLEAN subindex. -/
def State.setFlag (s : State) (k : Nat) (b : Bool) : State := s.setReg k (if b then 1 else 0)

/-- Whether a BOOLEAN subindex is true. -/
def State.flag (s : State) (k : Nat) : Bool := s.reg k == 1

/-- Adds to a counter, modulo 2 to the power of its width (R435). -/
def State.addReg (s : State) (k n : Nat) : State := s.setReg k (((s.regN k + n) % 2 ^ widthOf k : Nat) : Int)

/-- Adds 1 to a counter (R435). -/
def State.incReg (s : State) (k : Nat) : State := s.addReg k 1

/-- Sets or clears bit b of a subindex. -/
def State.setRegBit (s : State) (k b : Nat) (on : Bool) : State := s.setReg k ((setBit (s.regN k) b on : Nat) : Int)

/-- The octets of an OCTET_STRING, VISIBLE_STRING or DOMAIN subindex that the chip holds. -/
def State.blob (s : State) (k : Nat) : Octets := Cells.get (fun _ => []) s.blobs k

/-- Puts octets into such a subindex. -/
def State.setBlob (s : State) (k : Nat) (o : Octets) : State := { s with blobs := Cells.put (fun _ => []) s.blobs k o }

/-- One octet of the shared memory (R112, R481); an octet that nothing has written reads 0 (log entry 9). -/
def State.byte (s : State) (a : Nat) : Byte := Cells.get (fun _ => 0) s.mem a

/-- Writes octets into the shared memory, the first at the lowest offset. -/
def State.store (s : State) (a : Nat) (o : Octets) : State := { s with mem := Memory.store s.mem a o }

/-- Writes 0 to n octets of the shared memory. -/
def State.wipe (s : State) (a n : Nat) : State := { s with mem := Memory.wipe s.mem a n }

/-- n octets of the shared memory. -/
def State.load (s : State) (a n : Nat) : Octets := (List.range n).map fun i => s.byte (a + i)

/-- What leaves the chip at a ball, newest first. -/
def State.emit (s : State) (o : Out) : State := { s with out := o :: s.out }

/-- The mode in force, Table 17-1. -/
def State.mode (s : State) : Nat := s.regN o2001.MODE

/-- PRINT or PROOF. -/
def State.printing (s : State) : Bool := s.mode == 4 || s.mode == 5

/-- CAPPED, READY or SERVICE, where class Q is accepted (R440). -/
def State.quiet (s : State) : Bool := s.mode == 1 || s.mode == 2 || s.mode == 3

/-- Whether an island has stopped (R30). -/
def State.islandLost (s : State) (n : Nat) : Bool := s.sys.islandsLost.contains n

/-- Whether a region has been lost (R22). -/
def State.regionLost (s : State) (n : Nat) : Bool := s.sys.regionsLost.contains n

/-- A fresh value that the spec leaves open, of n bits (log entry 4). -/
def State.draw (s : State) (n : Nat) : Nat × State := (Config.fresh s.free % 2 ^ n, { s with free := s.free + 1 })

/-- The value of a subindex that a web line uses: a settled commit's new value from its tide line on, and in the lines
before it the old value until it is retired (R181, R458). -/
def State.regAt (s : State) (k : Nat) (line : Int) : Int :=
  match s.modes.commit with
  | some c =>
    if c.stage = .settled ∧ c.line ≤ line then
      match c.entries.find? fun e => e.1 == k with
      | some e => e.2
      | none => s.reg k
    else if c.stage = .retiring ∧ line < c.line then
      match c.old.find? fun e => e.1 == k with
      | some e => e.2
      | none => s.reg k
    else s.reg k
  | none => s.reg k

/-! ### Time -/

/-- Time passes to island-11 time t, which never runs back (log entry 10). -/
def State.tick (t : Nat) (s : State) : State := { s with now := max s.now t }

/-- The counter τ of R387 at island-11 time t, in 2⁻¹⁶ ns, by the pairs of R390; nominal until two captures exist. -/
def State.tau (s : State) (t : Nat) : Int :=
  match s.time.pairs with
  | [] => ((t : Int) - s.sys.releasedAt) * 65536
  | [(t1, u1)] => (u1 : Int) + ((t : Int) - t1) * 65536
  | (t1, u1) :: (t0, u0) :: _ =>
    if t1 ≤ t0 then (u1 : Int) + ((t : Int) - t1) * 65536
    else (u1 : Int) + divOpen 390 (((t : Int) - t1) * ((u1 : Int) - u0)) (t1 - t0)

/-- Local time of R387 at counter value τ, in 2⁻¹⁶ ns. -/
def State.localOfTau (s : State) (u : Int) : Int :=
  let d := u - s.time.tauBase
  s.time.base + d + divOpen 387 (d * s.reg o7000.RATE) (2 ^ 40)

/-- Local time at island-11 time t, in 2⁻¹⁶ ns (R390). -/
def State.localFine (s : State) (t : Nat) : Int := s.localOfTau (s.tau t)

/-- Local time at island-11 time t, in whole ns. -/
def State.localTime (s : State) (t : Nat) : Nat := (s.localFine t / 65536).toNat % 2 ^ 64

/-- `TIME_VALID` of Table 14-2: 0 while the clock is INVALID. -/
def State.timeValid (s : State) : Bool := s.reg o7000.STATE ≠ 5

/-! ### Running a command -/

/-- A command's effect s' on a state s at t leaves the waiting commands to `step` and the clock at t (log entry 10). -/
def State.sealed (s' s : State) (t : Nat) : State := { s' with pending := s.pending, now := max s.now t }

/-- The reset state of R522 answers nothing: a command has no effect there. Otherwise time passes and f runs. -/
def State.run (s : State) (t : Nat) (f : State → State) : Host.Outcome State Fault Refusal :=
  if s.sys.inReset then .next s else .next ((f (s.tick t)).sealed s t)

/-- A command that only a chip outside SAFE-HOLD takes: Table 19-3 has shed or stopped its block otherwise. -/
def State.runOn (s : State) (t : Nat) (f : State → State) : Host.Outcome State Fault Refusal :=
  s.run t fun s => if s.mode = 7 then s else f s

end Sys2Proof.Machine
end

