-- ==== Sys2Proof/Machine/Flags.lean ====
section
/-! DEFINITION. Machine/Flags.lean: chapter 18, what a raised event does to the flags, the counters, the journal, the
interrupt balls and the subscriptions; the rings of Table 18-6; the audit record of R424. -/
namespace Sys2Proof.Machine

/-- Table 18-6: producer, consumer, base-2 logarithms of slot size and slot count. -/
def ringLayout : List (Nat × Nat × Nat × Nat) :=
  [(0, 1, 6, 12), (0, 1, 6, 12), (0, 1, 6, 12), (1, 6, 7, 8), (6, 1, 6, 8), (0, 4, 6, 6), (0, 4, 6, 6), (0, 1, 7, 8),
   (4, 1, 6, 10), (0, 1, 5, 14), (0, 3, 5, 10), (0, 3, 5, 10), (1, 5, 6, 8), (0, 3, 11, 6), (3, 0, 11, 6),
   (3, 1, 6, 12)]

/-- The identity that produces ring r. -/
def ringProducer (r : Nat) : Nat := (ringLayout.getD r (0, 0, 0, 0)).1
/-- The identity that consumes ring r. -/
def ringConsumer (r : Nat) : Nat := (ringLayout.getD r (0, 0, 0, 0)).2.1
/-- Slot size of ring r in octets. -/
def ringSlot (r : Nat) : Nat := 2 ^ (ringLayout.getD r (0, 0, 0, 0)).2.2.1
/-- Slot count of ring r. -/
def ringSlots (r : Nat) : Nat := 2 ^ (ringLayout.getD r (0, 0, 0, 0)).2.2.2

/-- `RING_HEAD` of ring r. -/
def State.ringHead (s : State) (r : Nat) : Nat := s.events.heads.getD r 0
/-- `RING_TAIL` of ring r. -/
def State.ringTail (s : State) (r : Nat) : Nat := s.events.tails.getD r 0
/-- The number of entries of ring r, modulo 2³² (R489). -/
def State.ringEntries (s : State) (r : Nat) : Nat := (s.ringHead r + (2 ^ 32 - s.ringTail r)) % 2 ^ 32

/-- The offset in the host window of the slot that index i names (R489). -/
def State.slotOffset (s : State) (r i : Nat) : Nat :=
  bits (s.regN (o7401.RING_DESC + r)) 63 32 + (i % ringSlots r) * ringSlot r

/-- The 8-bit epoch of a master identity (R486); identity 0 stands in [63:56]. -/
def State.epoch (s : State) (m : Nat) : Nat := bits (s.regN o7400.EPOCHS) (63 - 8 * m) (56 - 8 * m)

/-- Sets the key of a rate limit to the present time. -/
def State.noteLimit (s : State) (k : Nat) : State :=
  { s with events := { s.events with limits := (k, s.now) :: s.events.limits.filter fun p => decide (p.1 ≠ k) } }

/-- Whether less than ns has passed since the rate limit of a key was last set. -/
def State.limited (s : State) (k ns : Nat) : Bool :=
  s.events.limits.any fun p => decide (p.1 = k ∧ s.now < p.2 + ns)

/-- Words of a journal record (Table 18-2). -/
def JournalRecord.words (r : JournalRecord) : List Nat :=
  [r.time, place r.seq 63 32 + place r.source 31 25 + (if r.alt then 2 ^ 24 else 0) + place r.breach 23 22
    + place r.region 21 17 + (if r.valid then 2 ^ 16 else 0) + place r.detail 15 0]

/-- The header and the record of a ring slot as Table 18-7 lays them out; the rest of the slot is zero. -/
def State.slotOctets (s : State) (r index : Nat) (words : List Nat) : Octets :=
  let p := ringProducer r
  let header := place index 63 32 + place r 31 24 + place words.length 23 16 + place p 15 12 + place (s.epoch p) 11 4
  octetsOfWords (header :: words)

/-- R489, R490: the chip puts a record on a ring; `ring` raises a further event. A ring that is not laid out yet takes
nothing. -/
def State.ringPutWith (ring : Nat → Nat → State → State) (r : Nat) (words : List Nat) (s : State) : State :=
  if s.regN (o7401.RING_DESC + r) = 0 then s
  else if ringSlots r ≤ s.ringEntries r then
    let s := s.incReg (o7401.RING_SPILLWAY + r)
    let p := ringProducer r
    if (p = 0 ∨ p = 4 ∨ p = 6) ∧ r ≠ 13 ∧ s.limited (119 * 65536 + r) 1000000000 = false then
      ring 119 r (s.noteLimit (119 * 65536 + r))
    else s
  else
    let head := s.ringHead r
    let empty := decide (s.ringEntries r = 0)
    let s := (s.wipe (s.slotOffset r head) (ringSlot r)).store (s.slotOffset r head) (s.slotOctets r head words)
    let s := { s with events := { s.events with heads := s.events.heads.set r ((head + 1) % 2 ^ 32) } }
    if ringConsumer r = 1 ∧ empty then ring 118 r s else s

/-- R419: a raised event joins the notices of every session that selects it. -/
def State.notice (s : State) (src : Nat) (words : List Nat) : State :=
  let add (x : Session) : Session :=
    if x.isOpen && bit x.notices.mask src then
      { x with notices := { x.notices with queue := x.notices.queue ++ [(words.getD 0 0, words.getD 1 0)] } }
    else x
  { s with aqlet := { s.aqlet with sessions := s.aqlet.sessions.map add } }

/-- R471, R474 to R476: one raise; `n` bounds the events that a raise itself raises, such as RING_DOORBELL. -/
def State.raiseFuel : Nat → Nat → Nat → Nat → Nat → Bool → State → State
  | n, src, detail, breach, region, alt, s =>
    let s := s.incReg (o2802.COUNT + src)
    let s := s.setRegBit (o2801.FLAGS + src / 64) (src % 64) true
    let s := s.setReg o2800.HIGHEST_BREACH (max (s.reg o2800.HIGHEST_BREACH) breach)
    let s := if src = 2 then s.setRegN o2800.LAST_ESCALATION detail else s
    let routed := bit (s.regN (o2800.JOURNAL_ROUTE + src / 64)) (src % 64)
    let seq := if routed then (s.events.journalSeq + 1) % 2 ^ 32 else s.events.journalSeq
    let rec_ : JournalRecord :=
      { time := s.localTime s.now, seq := seq, source := src, alt := alt, breach := breach, region := region,
        valid := s.timeValid, detail := detail }
    let s := s.notice src rec_.words
    if routed then
      let s := { s with events := { s.events with journalSeq := seq, journal := rec_ :: s.events.journal } }
      let beyond := decide (2097152 < s.events.journal.length)
      let s := if beyond then
          ({ s with events := { s.events with journal := s.events.journal.dropLast } }).incReg o2803.JOURNAL_SPILLWAY
        else s
      match n with
      | 0 => s
      | n + 1 =>
        let s := State.ringPutWith (fun e d s => State.raiseFuel n e d 0 23 false s) 9 rec_.words s
        if beyond then State.raiseFuel n 123 0 0 23 false s else s
    else s

/-- Raises event source `src` with its `DETAIL`, breach level and region; `alt` is its second name (R470, R471). -/
def State.raise (s : State) (src detail breach region : Nat) (alt : Bool := false) : State :=
  State.raiseFuel 4 src detail breach region alt s

/-- A raise that its chapter limits to one in ns for each unit (R470). -/
def State.raiseLimited (s : State) (src unit detail breach region ns : Nat) (alt : Bool := false) : State :=
  if s.limited (src * 65536 + unit) ns then s
  else (s.noteLimit (src * 65536 + unit)).raise src detail breach region alt

/-- The chip, the codec engine or the inspection pair puts a record on a ring (R489, R490). -/
def State.ringPut (s : State) (r : Nat) (words : List Nat) : State :=
  State.ringPutWith (fun e d s => s.raise e d 0 23) r words s

/-- The consumer inside the chip takes the oldest slot of a ring (R489). -/
def State.ringTake (s : State) (r : Nat) : State :=
  if s.ringEntries r = 0 then s
  else { s with events := { s.events with tails := s.events.tails.set r ((s.ringTail r + 1) % 2 ^ 32) } }

/-- R473: whether INT_Nk is driven low. -/
def State.intLow (s : State) (k : Nat) : Bool :=
  let r := if k = 0 then o2800.INT0_ROUTE else o2800.INT1_ROUTE
  (List.range 128).any fun n =>
    bit (s.regN (o2801.FLAGS + n / 64)) (n % 64) && bit (s.regN (r + n / 64)) (n % 64)

/-! ### The audit record -/

/-- Words of an audit record (Table 15-7). -/
def AuditRecord.words (r : AuditRecord) : List Nat :=
  [r.time,
   place r.seq 63 32 + place r.kind 31 24 + place r.master 23 20 + place r.role 19 18
     + (if r.valid then 2 ^ 17 else 0) + place r.reqId 15 0,
   place r.index 63 48 + place r.sub 47 40 + place r.op 39 32 + place r.abort 31 0,
   place r.session 63 32 + place r.value 31 0]

/-- What an audit record says beyond its time and number. -/
structure AuditEntry where
  kind    : Nat
  master  : Nat := 0
  role    : Nat := 0
  reqId   : Nat := 0
  index   : Nat := 0
  sub     : Nat := 0
  op      : Nat := 0
  abort   : Nat := 0
  session : Nat := 0
  value   : Nat := 0
  deriving DecidableEq, Repr

/-- R424, R425: one audit record goes onto ring 15 and waits for flash; beyond 4,096 waiting it is lost. -/
def State.audit (s : State) (e : AuditEntry) : State :=
  let seq := (s.aqlet.auditSeq + 1) % 2 ^ 32
  let r : AuditRecord :=
    { time := s.localTime s.now, seq := seq, kind := e.kind, master := e.master, role := e.role, valid := s.timeValid,
      reqId := e.reqId, index := e.index, sub := e.sub, op := e.op, abort := e.abort, session := e.session,
      value := e.value }
  let s := if s.aqlet.unwritten.length < 4096 then
      { s with aqlet := { s.aqlet with auditSeq := seq, unwritten := r :: s.aqlet.unwritten } }
    else ({ s with aqlet := { s.aqlet with auditSeq := seq } }).incReg o2103.AUDIT_LOST
  s.ringPut 15 r.words

/-- A refusal that a chapter states is audited and that no Aqlet request carries (R424): `INDEX` 0000h. -/
def State.auditRefusal (s : State) (master abort : Nat) : State := s.audit { kind := 2, master := master, abort := abort }

/-! ### Doorbells and epochs -/

/-- The firmware pair of a master identity. -/
def pairOf (identity : Nat) : Option PairId :=
  match identity with
  | 3 => some .supervisor
  | 4 => some .inspection
  | 5 => some .motion
  | _ => none

/-- The master identity of a firmware pair (Table 01-10). -/
def identityOf : PairId → Nat
  | .supervisor => 3
  | .inspection => 4
  | .motion => 5

/-- The state of a firmware pair. -/
def State.pair (s : State) : PairId → Pair
  | .supervisor => s.sys.supervisor
  | .inspection => s.sys.inspection
  | .motion => s.sys.motion

/-- Replaces the state of a firmware pair. -/
def State.setPair (s : State) (p : PairId) (v : Pair) : State :=
  match p with
  | .supervisor => { s with sys := { s.sys with supervisor := v } }
  | .inspection => { s with sys := { s.sys with inspection := v } }
  | .motion => { s with sys := { s.sys with motion := v } }

/-- R483: raises the doorbell of the receiver of a channel, or with `orphan` tells it of an orphaned notice (R487). -/
def State.ringDoorbell (s : State) (receiver ch : Nat) (orphan : Bool := false) : State :=
  if receiver = 1 then s.raise (if orphan then 121 else 120) ch 0 23
  else
    let s := match pairOf receiver with
      | some p => s.setPair p { s.pair p with doorbell := true }
      | none => s
    s.emit (.doorbell receiver)

/-- `MB_STATUS` of a channel as it is kept: [63:60] sender, [59:52] epoch, [51] full, [31:0] posts (Table 18-5). -/
def State.mbStatus (s : State) (ch : Nat) : Nat := s.regN (o7400.MB_STATUS + ch)

/-- Whether a channel holds a notice. -/
def State.mbFull (s : State) (ch : Nat) : Bool := bit (s.mbStatus ch) 51

/-- The bound sender of a channel (R482). -/
def State.mbSender (s : State) (ch : Nat) : Nat := bits (s.regN (o7400.BINDING + ch)) 7 4
/-- The bound receiver of a channel. -/
def State.mbReceiver (s : State) (ch : Nat) : Nat := bits (s.regN (o7400.BINDING + ch)) 3 0

/-- R487: a full channel whose sender's epoch has changed becomes orphaned, and its receiver is told. -/
def State.orphan (m : Nat) (s : State) (ch : Nat) : State :=
  let w := s.mbStatus ch
  if bit w 51 && bits w 63 60 == m then
    let was := bit w 50
    let s := s.setRegBit (o7400.MB_STATUS + ch) 50 (bits w 59 52 != s.epoch m)
    if was then s else s.ringDoorbell (s.mbReceiver ch) ch true
  else s

/-- R494: a lock whose owner's epoch has changed is released at once. -/
def State.forceLock (m : Nat) (s : State) (l : Nat) : State :=
  let w := s.regN (o7402.LOCK_STATE + l)
  if bit w 15 && bits w 14 11 == m then
    ((s.setRegN (o7402.LOCK_STATE + l) 0).incReg o7402.FORCED).raise 122 (256 * m + l) 0 23
  else s

/-- R486, R487, R494: the epoch of a master rises by 1, its full slots are orphaned and its locks are released. -/
def State.raiseEpoch (s : State) (m : Nat) : State :=
  let w := s.regN o7400.EPOCHS
  let e := s.epoch m
  let s := s.setRegN o7400.EPOCHS (w - e * 2 ^ (56 - 8 * m) + ((e + 1) % 256) * 2 ^ (56 - 8 * m))
  let s := (List.range 32).foldl (State.orphan m) s
  (List.range 32).foldl (State.forceLock m) s

/-- R485: the doorbell of every full channel of a receiver that has returned is raised again. -/
def State.ringAgain (s : State) (receiver : Nat) : State :=
  (List.range 32).foldl (fun s ch => if s.mbFull ch && s.mbReceiver ch == receiver then s.ringDoorbell receiver ch else s) s

end Sys2Proof.Machine
end

