-- ==== Sys2Proof/Machine/Position.lean ====
section
/-! DEFINITION. Machine/Position.lean: chapter 02, the position channels, the firing line and the line
rate. -/
namespace Sys2Proof.Machine

/-- A position channel, or the axis 0 step generator (5). -/
def State.channel (s : State) (ch : Nat) : Channel :=
  if ch = 0 then s.pos.ch0 else if ch = 1 then s.pos.ch1 else s.pos.gen

/-- Replaces one channel. -/
def State.setChannel (s : State) (ch : Nat) (c : Channel) : State :=
  if ch = 0 then { s with pos := { s.pos with ch0 := c } }
  else if ch = 1 then { s with pos := { s.pos with ch1 := c } }
  else { s with pos := { s.pos with gen := c } }

/-- The 48-bit count of a channel (R44). -/
def State.countOf (s : State) (ch : Nat) : Nat :=
  if ch = 5 then s.pos.genCount else s.regN (o6400.COUNT + 256 * ch)

/-- Loads the 48-bit count of a channel. -/
def State.setCount (s : State) (ch c : Nat) : State :=
  if ch = 5 then { s with pos := { s.pos with genCount := c % 2 ^ 48 } }
  else s.setReg (o6400.COUNT + 256 * ch) ((c % 2 ^ 48 : Nat) : Int)

/-- The unit that paces now: 0 or 1 a channel, 5 the generator, none (3101h:02). -/
def State.pacer (s : State) : Option Nat :=
  match s.regN o3101.ACTIVE with
  | 0 => none
  | 1 => some 0
  | 2 => some 1
  | _ => some 5

/-- The bits of Table 02-9 of one channel. -/
def State.statusBit (s : State) (ch b : Nat) : Bool := ch < 2 && bit (s.regN (o6400.STATUS + 256 * ch)) b

/-- Sets one bit of Table 02-9. -/
def State.setStatus (s : State) (ch b : Nat) (on : Bool) : State :=
  if ch < 2 then s.setReg (o6400.STATUS + 256 * ch) (setBit (s.regN (o6400.STATUS + 256 * ch)) b on : Nat) else s

/-- `SCALE_LINES` and `SCALE_COUNTS` of a source (R59). -/
def State.scaleOf (s : State) (ch : Nat) : Nat × Nat :=
  if ch = 5 then (s.regN o3101.AXIS0_SCALE_LINES, s.regN o3101.AXIS0_SCALE_COUNTS)
  else (s.regN (o6400.SCALE_LINES + 256 * ch), s.regN (o6400.SCALE_COUNTS + 256 * ch))

/-- R54: the speed of a channel as counts over nanoseconds, without its sign; (0, 1) while it reads 0. -/
def Channel.speed (c : Channel) : Nat × Nat :=
  if c.run < 2 then (0, 1)
  else
    let n := min 16 (c.run - 1)
    (n, c.times.headD 0 - c.times.getD n 0)

/-- Whether the latest edge of a source was backward. -/
def State.isBackward (s : State) (ch : Nat) : Bool :=
  if ch = 5 then s.pos.gen.back else s.statusBit ch 2

/-- R57: the estimate's fraction of a count at time t, in 2⁻¹⁶ count, truncated (log entry 39), while the source sits at its high-water count and
moves forward. -/
def State.estimate (s : State) (t : Nat) : Nat :=
  match s.pacer with
  | none => 0
  | some ch =>
    let c := s.channel ch
    let v := c.speed
    if s.countOf ch = s.regN o6402.HWM_COUNT ∧ 0 < v.1 ∧ s.isBackward ch = false then
      min 65535 (65536 * v.1 * (t - c.times.headD 0) / v.2)
    else 0

/-- R53: what a latch of a source holds at time t: only the pacing source extrapolates (R57). -/
def State.latchAt (s : State) (ch t : Nat) : Latch :=
  { count := s.countOf ch, frac := if s.pacer = some ch then s.estimate t else 0, time := t }

/-- R57: the high-water position takes the estimate of time t when that is further. -/
def State.extrapolate (s : State) (t : Nat) : State :=
  { s with pos := { s.pos with frac := max s.pos.frac (s.estimate t) } }

/-- R60: the firing position at the present high-water position, in 2⁻¹⁶ line of the current pitch; 0 while firing waits
for the index of R61 (log entry 16). -/
def State.firingPos (s : State) : Int :=
  if s.pos.originDue then 0 else
  match s.pacer with
  | none => 0
  | some ch =>
    let sc := s.scaleOf ch
    let frac := max s.pos.frac (s.estimate s.now)
    let counts := signed 48 (s.regN o6402.HWM_COUNT + (2 ^ 48 - s.regN o6402.LINE_ORIGIN % 2 ^ 48)) * 65536 + frac
    let half := if s.regN o3100.LINE_PITCH = 600 then 2 else 1
    counts * sc.1 / (sc.2 * half : Nat)

/-- The firing line number, 6402h:03 (R60). -/
def State.firingLine (s : State) : Int := s.firingPos / 65536

/-- R56: the line rate of the pacing source at time `now`, as lines of the current pitch over nanoseconds; zero at
standstill and while the web moves backward, and bounded by R55 between edges. -/
def State.lineRate (s : State) : Nat × Nat :=
  match s.pacer with
  | none => (0, 1)
  | some ch =>
    let c := s.channel ch
    let v := c.speed
    let since := s.now - c.times.headD 0
    if s.isBackward ch then (0, 1)
    else
      let sc := s.scaleOf ch
      let half := if s.regN o3100.LINE_PITCH = 600 then 2 else 1
      if v.1 * since ≤ v.2 then (v.1 * sc.1, v.2 * sc.2 * half) else (sc.1, since * sc.2 * half)

/-- R225: firing time of an island-11 time in ns, rounded to the grid (log entry 5). -/
def fireTime (t : Nat) : Nat := (divOpen 225 (64 * (t : Int)) 5).toNat

/-- R57, R58, R225: the firing time at which the high-water position reaches a firing position in 2⁻¹⁶ line; none beyond
`limit`, the limit of extrapolation in 2⁻¹⁶ count above `HWM_COUNT`, if there is one. -/
def State.reachTimeBy (s : State) (limit : Option Int) (p : Int) : Option Nat :=
  if s.pos.originDue then none else
  match s.pacer with
  | none => none
  | some ch =>
    let sc := s.scaleOf ch
    let half : Nat := if s.regN o3100.LINE_PITCH = 600 then 2 else 1
    let base := signed 48 (s.regN o6402.HWM_COUNT + (2 ^ 48 - s.regN o6402.LINE_ORIGIN % 2 ^ 48)) * 65536
    let need := -((-(p * (sc.2 * half : Nat))) / (sc.1 : Int)) - base
    let c := s.channel ch
    let v := c.speed
    let beyond : Bool := match limit with
      | some l => decide (l < need)
      | none => false
    if sc.1 = 0 then (if p ≤ 0 then some (fireTime s.now) else none)
    else if need ≤ (max s.pos.frac (s.estimate s.now) : Nat) then some (fireTime s.now)
    else if beyond = true ∨ s.countOf ch ≠ s.regN o6402.HWM_COUNT ∨ v.1 = 0 ∨ s.isBackward ch then none
    else some (divOpen 225 ((c.times.headD 0 * 65536 * v.1 + need.toNat * v.2) * 64 : Nat) (5 * 65536 * v.1)).toNat

/-- R58: within the limit of R57. -/
def State.reachTime (s : State) (p : Int) : Option Nat := s.reachTimeBy (some 65535) p

/-- Whether the line rate exceeds a figure in lines/s. -/
def State.rateAbove (s : State) (limit : Nat) : Bool :=
  let r := s.lineRate
  decide (limit * r.2 < r.1 * 1000000000)

end Sys2Proof.Machine
end

