-- ==== Sys2Proof/Machine/Cameras.lean ====
section
/-! DEFINITION. Machine/Cameras.lean: chapter 10, the pipelines of camera intake: tiles, triggers, frames, buffers, merged
lines, settings generations. What restarts and binds a port stands in Machine/CameraPorts.lean. -/
namespace Sys2Proof.Machine

/-- An empty frame, read where there is none. -/
def Frame.none : Frame :=
  { number := 0, first := 0, start := 0, buffer := .none, flags := 0, csi := 0, slots := [], closed := true, begun := true,
    ended := true, lost := false, lines := [], embedded := [], bad := 0, told := [] }

/-- Pipeline p. -/
def State.pipeline (s : State) (p : Nat) : Pipeline := s.cameras.getD p Pipeline.reset

/-- Replaces pipeline p. -/
def State.setPipeline (s : State) (p : Nat) (x : Pipeline) : State := { s with cameras := s.cameras.set p x }

/-- Changes pipeline p. -/
def State.mapPipeline (s : State) (p : Nat) (f : Pipeline → Pipeline) : State := s.setPipeline p (f (s.pipeline p))

/-- `STATE` of pipeline p (Table 10-14). -/
def State.cameraState (s : State) (p : Nat) : Nat := s.regN (o5004.STATE + p)

/-- The port bound to pipeline p (R281). -/
def State.boundPort (s : State) (p : Nat) : Option Nat :=
  let v := s.regN (o5000.BIND + p)
  if v < 2 ∧ s.cameraState p ≠ 0 then some v else none

/-- The pipeline that a port feeds. -/
def State.portPipeline (s : State) (port : Nat) : Option Nat := [0, 1].find? fun p => s.boundPort p == some port

/-! ### Tiles -/

/-- Tile word i of pipeline p (Table 10-2). -/
def State.tileWord (s : State) (p i : Nat) : Nat := s.regN (o5001.TILE + 8 * p + i)

/-- ENABLE of a tile word. -/
def tileOn (w : Nat) : Bool := bit w 63
/-- FLIP of a tile word. -/
def tileFlip (w : Nat) : Bool := bit w 62
/-- VC of a tile word. -/
def tileVc (w : Nat) : Nat := bits w 61 58
/-- DATA_TYPE of a tile word. -/
def tileType (w : Nat) : Nat := bits w 57 52
/-- SRC_FIRST of a tile word. -/
def tileSource (w : Nat) : Nat := bits w 51 38
/-- WIDTH of a tile word. -/
def tileWidth (w : Nat) : Nat := bits w 37 23
/-- DEST of a tile word. -/
def tileDest (w : Nat) : Nat := bits w 22 9

/-- The enabled tiles of pipeline p, ascending. -/
def State.tiles (s : State) (p : Nat) : List Nat := (List.range 8).filter fun i => tileOn (s.tileWord p i)

/-- The width of the pipeline line (R283). -/
def State.lineWidth (s : State) (p : Nat) : Nat :=
  (s.tiles p).foldl (fun w i => max w (tileDest (s.tileWord p i) + tileWidth (s.tileWord p i))) 0

/-- R283: whether a set of tile words is one the chip accepts. -/
def tilesFit (ws : List Nat) : Bool :=
  let on := ws.filter tileOn
  (on.map tileVc).Nodup &&
    (on.all fun w => decide (1 ≤ tileWidth w ∧ tileDest w + tileWidth w ≤ 16384) &&
      (tileType w == 0x2A || tileType w == 0x2B || tileType w == 0x2C)) &&
    (on.zipIdx.all fun a => on.zipIdx.all fun b =>
      a.2 == b.2 || decide (tileDest a.1 + tileWidth a.1 ≤ tileDest b.1 ∨ tileDest b.1 + tileWidth b.1 ≤ tileDest a.1))

/-- R280: a sensor code normalised to 12 bits. -/
def normalise (dataType code : Nat) : Nat :=
  if dataType = 0x2A then (code % 256) * 16 else if dataType = 0x2B then (code % 1024) * 4 else code % 4096

/-- R283: the used pixels of a sensor line, in pipeline order; none when the line is too short. -/
def tilePixels (w : Nat) (codes : List Nat) : Option (List Nat) :=
  if codes.length < tileSource w + tileWidth w then none
  else
    let px := ((codes.drop (tileSource w)).take (tileWidth w)).map (normalise (tileType w))
    some (if tileFlip w then px.reverse else px)

/-! ### Lines, triggers and frames -/

/-- Firing position of camera line j of pipeline p, in 2⁻¹⁶ line of the current pitch (R286). -/
def State.cameraPosition (s : State) (p : Nat) (j : Int) : Int :=
  let v : Int := s.reg (o5003.VIEW_OFFSET + p)
  if s.regN o3100.LINE_PITCH = 600 then j * 65536 + v * 2048 else j * 131072 + v * 4096

/-- The web line that camera line j begins with (R286). -/
def State.webLine (s : State) (j : Int) : Int := if s.regN o3100.LINE_PITCH = 600 then j else 2 * j

/-- The first camera line whose position the mark has not passed (R286). -/
def State.firstCameraLine (s : State) (p : Nat) : Int :=
  let unit : Int := if s.regN o3100.LINE_PITCH = 600 then 65536 else 131072
  (s.firingPos - s.cameraPosition p 0 + (unit - 1)) / unit

/-- Whether the pipeline raises triggers: in PRINT and PROOF, unless it is UNBOUND or BLIND (R282, R286, R300). -/
def State.triggers (s : State) (p : Nat) : Bool := s.printing && (s.cameraState p != 0 && s.cameraState p != 4)

/-- R58, R286: the next trigger is committed when its firing position is 200 ns ahead by the estimate or nearer; after an
edge (`atOnce`) it comes no earlier than 40 ns from now. -/
def State.commitTrigger (atOnce : Bool) (s : State) (p : Nat) : State :=
  let x := s.pipeline p
  if s.triggers p = false ∨ x.due.isSome = true then s
  else
    match s.reachTime (s.cameraPosition p x.nextLine) with
    | some at_ =>
      if fireTime s.now + 2560 < at_ then s
      else s.setPipeline p { x with due := some (if atOnce then max at_ (fireTime s.now + 512) else at_) }
    | none => s

/-- The triggers of both pipelines that the estimate has brought within reach. -/
def State.commitTriggers (s : State) (atOnce : Bool) : State := [0, 1].foldl (State.commitTrigger atOnce) s

/-- Lines of a frame that come from the camera. -/
def dueSlots (l : List CameraSlot) : Nat := (l.filter fun x => x == .due || x == .diag).length

/-- The lines of a frame that are pending (R287). -/
def Frame.pending (f : Frame) : Nat := dueSlots (f.slots.drop f.lines.length)

/-- The lines of a pipeline that are pending (R287). -/
def Pipeline.pendingLines (x : Pipeline) : Nat := x.frames.foldl (fun n f => n + f.pending) 0

/-- Sets a bit of the flags of Table 10-6. -/
def Frame.flag (f : Frame) (b : Nat) : Frame := { f with flags := setBit f.flags b true }

/-- An all-zero line; `lost` where a restart enters it (R300). -/
def zeroLine (width : Nat) (lost : Bool) : MergedLine :=
  { pixels := List.replicate width 0, zeroed := [(0, width)], lost := lost }

/-- The n-th lines of the tiles merged into one pipeline line of a width, in ascending tile order (R284); a tile without a
line, or with a bad one, reads 0. -/
def mergeTiles (width : Nat) (parts : List (Nat × Option (List Nat))) : MergedLine :=
  let put (l : MergedLine) (x : Nat × Option (List Nat)) : MergedLine :=
    let d := tileDest x.1
    match x.2 with
    | some px => { l with pixels := l.pixels.take d ++ px ++ l.pixels.drop (d + px.length) }
    | none => { l with zeroed := (d, tileWidth x.1) :: l.zeroed }
  parts.foldl put { pixels := List.replicate width 0, zeroed := [], lost := false }

/-- The event of a frame is raised once (R285, R287, R299). -/
def State.tellFrame (s : State) (p src : Nat) (f : Frame) : State × Frame :=
  if f.told.contains src then (s, f) else (s.raise src p 0 21, { f with told := src :: f.told })

/-- The next line of a frame is merged from the feeds, which belong to the frame that the camera is sending: none while it
cannot be. `force` merges what there is (R285). -/
def State.mergeNext (s : State) (p : Nat) (f : Frame) (force : Bool) : Option (State × Frame) :=
  let width := s.lineWidth p
  match f.slots[f.lines.length]? with
  | none => none
  | some .zero => some (s, { f with lines := zeroLine width false :: f.lines })
  | some .lost => some (s, { f with lines := zeroLine width true :: f.lines })
  | some kind =>
    let x := s.pipeline p
    let feed (i : Nat) : TileFeed := x.feeds.getD i { got := 0, held := [] }
    let on := s.tiles p
    let ready := on.all fun i => !(feed i).held.isEmpty
    let full := on.any fun i => decide (8 ≤ (feed i).held.length)
    if force = true ∨ ((f.begun && !f.ended) = true ∧ (ready = true ∨ full = true)) then
      let parts := on.map fun i => (s.tileWord p i, match (feed i).held.head? with
        | some l => l
        | none => none)
      let line := if kind = .diag then zeroLine width false else mergeTiles width parts
      let drop (t : TileFeed) : TileFeed := { t with held := t.held.drop 1 }
      let s := s.setPipeline p { x with feeds := x.feeds.map drop }
      let f := { f with lines := line :: f.lines }
      if ready = false ∧ force = false then
        let (s, f) := (s.incReg (o5004.TILE_LATE_LINES + p)).tellFrame p 65 (f.flag 4)
        some (s, f)
      else some (s, f)
    else none

/-- Merges the lines of a frame as far as they go (R284). -/
def State.mergeAll : Nat → Nat → Bool → State × Frame → State × Frame
  | 0, _, _, x => x
  | fuel + 1, p, force, (s, f) =>
    match s.mergeNext p f force with
    | some y => State.mergeAll fuel p force y
    | none => (s, f)

/-- Replaces a frame of a pipeline by number. -/
def State.setFrame (s : State) (p : Nat) (f : Frame) : State :=
  s.mapPipeline p fun x => { x with frames := x.frames.map fun g => if g.number = f.number then f else g }

/-- The frame that the camera is sending. -/
def Pipeline.receiving (x : Pipeline) : Option Frame := x.frames.find? fun f => f.begun && !f.ended

/-- The frame that is being triggered. -/
def Pipeline.triggered (x : Pipeline) : Option Frame := x.frames.find? fun f => !f.closed

/-- R290: the camera's frame ends; lines that the chip triggered and that did not come read 0. -/
def State.endCsi (s : State) (p : Nat) (f : Frame) : State :=
  let missing := f.slots.length - f.lines.length
  let short := decide (0 < f.pending)
  let (s, f) := State.mergeAll missing p true (s, { f with ended := true })
  (s.setFrame p (if short then f.flag 2 else f)).mapPipeline p fun x =>
    { x with feeds := List.replicate 8 { got := 0, held := [] } }

/-- R300: lines pending in a frame, and those triggered in it from now on, are entered as zeros; its bad lines have had their
restart. -/
def Frame.restarted (f : Frame) : Frame :=
  let n := f.lines.length
  { f with begun := true, ended := true, lost := true, bad := 0,
           slots := f.slots.take n ++ (f.slots.drop n).map fun k => if k = .zero then .zero else .lost }

/-- The zero lines of a frame follow at once. -/
def State.flushFrame (s : State) (p : Nat) (f : Frame) : State :=
  let (s, f) := State.mergeAll f.slots.length p false (s, f)
  s.setFrame p f

/-- No line follows in the frame that is being triggered; a frame with fewer lines than `FRAME_LINES` is flagged (R288,
R289). -/
def State.closeFrame (s : State) (p : Nat) : State :=
  let n := s.regN (o5003.FRAME_LINES + p)
  s.mapPipeline p fun x =>
    { x with frames := x.frames.map fun f =>
        if f.closed then f
        else if f.slots.length < n then { f.flag 2 with closed := true } else { f with closed := true } }

/-! ### Buffers -/

/-- Whether a DRAM channel is in service. -/
def State.bothChannels (s : State) : Bool := s.regN o4403.CHANNELS % 4 == 3

/-- Octets of a pipeline's camera buffers (Table 04-3, R139). -/
def State.bufferArea (s : State) : Nat := if s.bothChannels then 0x20000000 else 0x10000000

/-- R296: octets of one frame buffer. -/
def State.bufferSize (s : State) (p : Nat) : Nat := divUp (s.lineWidth p) 64 * 64 * s.regN (o5003.FRAME_LINES + p) * 2

/-- R296: the number of frame buffers. -/
def State.bufferCount (s : State) (p : Nat) : Nat :=
  if s.bufferSize p = 0 then 16 else min 16 (s.bufferArea / s.bufferSize p)

/-- `FRAME_BUFFERS` follows (R296). -/
def State.refreshBuffers (s : State) (p : Nat) : State := s.setRegN (o5003.FRAME_BUFFERS + p) (s.bufferCount p)

/-- R296: `BUFFER_ADDR` of a buffer: the camera buffers follow 417 MiB of Table 04-3. With one channel in service pipeline 0
has the first half of its area and pipeline 1 the second (log entry 24). -/
def State.bufferAddress (s : State) (p i : Nat) : Nat :=
  let both := s.bothChannels
  let channel := if both then p else if s.regN o4403.CHANNELS % 4 = 1 then 0 else 1
  channel * 2 ^ 56 + (417 * 1048576 + (if both then 0 else p * 0x10000000) + i * s.bufferSize p)

/-- Whether a held frame's buffer is in use (R297). -/
def State.isHeld (s : State) (h : HeldFrame) : Bool := !h.inspected || (s.flag o5003.HOST_HOLD && !h.released)

/-- R297: the lowest free buffer, if any. -/
def State.freeBuffer (s : State) (p : Nat) : Option Nat :=
  let x := s.pipeline p
  let used := (x.frames.filterMap fun f => f.buffer) ++ ((x.held.filter s.isHeld).filterMap fun h => h.frame.buffer)
  (List.range (s.regN (o5003.FRAME_BUFFERS + p))).find? fun i => !used.contains i

/-- R297: a frame is discarded. -/
def State.spillFrame (s : State) (p : Nat) : State :=
  (s.incReg (o5004.FRAMES_SPILLED + p)).raiseLimited 67 0 p 0 21 1000000000

/-! ### Settings -/

/-- R293: the settings generation that frame n carries. -/
def Pipeline.settingsOf (x : Pipeline) (n : Int) : Settings :=
  match x.effects.find? fun e => decide (e.frame ≤ n) with
  | some e => e.settings
  | none => x.base

/-- The oldest frame whose settings are still asked for. -/
def Pipeline.oldest (x : Pipeline) : Int :=
  match x.frames with
  | f :: _ => min (f.number : Int) (x.nextFrame - 1)
  | [] => x.nextFrame - 1

/-- Effect points that can still matter: of those before frame `oldest`, the newest alone. -/
def pruneEffects (oldest : Int) : List EffectPoint → List EffectPoint
  | [] => []
  | e :: rest => if e.frame < oldest ∧ e.wrote = none then [e] else e :: pruneEffects oldest rest

/-- The settings in force in the frame that is being triggered, or in the last one. -/
def State.settingsNow (s : State) (p : Nat) : Settings :=
  let x := s.pipeline p
  x.settingsOf ((x.nextFrame : Int) - 1)

/-- R291, R341: a new generation with the exposure and gain in force, and the compensation. -/
def State.newSettings (s : State) (p : Nat) : State :=
  let n := (s.regN (o5002.GENERATION + p) + 1) % 65536
  let g : Settings := { number := n, exposure := s.regN (o5002.EXPOSURE_NS + p),
                        gain := s.reg (o5002.GAIN_CDB + p) + s.reg (o5402.GAIN_COMP_CDB + p) }
  (s.setRegN (o5002.GENERATION + p) n).mapPipeline p fun x => { x with newest := g, pending := some g }

/-- The code of a setting by its map word (Table 10-12); none where `UNIT` disables it. The rounding is open (log
entry 5). -/
def mapCode (map : Nat) (value : Int) : Option Nat :=
  let unit := bits map 13 0
  if unit = 0 then none else some ((divOpen 292 value unit).toNat)

/-- Octets of a camera register (Table 10-12). -/
def mapOctetCount (map : Nat) : Nat := match bits map 15 14 with
  | 0 => 1
  | 1 => 2
  | _ => 4

/-- R292: the register writes of a generation: those whose codes differ from the ones last written. -/
def State.settingsWrites (s : State) (p : Nat) (g : Settings) : Transaction :=
  let x := s.pipeline p
  let em := s.regN (o5002.EXP_MAP + p)
  let gm := s.regN (o5002.GAIN_MAP + p)
  let e := mapCode em g.exposure
  let k := mapCode gm g.gain
  let one (map : Nat) (code last : Option Nat) : List (Nat × Nat × Nat) :=
    match code with
    | some c => if last = some c then [] else [(bits map 31 16, mapOctetCount map, c % 2 ^ (8 * mapOctetCount map))]
    | none => []
  { settings := g, writes := one em e x.sent.1 ++ one gm k x.sent.2,
    codes := (if e.isSome then e else x.sent.1, if k.isSome then k else x.sent.2), tries := 0 }

/-- R292: the nominal time of a transaction in ns: per register write a start, the address, two octets of register
address, the value, each octet with its acknowledge, and a stop. -/
def State.writeTime (s : State) (p : Nat) (tr : Transaction) : Nat :=
  let khz := match s.boundPort p with
    | some port => s.regN (o5000.I2C_KHZ + port)
    | none => 400
  let bitTimes := tr.writes.foldl (fun n w => n + (29 + 9 * w.2.1)) 0
  divUp (bitTimes * 1000000) khz

/-- The time in ns until the high-water position reaches a firing position at the present line rate; none at standstill. -/
def State.timeTo (s : State) (target : Int) : Option Nat :=
  let r := s.lineRate
  if r.1 = 0 then none else some ((target - s.firingPos).toNat * r.2 / (r.1 * 65536))

/-- R288, R289, R396: whether the frames of a pipeline are set by time: not while the clock is INVALID. -/
def State.framesByTime (s : State) (p : Nat) : Bool :=
  s.regN (o5003.FRAME_MODE + p) != 0 && s.regN o7000.STATE != 5

/-- R292: the time in ns until the next FSYNC as predicted from `LINE_RATE`; none when none is to come. -/
def State.timeToSync (s : State) (p : Nat) : Option Nat :=
  let x := s.pipeline p
  if s.triggers p = false then none
  else if s.framesByTime p = false then
    let n : Int := s.regN (o5003.FRAME_LINES + p)
    s.timeTo (s.cameraPosition p (if x.triggered.isNone then x.nextLine else ((x.nextLine + n - 1) / n) * n))
  else if x.period ≠ some (s.localTime s.now / (s.regN (o5003.FRAME_PERIOD_US + p) * 1000)) then
    s.timeTo (s.cameraPosition p x.nextLine)
  else
    let period := s.regN (o5003.FRAME_PERIOD_US + p) * 1000
    let wait := period - s.localTime s.now % period
    match s.timeTo (s.cameraPosition p x.nextLine), s.timeTo (s.cameraPosition p (x.nextLine + 1)) with
    | some a, some b =>
      let step := b - a
      if wait ≤ a ∨ step = 0 then some a else some (a + divUp (wait - a) step * step)
    | _, _ => none

/-! ### Entry and leave -/

/-- R286: a pipeline begins with the first camera line ahead. -/
def State.armCamera (s : State) (p : Nat) : State :=
  s.mapPipeline p fun x => { x with nextLine := s.firstCameraLine p, due := none, period := none }

/-- R286: both pipelines begin at an entry to PRINT or PROOF. -/
def State.armCameras (s : State) : State := [0, 1].foldl State.armCamera s

/-- No more triggers: the frames in progress end with the lines triggered. -/
def State.stopCameras (s : State) : State :=
  [0, 1].foldl (fun s p => (s.closeFrame p).mapPipeline p fun x => { x with due := none }) s

end Sys2Proof.Machine
end

