-- ==== Sys2Proof/Machine/Blocks.lean ====
section
/-! DEFINITION. Machine/Blocks.lean: chapter 05, the raster block: its header and checks, the decoder of R153 and the
compressor's forms (R161). Pixels are numbers from 0 to 3, in raster order. -/
namespace Sys2Proof.Machine

/-- `PAGE_TAG` of a block (Table 05-1). -/
def blockTag (o : Octets) : Nat := bits (wordOf o 0) 63 32
/-- `BLOCK_INDEX` of a block. -/
def blockIndex (o : Octets) : Nat := bits (wordOf o 0) 31 0
/-- `VERSION` of a block. -/
def blockVersion (o : Octets) : Nat := bits (wordOf o 1) 63 60
/-- `MODE` of a block: 0 RAW, 1 RUN, 2 PRED. -/
def blockMode (o : Octets) : Nat := bits (wordOf o 1) 59 58
/-- `BILEVEL` of a block. -/
def blockBilevel (o : Octets) : Bool := bit (wordOf o 1) 57
/-- `PAYLOAD_WORDS` of a block. -/
def blockWords (o : Octets) : Nat := bits (wordOf o 1) 47 32
/-- `CRC32C` as the header holds it. -/
def blockCrc (o : Octets) : Nat := bits (wordOf o 1) 31 0

/-- R148: an empty block. -/
def blockEmpty (o : Octets) : Bool := o.length == 16 && blockMode o == 1 && blockWords o == 0

/-- R148: whether the length agrees. -/
def blockLengthOk (o : Octets) : Bool :=
  blockEmpty o || (decide (32 ≤ o.length ∧ o.length ≤ 4160) && o.length == 24 + 8 * blockWords o)

/-- R149: the CRC over header octets 0–11 and everything from octet 16 on. -/
def blockCrcOf (o : Octets) : Nat := crc32c (o.take 12 ++ o.drop 16)

/-- Granules of 64 octets that a block of n octets takes (R114). -/
def granules (n : Nat) : Nat := divUp n 64

/-- The bits of octets, most significant first (R150). -/
def bitsOf (o : Octets) : List Bool := o.flatMap fun b => (List.range 8).map fun i => b.getLsbD (7 - i)

/-- Bits packed into octets, most significant first, with zeros after the last. -/
def packBits : Nat → List Bool → Octets
  | 0, _ => []
  | n + 1, l => BitVec.ofNat 8 ((List.range 8).foldl (fun a i => 2 * a + if l.getD i false then 1 else 0) 0) :: packBits n (l.drop 8)

/-- The number that bits spell, most significant first. -/
def bitsNumber (l : List Bool) : Nat := l.foldl (fun a b => 2 * a + if b then 1 else 0) 0

/-- `read(k)` of R153: none past the payload's end. -/
def readBits (k : Nat) (l : List Bool) : Option (Nat × List Bool) :=
  if l.length < k then none else some (bitsNumber (l.take k), l.drop k)

/-- `read_eg()` of R153 after `zeros` zeros: L with the bits that follow, or the reason it fails. -/
def readEg : Nat → Nat → List Bool → Sum Nat (Nat × List Bool)
  | 0, _, _ => .inl 9
  | fuel + 1, zeros, l =>
    match l with
    | [] => .inl 11
    | false :: rest => if zeros = 14 then .inl 9 else readEg fuel (zeros + 1) rest
    | true :: rest =>
      match readBits zeros rest with
      | none => .inl 11
      | some (v, rest) => .inr (2 ^ zeros + v, rest)

/-- `put_run`: l pixels of value v ahead of the pixels so far, newest first. -/
def putRun (v : Nat) (l : Nat) (out : List Nat) : List Nat := List.replicate l v ++ out

/-- `put_match`: l pixels, each equal to the one 256 places earlier, or 0 on line 0. -/
def putMatch : Nat → List Nat → List Nat
  | 0, out => out
  | l + 1, out => putMatch l (out.getD 255 0 :: out)

/-- The pixels of a literal of g pixels of b bits, newest first. -/
def putLiteral (b g w : Nat) (out : List Nat) : List Nat :=
  (List.range g).foldl (fun out i => bits w (32 - b * i - 1) (32 - b * (i + 1)) :: out) out

/-- The coded pixels of a RUN or PRED payload (R152, R153): the pixels newest first and the bits left, or the reason. `n`
pixels stand in `out`. -/
def decodeWords : Nat → Bool → Nat → List Bool → Nat → List Nat → Sum Nat (List Nat × List Bool)
  | 0, _, _, _, _, _ => .inl 11
  | fuel + 1, pred, b, l, n, out =>
    if 16384 ≤ n then .inr (out, l)
    else
      let run (l : List Bool) : Sum Nat (Nat × List Nat × List Bool) :=
        match readBits b l with
        | none => .inl 11
        | some (v, l) =>
          match readEg 16 0 l with
          | .inl r => .inl r
          | .inr (len, l) => if 16384 - n < len then .inl 10 else .inr (len, putRun v len out, l)
      let matched (l : List Bool) : Sum Nat (Nat × List Nat × List Bool) :=
        match readEg 16 0 l with
        | .inl r => .inl r
        | .inr (len, l) => if 16384 - n < len then .inl 10 else .inr (len, putMatch len out, l)
      let literal (l : List Bool) : Sum Nat (Nat × List Nat × List Bool) :=
        if 16384 - n < 32 / b then .inl 10
        else match readBits 32 l with
          | none => .inl 11
          | some (w, l) => .inr (32 / b, putLiteral b (32 / b) w out, l)
      let word : Sum Nat (Nat × List Nat × List Bool) :=
        match l with
        | [] => .inl 11
        | false :: l => if pred then matched l else run l
        | true :: [] => .inl 11
        | true :: false :: l => if pred then run l else literal l
        | true :: true :: l => if pred then literal l else .inl 9
      match word with
      | .inl r => .inl r
      | .inr (len, out, l) => decodeWords fuel pred b l (n + len) out

/-- The pixels of a RAW payload (R151). -/
def unpackRaw : Nat → Nat → List Bool → List Nat
  | 0, _, _ => []
  | n + 1, b, l => bitsNumber (l.take b) :: unpackRaw n b (l.drop b)

/-- The sum of pixels. -/
def dropSum (l : List Nat) : Nat := l.foldl (· + ·) 0

/-- R153: the 16,384 pixels of a block in raster order, or the `REASON` of Table 05-4. -/
def decodeBlock (o : Octets) : Sum Nat (List Nat) :=
  if blockEmpty o then .inr (List.replicate 16384 0)
  else
    let b := if blockBilevel o then 1 else 2
    let words := blockWords o
    let payload := bitsOf ((o.drop 16).take (8 * words))
    let trailer := wordOf o (2 + words)
    let finish (out : List Nat) (rest : List Bool) : Sum Nat (List Nat) :=
      if payload.length - rest.length ≠ bits trailer 63 40 ∨ rest.any id ∨ bits trailer 7 0 ≠ 0xE5 ∨
          bits trailer 39 24 ≠ dropSum out then .inl 12
      else .inr out
    if blockMode o = 0 then
      if words ≠ 16384 * b / 64 then .inl 8 else finish (unpackRaw 16384 b payload) []
    else
      match decodeWords 16385 (blockMode o == 2) b payload 0 [] with
      | .inl r => .inl r
      | .inr (out, rest) => finish out.reverse rest

/-! ### The compressor -/

/-- EG(L) (R152). -/
def egBits (l : Nat) : List Bool :=
  let n := l.log2
  List.replicate n false ++ (List.range (n + 1)).map fun i => bit l (n - i)

/-- The `w` bits of a number, most significant first. -/
def numberBits (w v : Nat) : List Bool := (List.range w).map fun i => bit v (w - 1 - i)

/-- The length of the run of one value at the head of a list. -/
def runLength (v : Nat) (l : List Nat) : Nat := (l.takeWhile fun p => p == v).length

/-- The length of the match with the pixels 256 places earlier; `before` holds the pixels so far, newest first. -/
def matchLength : List Nat → List Nat → Nat
  | _, [] => 0
  | before, p :: rest => if before.getD 255 0 = p then matchLength (p :: before) rest + 1 else 0

/-- The next code word of the compressor with the pixels it stands for. R161 does not say which words it chooses: whether
a literal group, and in PRED whether a match or a run where both fit, is left to a free value (log entry 17). -/
def nextWord (pred : Bool) (b : Nat) (before rest : List Nat) : List Bool × Nat :=
  let g := 32 / b
  let choice := Config.codeWord pred before rest
  let v := rest.headD 0
  let run := runLength v rest
  let m := matchLength before rest
  if choice = 1 ∧ g ≤ rest.length then
    ((if pred then [true, true] else [true, false]) ++ (rest.take g).flatMap (numberBits b), g)
  else if pred ∧ 0 < m ∧ (choice = 2 ∨ run ≤ m) then (false :: egBits m, m)
  else ((if pred then [true, false] else [false]) ++ numberBits b v ++ egBits run, run)

/-- The code words of a block in one form, each as its bits. -/
def codeWords : Nat → Bool → Nat → List Nat → List Nat → List (List Bool)
  | 0, _, _, _, _ => []
  | fuel + 1, pred, b, before, rest =>
    if rest.isEmpty then []
    else
      let (w, n) := nextWord pred b before rest
      w :: codeWords fuel pred b ((rest.take n).reverse ++ before) (rest.drop n)

/-- A block of a form: header, payload and trailer, with `CRC32C` (R147 to R151). -/
def buildBlock (tag index mode : Nat) (bilevel : Bool) (code : List Bool) (sum : Nat) : Octets :=
  let words := divUp code.length 64
  let w1 := place 1 63 60 + place mode 59 58 + (if bilevel then 2 ^ 57 else 0) + place words 47 32
  let tail := if mode = 1 ∧ words = 0 then []
    else packBits (8 * words) code ++ octetsOf 8 (place code.length 63 40 + place sum 39 24 + 0xE5)
  let w0 := place tag 63 32 + place index 31 0
  let o := octetsOfWords [w0, w1] ++ tail
  octetsOfWords [w0, w1 + blockCrcOf o] ++ tail

/-- The same block under another name (R166, COPY). -/
def renameBlock (tag index : Nat) (o : Octets) : Octets :=
  let tail := o.drop 16
  let w0 := place tag 63 32 + place index 31 0
  let w1 := bits (wordOf o 1) 63 32 * 2 ^ 32
  octetsOfWords [w0, w1 + blockCrcOf (octetsOfWords [w0, w1] ++ tail)] ++ tail

/-- R164: whether every code word of a block that starts at bit `at_` of the area may start before bit `stop`. -/
def bermOk (at_ stop : Nat) : List (List Bool) → Bool
  | [] => true
  | w :: rest => decide (divUp (at_ + 34) 64 * 64 + 64 ≤ stop) && bermOk (at_ + w.length) stop rest

/-- R151, R164: a block as RAW, and whether it fits from byte `at_` of an area ending at byte `stop`. -/
def rawForm (tag index : Nat) (bilevel : Bool) (pixels : List Nat) (at_ stop : Nat) : Octets × Bool :=
  let rawBits := pixels.flatMap (numberBits (if bilevel then 1 else 2))
  (buildBlock tag index 0 bilevel rawBits (dropSum pixels), decide (at_ + 24 + rawBits.length / 8 ≤ stop))

/-- R161: what the compressor writes of a block: its octets, whether it fell back to RAW, and whether the berm holds for
a block that starts at byte `at_` of an area ending at byte `stop`. -/
def compressBlock (modeSel tag index : Nat) (bilevel : Bool) (pixels : List Nat) (at_ stop : Nat) : Octets × Bool × Bool :=
  let b := if bilevel then 1 else 2
  let sum := dropSum pixels
  let rawBits := pixels.flatMap (numberBits b)
  let rawForm := rawForm tag index bilevel pixels at_ stop
  if modeSel = 3 then (rawForm.1, false, rawForm.2)
  else if sum = 0 then (buildBlock tag index 1 bilevel [] 0, false, decide (at_ + 16 ≤ stop))
  else
    let run := codeWords 16384 false b [] pixels
    let pred := codeWords 16384 true b [] pixels
    let size (c : List (List Bool)) : Nat := divUp c.flatten.length 64
    let usePred := decide (modeSel = 2 ∨ (modeSel = 0 ∧ size pred < size run))
    let c := if usePred then pred else run
    if rawBits.length ≤ 64 * size c then (rawForm.1, true, rawForm.2)
    else (buildBlock tag index (if usePred then 2 else 1) bilevel c.flatten sum, false, bermOk (8 * (at_ + 16)) (8 * stop) c)

end Sys2Proof.Machine
end

