-- ==== Sys2Proof/Machine/Pages.lean ====
section
/-! DEFINITION. Machine/Pages.lean: chapter 04, the page queue, its records, the freeboard, and how much page store there
is. -/
namespace Sys2Proof.Machine

/-- Changes the page store's state. -/
def State.withPages (s : State) (f : PageStore → PageStore) : State := { s with pageStore := f s.pageStore }

/-- D of R118. -/
def State.largestDelay (s : State) : Int := s.reg o3000.LARGEST_DELAY

/-- Printing columns of the bar (R15). -/
def State.printColumns (s : State) : Nat := 992 * (s.regN o3000.DIES - 1) + 1024

/-- K of R113. -/
def State.blockColumns (s : State) : Nat := divUp s.printColumns 256

/-- The line after a page's last. -/
def Page.endLine (p : Page) : Nat := p.start + p.lines

/-- Bands of a page (R113). -/
def Page.bands (p : Page) : Nat := divUp p.lines 64

/-- K as the page was opened. -/
def Page.columns (p : Page) : Nat := p.total / p.bands

/-- Whether a page has lines in progress at firing line f (R118); one that waits for the next entry has none (R454). -/
def Page.inProgress (p : Page) (f d : Int) : Bool :=
  !p.held && decide ((p.start : Int) ≤ f ∧ f ≤ (p.endLine : Int) - 1 + d)

/-- Whether a committed page is firing (R117). -/
def State.isFiring (s : State) (p : Page) : Bool :=
  s.printing && p.committed && p.inProgress s.firingLine s.largestDelay

/-- Whether a committed page is queued. -/
def State.isQueued (s : State) (p : Page) : Bool := p.committed && !s.isFiring p

/-- The page of a stream with a tag. -/
def State.pageOf (s : State) (stream tag : Nat) : Option Page :=
  s.pageStore.pages.find? fun p => p.stream == stream && p.tag == tag

/-- Changes one page. -/
def State.mapPage (s : State) (stream tag : Nat) (f : Page → Page) : State :=
  s.withPages fun q => { q with pages := q.pages.map fun p => if p.stream = stream ∧ p.tag = tag then f p else p }

/-- A block of a page that can be read. -/
def Page.resident (p : Page) (i : Nat) : Option Block := p.blocks.find? fun b => b.index == i

/-- R116: the end of the last page opened starts afresh in READY when nothing is left. -/
def State.settleEnd (s : State) : State :=
  if s.mode = 3 ∧ s.regN o6402.ORIGIN_MODE < 2 ∧ s.pageStore.pages.isEmpty then
    s.withPages fun q => { q with lastEnd := 0 }
  else s

/-! ### Size -/

/-- Table 04-2: the total size in GiB, 0 for a combination outside it. -/
def State.sizeGib (s : State) : Nat :=
  let w := s.regN o4400.DEVICE_WIDTH
  let r := s.regN o4400.RANKS
  let g := s.regN o4400.DENSITY_GBIT
  let unit := if ¬(g = 8 ∨ g = 16 ∨ g = 24 ∨ g = 32) then 0
    else if ¬(r = 1 ∨ r = 2) then 0
    else if w = 16 then g * r else if w = 8 then 2 * g * r
    else if w = 4 then (if r = 1 then 4 * g else if g ≤ 16 then 8 * g else 0) else 0
  unit

/-- R112: MiB of each channel that Table 04-3 reserves beside the mirror area. -/
def reservedMib : Nat := 1 + 128 + 256 + 32 + 512 + 256

/-- Whether channel c (0 A, 1 B) is in service. -/
def State.channelUp (s : State) (c : Nat) : Bool := bit (s.regN o4403.CHANNELS) c

/-- Page store now in service in MiB (R112, R139). -/
def State.storeMib (s : State) : Nat :=
  let half := s.sizeGib * 512
  match s.regN o4403.CHANNELS % 4 with
  | 3 => 2 * (half - reservedMib - s.regN o4400.MIRROR_MIB)
  | 0 => 0
  | _ => half - reservedMib

/-- Granules of page store in service. -/
def State.storeGranules (s : State) : Nat := s.storeMib * 16384

/-- Granules reserved by every page. -/
def State.reservedGranules (s : State) : Nat := s.pageStore.pages.foldl (fun n p => n + p.reserved) 0

/-- Granules that blocks take. -/
def heldGranules (l : List Block) : Nat := l.foldl (fun n b => n + granules b.data.length) 0

/-- R112, Table 04-3: the first granule of a channel that lies in its mirror area. -/
def mirrorBase : Nat := reservedMib * 16384

/-- R112, R139: the first granule of a channel's page store; with one channel in service the mirror area is part of it. -/
def State.storeBase (s : State) : Nat :=
  if s.regN o4403.CHANNELS % 4 = 3 then mirrorBase + s.regN o4400.MIRROR_MIB * 16384 else mirrorBase

/-- The granules of channel c that blocks take, as (first, count), in ascending order: home copies, mirror copies and blocks under
verification. -/
def State.takenIn (s : State) (c : Nat) : List (Nat × Nat) :=
  let ofBlock (b : Block) : List (Nat × Nat) :=
    if b.channel = c then [(b.at_, granules b.data.length)]
    else if b.mirrored then [(b.mirrorAt, granules b.data.length)] else []
  let ofArrival (a : Arrival) : List (Nat × Nat) := match a with
    | .block o ch g _ => if ch = c then [(g, granules o.length)] else []
    | .commit _ _ => []
  let q := s.pageStore
  (q.pages.flatMap (fun p => p.blocks.flatMap ofBlock) ++ (q.queue0 ++ q.queue1).flatMap ofArrival).mergeSort
    fun a b => decide (a.1 ≤ b.1)

/-- The first place at or after `at_` with n free granules in a row. -/
def firstFit (n : Nat) : Nat → List (Nat × Nat) → Nat
  | at_, [] => at_
  | at_, (first, count) :: rest => if at_ + n ≤ first then at_ else firstFit n (max at_ (first + count)) rest

/-- R114: contiguous granules for a block of channel c, at or after a granule; the lowest free ones (log entry 55). -/
def State.allocate (s : State) (c base : Nat) (o : Octets) : Nat := firstFit (granules o.length) base (s.takenIn c)

/-- R114: consecutive granules rotate through the subchannels and the bank groups: the subchannel of a granule, and its bank
group. -/
def granulePlace (g : Nat) : Nat × Nat := (g % 2, g / 2 % 8)

/-- Whether a byte of a channel lies in a mirrored region of Table 04-3. -/
def mirroredRegion (address : Nat) : Bool := decide (2 ^ 20 ≤ address ∧ address < 417 * 2 ^ 20)

/-- The block whose copy in channel c holds a byte: a block of a page or one under verification. -/
def State.blockAt (s : State) (c address : Nat) : Option (Nat × Nat × Nat) :=
  let g := address / 64
  let holds (first : Nat) (o : Octets) : Bool := decide (first ≤ g ∧ g < first + granules o.length)
  let ofPage (p : Page) : Option (Nat × Nat × Nat) :=
    (p.blocks.find? fun b => if b.channel = c then holds b.at_ b.data else b.mirrored && holds b.mirrorAt b.data).map
      fun b => (p.stream, p.tag, b.index)
  let ofArrival (stream : Nat) (a : Arrival) : Option (Nat × Nat × Nat) := match a with
    | .block o ch first _ => if ch = c ∧ holds first o then some (stream, blockTag o, blockIndex o) else none
    | .commit _ _ => none
  let q := s.pageStore
  (q.pages.findSome? ofPage).orElse fun _ =>
    (q.queue0.findSome? (ofArrival 0)).orElse fun _ => q.queue1.findSome? (ofArrival 1)

/-- Granules of the mirror areas in use (R137). -/
def State.mirrorGranules (s : State) : Nat :=
  s.pageStore.pages.foldl (fun n p => n + heldGranules (p.blocks.filter fun b => b.mirrored)) 0

/-- `HORIZON_LINES` (R137). -/
def State.horizon (s : State) : Nat :=
  if s.regN o4403.CHANNELS % 4 ≠ 3 then 0
  else match s.dram.fullAt with
    | some l => min (s.regN o4400.MIRROR_LINES) (l - s.firingLine).toNat
    | none => s.regN o4400.MIRROR_LINES

/-! ### Records -/

/-- Words of a page record (Table 04-6). -/
def pageRecord (tag kind stream flags start count detail skipped : Nat) : List Nat :=
  [place tag 63 32 + place kind 31 24 + place stream 23 23 + place flags 15 0, start % 2 ^ 64,
   place count 63 32 + place detail 31 0, place skipped 63 32]

/-- R119: a page record on its ring. -/
def State.pageEvent (s : State) (tag kind stream flags start count detail skipped : Nat) : State :=
  s.ringPut (if kind = 7 then 2 else stream) (pageRecord tag kind stream flags start count detail skipped)

/-- R158: marks the blocks of a removed page that wait for verification. -/
def markGone (tag : Nat) (l : List Arrival) : List Arrival :=
  l.map fun a => match a with
    | .block o c at_ g => .block o c at_ (g || blockTag o == tag)
    | a => a

/-- Removes a page from the queue. -/
def State.removePage (s : State) (p : Page) : State :=
  s.withPages fun q => { q with pages := q.pages.filter fun r => !(r.stream == p.stream && r.tag == p.tag) }

/-- Removes an aborted page from the queue; its blocks under verification are discarded when theirs ends (R158). -/
def State.dropPage (s : State) (p : Page) : State :=
  (s.removePage p).withPages fun q =>
    { q with queue0 := if p.stream = 0 then markGone p.tag q.queue0 else q.queue0,
             queue1 := if p.stream = 0 then q.queue1 else markGone p.tag q.queue1 }

/-- An open or queued page is removed with an ABORTED record (Table 04-5). -/
def State.abortPage (s : State) (p : Page) : State :=
  ((s.dropPage p).pageEvent p.tag 4 p.stream (setBit p.flags 3 true) p.start 0 0 0).settleEnd

/-- R118, Table 05-7: the position of the first block of a job in flight that has its source in bands first to last of a page, if
there is one. -/
def sourceLost (p : Page) (first last : Nat) (j : Job) : Option Nat :=
  let word (n : Nat) : Nat := j.words.getD n 0
  let cols := bits (word 6) 31 16
  if bit (word 0) 35 = true ∧ bits (word 0) 36 36 = p.stream ∧ bits (word 7) 63 32 = p.tag ∧ j.status = 0 then
    (List.range (bits (word 6) 63 32 * cols)).find? fun n =>
      let band := (bits (word 7) 31 0 + n / cols * p.columns + n % cols) / p.columns
      decide (first ≤ band ∧ band ≤ last)
  else none

/-- R118, Table 05-7: jobs whose source bands first to last are freed fail at the first block there, with what they had done up to
it. -/
def State.sourceGone (p : Page) (first last : Nat) (s : State) : State :=
  let after (j : Job) : Job := match sourceLost p first last j with
    | none => j
    | some n =>
      { j with status := 5, done := n, failed := n,
               bytes := if bits (j.words.getD 0 0) 47 40 = 2 then n * (if bit (j.words.getD 0 0) 34 then 2048 else 4096)
                 else (j.blocks.reverse.take n).foldl (fun m b => m + b.2.length) 0 }
  s.withPages fun q => { q with jobs := q.jobs.map after }

/-- R118: a page is released with its flags, counts and record; the granules it still has are freed. -/
def State.releasePage (s : State) (p : Page) : State :=
  let s := s.sourceGone p p.freed p.bands
  let p := if p.committed then p else { p with flags := setBit p.flags 4 true }
  (((s.removePage p).incReg o4404.PAGES_RELEASED).pageEvent p.tag 7 p.stream p.flags p.start p.blank.length 0 p.skipped).settleEnd

/-- R454, R71, R118: the pages in progress are released `INCOMPLETE`; those whose lines every row has passed are released
as they are. -/
def State.pagesLeave (s : State) : State :=
  let f := s.firingLine
  let d := s.largestDelay
  let passed (p : Page) : Bool := !p.held && decide ((p.endLine : Int) - 1 + d < f)
  let s := (s.pageStore.pages.filter fun p => p.inProgress f d || passed p).foldl
    (fun s p => s.releasePage (if passed p then p else { p with flags := setBit p.flags 1 true })) s
  s.withPages fun q => { q with pages := q.pages.map fun (p : Page) => { p with held := false } }

/-- Sets one bit of Table 04-7 in every page with lines in progress. -/
def State.flagFiring (s : State) (b : Nat) : State :=
  let f := s.firingLine
  let d := s.largestDelay
  let mark (p : Page) : Page := if p.inProgress f d then { p with flags := setBit p.flags b true } else p
  s.withPages fun q => { q with pages := q.pages.map mark }

/-- The page that holds a firing line, one that waits for the next entry left out (R454). -/
def State.pageAt (s : State) (line : Int) : Option Page :=
  s.pageStore.pages.find? fun p => !p.held && decide ((p.start : Int) ≤ line ∧ line < (p.endLine : Int))

/-- Sets one bit of Table 04-7 in the page that holds a line. -/
def State.flagLine (s : State) (line : Int) (b : Nat) : State :=
  match s.pageAt line with
  | some p => s.mapPage p.stream p.tag fun p => { p with flags := setBit p.flags b true }
  | none => s

/-- A line is printed blank with a flag: it counts once in `COUNT` (R124, Table 04-6). The Bool says whether this is the
first time. -/
def State.blankLine (s : State) (line : Int) (flag : Nat) : Bool × State :=
  match s.pageAt line with
  | some p =>
    let n := (line - p.start).toNat
    (!p.blank.contains n,
     s.mapPage p.stream p.tag fun p =>
       { p with flags := setBit p.flags flag true, blank := if p.blank.contains n then p.blank else n :: p.blank })
  | none => (false, s)

/-- R124: a line starves; FREEBOARD_EMPTY once per page. -/
def State.starveLine (s : State) (line : Int) : State :=
  match s.pageAt line with
  | none => s
  | some p =>
    let n := (line - p.start).toNat
    let (_, s) := s.blankLine line 4
    let s := if p.empty.contains n then s
      else (s.mapPage p.stream p.tag fun p => { p with empty := n :: p.empty }).incReg o4401.STARVED_LINES
    if p.starved then s
    else
      let s := s.mapPage p.stream p.tag fun p => { p with starved := true }
      (s.incReg o4401.STARVATIONS).raise 23 p.stream 1 18

/-- A line of a page is skipped on a row (R66). -/
def State.skipLine (s : State) (line : Int) : State :=
  match s.pageAt line with
  | some p => s.mapPage p.stream p.tag fun p => { p with flags := setBit p.flags 2 true, skipped := p.skipped + 1 }
  | none => s

/-! ### Freeboard -/

/-- The first block index of a page that is not resident, not counting bands that are freed. -/
def Page.firstMissing (p : Page) : Option Nat :=
  (List.range p.total).find? fun i => decide (p.freed * p.columns ≤ i) && (p.resident i).isNone

/-- R121: E from the pages that end beyond f, with whether an open page or a missing block lies there, and the stream of
that page. -/
def freeboardEnd : List Page → Int → Int → Int × Option Nat
  | [], _, e => (e, none)
  | p :: rest, f, e =>
    if (p.endLine : Int) ≤ f then freeboardEnd rest f e
    else if p.committed = false then (e, some p.stream)
    else match p.firstMissing with
      | some i => ((p.start : Int) + 64 * (i / p.columns : Nat), some p.stream)
      | none => freeboardEnd rest f (p.endLine : Int)

/-- R121: freeboard in lines from firing line f, and the stream of the page that ends it. -/
def State.freeboard (s : State) (f : Int) : Nat × Option Nat :=
  let r := freeboardEnd s.pageStore.pages f f
  ((r.1 - f).toNat, r.2)

/-- R122: lines of freeboard in milliseconds: over the higher of the line rate and `RATE_FLOOR`. The table gives whole
milliseconds; the rounding is open. -/
def State.linesToMs (s : State) (n : Nat) : Nat :=
  let r := s.lineRate
  let floor_ := s.regN o4401.RATE_FLOOR
  if s.rateAbove floor_ then (divOpen 122 ((n : Int) * 1000 * r.2) (r.1 * 1000000000)).toNat
  else (divOpen 122 ((n : Int) * 1000) floor_).toNat

/-- R122: freeboard in milliseconds from a firing line. -/
def State.freeboardMs (s : State) (f : Int) : Nat := s.linesToMs (s.freeboard f).1

/-- R122, R123: the figures of 4401h, and FREEBOARD_LOW in PRINT. -/
def State.refreshFreeboard (s : State) : State :=
  let (n, stream) := s.freeboard s.firingLine
  let ms := s.linesToMs n
  let s := (s.setRegN o4401.LINES n).setRegN o4401.MS ms
  if s.mode ≠ 4 then s
  else
    let s := if (ms : Int) < s.reg o4401.LOWEST_MS then s.setRegN o4401.LOWEST_MS ms else s
    if s.regN o4401.ENTRY_MS < ms then s.withPages fun q => { q with armed := true }
    else match stream with
      | some x =>
        if ms < s.regN o4401.WARN_MS ∧ s.pageStore.armed then
          (s.withPages fun q => { q with armed := false }).raise 22 x 0 18
        else s
      | none => s

/-- The figures of 4401h start afresh at an entry to PRINT (R123). -/
def State.enterFreeboard (s : State) (entry : Int) : State :=
  let (n, _) := s.freeboard entry
  let ms := s.linesToMs n
  (((s.setRegN o4401.LINES n).setRegN o4401.MS ms).setRegN o4401.LOWEST_MS ms).withPages fun q => { q with armed := true }

/-- Starts of the queued pages, ascending. -/
def State.queuedStarts (s : State) : List Int := (s.pageStore.pages.filter s.isQueued).map fun p => (p.start : Int)

/-- The end of the last page queued or firing (R454). -/
def State.lastQueuedEnd (s : State) : Option Int :=
  ((s.pageStore.pages.filter fun p => p.committed).getLast?).map fun p => (p.endLine : Int)

/-- R451: the end of the last queued page. -/
def State.runEnd (s : State) : Int := s.lastQueuedEnd.getD 0

/-- R451: no page is open or queued; a firing page is one until its release. -/
def State.noPages (s : State) : Bool := s.pageStore.pages.isEmpty

/-! ### Missing blocks -/

/-- Runs of consecutive numbers of an ascending list as (first, count). -/
def runsOf : List Nat → List (Nat × Nat)
  | [] => []
  | n :: rest =>
    match runsOf rest with
    | (m, c) :: more => if n + 1 = m then (n, c + 1) :: more else if n = m then (m, c) :: more else (n, 1) :: (m, c) :: more
    | [] => [(n, 1)]

/-- R139: the RESEND records of a page for its lost blocks, one per run of consecutive bands. -/
def State.resendRecords (s : State) (p : Page) (lost : List Nat) (channel : Nat) : State :=
  (runsOf (lost.map fun i => i / p.columns)).foldl
    (fun s r => s.pageEvent p.tag 5 p.stream 0 r.1 r.2 channel 0) s

/-- Marks blocks of a page missing, to be sent again (R135, R139). -/
def State.loseBlocks (s : State) (p : Page) (lost : List Nat) (channel : Nat) : State :=
  if lost.isEmpty then s
  else
    let s := s.mapPage p.stream p.tag fun p =>
      { p with blocks := p.blocks.filter (fun b => !lost.contains b.index),
               resend := p.resend ++ lost.filter fun i => !p.resend.contains i }
    s.resendRecords p lost channel

/-- `MISSING_BLOCKS` of 4406h. -/
def State.missingBlocks (s : State) : Nat := s.pageStore.pages.foldl (fun n p => n + p.resend.length) 0

/-- R160: every open and queued page is aborted. -/
def State.abortWaiting (s : State) : State :=
  (s.pageStore.pages.filter fun p => !s.isFiring p).foldl State.abortPage s

end Sys2Proof.Machine
end

