-- ==== Sys2Proof/Machine/Encoder.lean ====
section
/-! DEFINITION. Machine/Encoder.lean: chapter 02, edges, the high-water mark, the cross-check window and failover. -/
namespace Sys2Proof.Machine

/-- R66: OVERSPEED once, and again only after the line rate has been within `MAX_LINE_RATE`. -/
def State.judgeOverspeed (s : State) : State :=
  if s.rateAbove (s.regN o3100.MAX_LINE_RATE) then
    if s.pos.overspeed then s
    else ({ s with pos := { s.pos with overspeed := true } }).raise 85 0 1 20
  else { s with pos := { s.pos with overspeed := false } }

/-- R55, R66: the rate may have fallen within `MAX_LINE_RATE` since the last edge. -/
def State.rateFallen (s : State) : State :=
  if s.rateAbove (s.regN o3100.MAX_LINE_RATE) then s else { s with pos := { s.pos with overspeed := false } }

/-- R62 to R64: the high-water mark after an edge of the pacing source. -/
def State.markEdge (s : State) (ch : Nat) : State :=
  let depth := signed 48 (s.regN o6402.HWM_COUNT + (2 ^ 48 - s.countOf ch))
  if depth < 0 then
    let s := (s.setReg o6402.HWM_COUNT (s.countOf ch : Nat)).setReg o6402.DEPTH 0
    { s with pos := { s.pos with frac := 0, excursion := false } }
  else
    let s := s.setReg o6402.DEPTH depth
    let s := if (s.regN o6402.DEEPEST_REVERSAL : Int) < depth then s.setReg o6402.DEEPEST_REVERSAL depth else s
    if depth = 0 then { s with pos := { s.pos with excursion := false } }
    else if (s.regN o6402.JITTER_ALLOW : Int) < depth ∧ s.pos.excursion = false then
      let s := { s with pos := { s.pos with excursion := true } }
      let s := (s.incReg o6402.REVERSALS).raise 84 0 0 20
      if s.mode = 4 ∨ s.mode = 5 then s.flagFiring 0 else s
    else s

/-- The net counts of the cross-check window after an edge (R67). -/
def State.windowEdge (s : State) (ch : Nat) (d : Int) : State :=
  match s.pos.checking with
  | none => s
  | some k =>
    let w := s.pos.window
    let w := if some ch = s.pacer then
        { w with active := w.active + d, atEdge := (w.active + d, w.checking) } else w
    let w := if ch = k ∧ some ch ≠ s.pacer then { w with checking := w.checking + d } else w
    { s with pos := { s.pos with window := w } }

/-- R70: keeps both net counts at the active source's first fault indicator of the window. -/
def State.noteIndicator (s : State) (ch : Nat) : State :=
  let w := s.pos.window
  if some ch = s.pacer ∧ w.good = none then
    { s with pos := { s.pos with window := { w with good := some w.atEdge } } }
  else s

/-- One accepted edge of a source at time t: the count (R44), the history and speed (R54), standstill (R55), the mark
(R63), the camera triggers it commits (R286) and the line rate (R66). -/
def State.countEdge (s : State) (ch : Nat) (back : Bool) (t : Nat) : State :=
  let s := if some ch = s.pacer then (s.rateFallen.extrapolate t).commitTriggers false else s
  let c := s.channel ch
  let d : Int := if back then -1 else 1
  let s := s.setCount ch (if back then s.countOf ch + (2 ^ 48 - 1) else s.countOf ch + 1)
  let run := if c.run ≠ 0 ∧ (if ch = 5 then c.back else s.statusBit ch 2) = back then c.run + 1 else 1
  let c := { c with edge := some { count := s.countOf ch, frac := 0, time := t }, times := (t :: c.times).take 17, run := run,
                    back := if ch = 5 then back else c.back || back }
  let s := s.setChannel ch c
  let s := ((s.setStatus ch 3 false).setStatus ch 2 back).setStatus ch 1 (decide (2 ≤ run))
  let s := s.windowEdge ch d
  if some ch = s.pacer then ((s.markEdge ch).commitTriggers true).judgeOverspeed else s

/-- R69: a blamed checking channel is marked `FAILED` and checks no longer. -/
def State.dropChecking (s : State) (ch : Nat) : State :=
  { ((s.setStatus ch 8 true).setStatus ch 7 false) with pos := { s.pos with checking := none } }

/-- R68: a source shows `INDEX_BAD` within the window. -/
def State.noteBad (s : State) (ch : Nat) : State :=
  let w := s.pos.window
  let w := if some ch = s.pacer then { w with badActive := true }
    else if some ch = s.pos.checking then { w with badCheck := true } else w
  { s with pos := { s.pos with window := w } }

/-- The bits ACTIVE and STANDBY of both channels as 3101h:02 and the checking channel give them. -/
def State.showRoles (s : State) : State :=
  let put (s : State) (ch : Nat) : State :=
    (s.setStatus ch 6 (decide (s.pacer = some ch))).setStatus ch 7 (decide (s.pos.checking = some ch))
  put (put s 0) 1

/-- A write of 3101h:01: the source of Table 02-3, its checking channel and a new window (R67); the mark takes its count
(log entry 38). -/
def State.selectSource (s : State) : State :=
  let v := s.regN o3101.SOURCE
  let act : Nat := match v with
    | 1 => 1
    | 2 => 2
    | 3 => 1
    | 4 => 2
    | 5 => 5
    | 6 => 5
    | _ => 0
  let chk : Option Nat := match v with
    | 3 => some 1
    | 4 => some 0
    | 6 => some 0
    | _ => none
  let chk := match chk with
    | some k => if s.statusBit k 8 then none else some k
    | none => none
  let s := s.setReg o3101.ACTIVE (act : Nat)
  let s := { s with pos := { s.pos with checking := chk, window := CheckWindow.fresh, frac := 0, excursion := false } }
  let s := match s.pacer with
    | some ch => s.setReg o6402.HWM_COUNT (s.countOf ch : Nat)
    | none => s
  s.showRoles

/-- R69 and R70: pacing passes to the checking channel, and the positions are joined in `LINE_ORIGIN` (log entry 40). -/
def State.failover (s : State) (new : Nat) : State :=
  match s.pacer with
  | none => s
  | some old =>
    let w := s.pos.window
    let good := match w.good with
      | some g => g
      | none => w.atEdge
    let a := s.scaleOf old
    let b := s.scaleOf new
    -- lines of the old source at its last good edge, plus the new channel's motion since, in new counts from the origin
    let oldCounts := signed 48 (s.countOf old + (2 ^ 48 - s.regN o6402.LINE_ORIGIN % 2 ^ 48)) - (w.active - good.1)
    let fromOrigin := divOpen 70 (oldCounts * a.1 * b.2) (a.2 * b.1) + (w.checking - good.2)
    let s := s.setReg o6402.LINE_ORIGIN (unsigned 48 ((s.countOf new : Int) - fromOrigin) : Nat)
    let s := s.setReg o3101.ACTIVE (if new = 0 then 1 else 2 : Nat)
    let s := (s.setReg o6402.HWM_COUNT (s.countOf new : Nat)).setReg o6402.DEPTH 0
    let s := { s with pos := { s.pos with checking := none, window := CheckWindow.fresh, frac := 0, excursion := false } }
    ((s.incReg o3101.FAILOVERS).showRoles).raise 87 new 1 20

end Sys2Proof.Machine
end

