-- ==== Sys2Proof/Machine/Stored.lean ====
section
/-! DEFINITION. Machine/Stored.lean: chapter 16, the stored configuration and the dictionary's description of itself. -/
namespace Sys2Proof.Machine

/-- R442: the subindices that a table makes persistent and the rule leaves out. -/
def neverStored (k : Nat) : Bool :=
  let i := k / 256
  let j := k % 256
  i == 0x3401 || i == 0x3403 || i == 0x3602 || i == 0x2102 || k == o2103.AUDIT_SELECT || k == 0x380301
    || k == 0x38050B || k == 0x480201 || k == 0x520306 || (i == 0x3405 && j ≤ 8) || (i == 0x3404 && j ≤ 5)
    || k == o2002.COMMIT_AT

/-- R442: a subindex is persistent when the installer or the maker may write it and its table gives a default. -/
def persistent (k : Nat) : Bool :=
  match rowOf k with
  | some r => r.stored && (2 ≤ r.rights.2.1 || 2 ≤ r.rights.2.2) && !neverStored k
  | none => false

/-- Whether a copy is whole: its CRC is right (R444). -/
def ConfigCopy.values? : ConfigCopy → Option (Nat × List (Nat × Int))
  | .holds n true vs => some (n, vs)
  | _ => none

/-- R444: the copy with the higher save count whose CRC is right: its count and its values that differ from defaults. -/
def Flash.config (f : Flash) : Option (Nat × List (Nat × Int)) :=
  match f.configA.values?, f.configB.values? with
  | some a, some b => if a.1 < b.1 then some b else some a
  | some a, none => some a
  | none, b => b

/-- The stored value of a persistent subindex: the copy's, or the default (R444). -/
def Flash.stored (f : Flash) (k : Nat) : Int :=
  match f.config with
  | some c => Cells.get resetValue c.2 k
  | none => resetValue k

/-- Writes the older copy, or the empty one, with a higher save count (R443); a failed write spoils that copy only. -/
def Flash.writeCopy (f : Flash) (values : List (Nat × Int)) (ok : Bool) : Flash :=
  let n := match f.config with
    | some c => c.1 + 1
    | none => 1
  let intoA := match f.configA.values?, f.configB.values? with
    | some a, some b => decide (a.1 < b.1)
    | some _, none => false
    | none, _ => true
  if intoA then { f with configA := .holds n ok values } else { f with configB := .holds n ok values }

/-- R474: journal records in flash, newest first; a full area of 524,288 records loses its oldest sector of 4,096. -/
def Flash.addJournal (f : Flash) (new : List JournalRecord) : Flash :=
  let all := new ++ f.journal
  { f with journal := if 524288 < all.length then all.take (all.length - 4096 * divUp (all.length - 524288) 4096) else all }

/-- R425: audit records in flash, newest first; a full area of 131,072 records loses its oldest sector of 2,048, counted in `erased`. -/
def Flash.addAudit (f : Flash) (new : List AuditRecord) : Flash :=
  let all := new ++ f.audit
  let beyond := all.length - 131072
  let cut := 2048 * divUp beyond 2048
  { f with audit := if beyond = 0 then all else all.take (all.length - cut), erased := (f.erased + cut) % 2 ^ 32 }

/-- R443: the values that a save copies: those in force, and for class B the stored ones. -/
def State.saveValues (s : State) : List (Nat × Int) :=
  let now := s.regs.filter fun e => persistent e.1
  let isB (k : Nat) : Bool := match rowOf k with
    | some r => r.apply == .b
    | none => false
  let kept := now.filter fun e => !isB e.1
  let stored : List (Nat × Int) := match s.flash.config with
    | some c => c.2.filter fun e => isB e.1
    | none => []
  stored.foldl (fun l e => Cells.put resetValue l e.1 e.2) kept

/-- R441: a class-B write goes into the stored configuration at once, and a save that runs keeps it. -/
def State.storeValue (s : State) (k : Nat) (v : Int) : State :=
  let put (l : List (Nat × Int)) := Cells.put resetValue l k v
  let f := s.flash
  let f := match f.config with
    | none => f.writeCopy (put []) true
    | some (n, _) =>
      match f.configA.values?, f.configB.values? with
      | some (m, vs), b =>
        if m = n then { f with configA := .holds m true (put vs) }
        else match b with
          | some (m, vs) => { f with configB := .holds m true (put vs) }
          | none => f
      | none, some (m, vs) => { f with configB := .holds m true (put vs) }
      | none, none => f
  { s with flash := f, modes := { s.modes with saving := s.modes.saving.map put } }

/-- R441, R146: in BOOT a class-B write that comes before the chip reads that subindex, which it does as it trains the DRAM,
comes into force in the present start-up too (log entry 101). -/
def State.bootValue (s : State) (k : Nat) (v : Int) : State :=
  let s := s.storeValue k v
  if s.mode = 0 ∧ s.modes.loader = false then s.setReg k v else s

/-- 1020h:03: a persistent value in force differs from the stored one. -/
def State.runningDiffers (s : State) : Bool :=
  let st : List (Nat × Int) := match s.flash.config with
    | some c => c.2
    | none => []
  (s.regs.any fun e => persistent e.1 && s.flash.stored e.1 != e.2) || st.any fun e => s.reg e.1 != e.2

/-- 1020h:04: a stored B-class value differs from the value in force (R441). -/
def State.bPending (s : State) : Bool :=
  [0x440001, 0x440002, 0x440003, 0x440004, 0x440007, 0x440008].any fun k => s.flash.stored k != s.reg k

/-- CONFIG_SAVE_DONE (R443). -/
def execConfigSaveDone (t : Nat) (ok : Bool) (s : State) : Host.Outcome State Fault Refusal :=
  s.run t fun s =>
    match s.modes.saving with
    | none => s
    | some vs =>
      let s := { s with modes := { s.modes with saving := none }, flash := s.flash.writeCopy vs ok }
      if ok then (s.setRegN o1010.SAVE_STATUS 2).setRegN o1020.STORED_CRC (Config.storedCrc vs % 2 ^ 32)
      else (s.setRegN o1010.SAVE_STATUS 3).raise 7 0 1 23

/-! ### The directory of 1030h -/

/-- `TYPE` of Table 16-1. -/
def DType.code : DType → Nat
  | .bool => 0x0001
  | .i8 => 0x0002
  | .i16 => 0x0003
  | .i32 => 0x0004
  | .u8 => 0x0005
  | .u16 => 0x0006
  | .u32 => 0x0007
  | .str => 0x0009
  | .octets => 0x000A
  | .domain => 0x000F
  | .u64 => 0x001B

/-- R429: whether an object is an ARRAY. -/
def Obj.isArray (o : Obj) : Bool :=
  match o.rows with
  | [] => true
  | r :: rest => rest.all fun q => q.type == r.type

/-- The directory of Table 16-10. -/
def directory : Octets :=
  objects.flatMap fun o => octetsOf 4 (place o.index 31 16 + place o.highest 15 8 + if o.isArray then 8 else 9)

/-- `APPLY` of Table 16-11 in ASCII. -/
def Apply.code : Apply → Nat
  | .none => 0x2D
  | .i => 0x49
  | .t => 0x54
  | .p => 0x50
  | .q => 0x51
  | .b => 0x42

/-- The number of subindices of the dictionary, 00h excluded. -/
def subCount : Nat := objects.foldl (fun n o => n + o.highest) 0

/-- The descriptions of Table 16-11. -/
def descriptions : Octets :=
  objects.flatMap fun o => o.rows.flatMap fun r =>
    (List.range (r.last + 1 - r.first)).flatMap fun i =>
      octetsOf 8 (place o.index 63 48 + place (r.first + i) 47 40 + place r.type.code 39 32 + place r.rights.1 31 30
        + place r.rights.2.1 29 28 + place r.rights.2.2 27 26 + place r.apply.code 23 16
        + (if 524280 < r.len then 0xFFFF else divUp r.len 8))

end Sys2Proof.Machine
end

