-- ==== Sys2Proof/Machine/Hmac.lean ====
section
/-! DEFINITION. Machine/Hmac.lean: SHA-256 and HMAC-SHA-256, which R407 takes from FIPS 198-1, over octets. -/
namespace Sys2Proof.Machine

/-- A 32-bit word rotated right. -/
def rotr (n x : Nat) : Nat := (x >>> n) ||| ((x <<< (32 - n)) % 2 ^ 32)

/-- The eight 32-bit words of a 256-bit number, most significant first. -/
def shaWords (n : Nat) : List Nat := (List.range 8).map fun i => bits n (255 - 32 * i) (224 - 32 * i)

/-- The round constants of SHA-256, eight to a number: the first 32 bits of the fractions of the cube roots of the first
64 primes. -/
def shaConstants : List Nat :=
  shaWords 0x428a2f9871374491b5c0fbcfe9b5dba53956c25b59f111f1923f82a4ab1c5ed5
    ++ shaWords 0xd807aa9812835b01243185be550c7dc372be5d7480deb1fe9bdc06a7c19bf174
    ++ shaWords 0xe49b69c1efbe47860fc19dc6240ca1cc2de92c6f4a7484aa5cb0a9dc76f988da
    ++ shaWords 0x983e5152a831c66db00327c8bf597fc7c6e00bf3d5a7914706ca635114292967
    ++ shaWords 0x27b70a852e1b21384d2c6dfc53380d13650a7354766a0abb81c2c92e92722c85
    ++ shaWords 0xa2bfe8a1a81a664bc24b8b70c76c51a3d192e819d6990624f40e3585106aa070
    ++ shaWords 0x19a4c1161e376c082748774c34b0bcb5391c0cb34ed8aa4a5b9cca4f682e6ff3
    ++ shaWords 0x748f82ee78a5636f84c878148cc7020890befffaa4506cebbef9a3f7c67178f2

/-- The starting value of SHA-256: the first 32 bits of the fractions of the square roots of the first eight primes. -/
def shaStart : List Nat := shaWords 0x6a09e667bb67ae853c6ef372a54ff53a510e527f9b05688c1f83d9ab5be0cd19

/-- The message padded to whole 64-octet blocks with its bit length. -/
def shaPad (m : Octets) : Octets :=
  let n := m.length
  m ++ [0x80#8] ++ List.replicate ((119 - n % 64) % 64) 0x00#8 ++ octetsOf 8 (8 * n)

/-- One further word of the message schedule, which is held newest first. -/
def shaExtend (w : List Nat) : List Nat :=
  let a := w.getD 14 0
  let b := w.getD 1 0
  let s0 := rotr 7 a ^^^ rotr 18 a ^^^ (a >>> 3)
  let s1 := rotr 17 b ^^^ rotr 19 b ^^^ (b >>> 10)
  ((w.getD 15 0 + s0 + w.getD 6 0 + s1) % 2 ^ 32) :: w

/-- The 64 words of the schedule of one block, oldest first. -/
def shaSchedule (block : Octets) : List Nat :=
  let first := (List.range 16).map fun i => numberOf ((block.drop (4 * i)).take 4)
  (Nat.repeat shaExtend 48 first.reverse).reverse

/-- One round on the eight working words. -/
def shaRound (h : List Nat) (kw : Nat × Nat) : List Nat :=
  match h with
  | [a, b, c, d, e, f, g, hh] =>
    let s1 := rotr 6 e ^^^ rotr 11 e ^^^ rotr 25 e
    let ch := (e &&& f) ^^^ ((0xFFFFFFFF ^^^ e) &&& g)
    let t1 := hh + s1 + ch + kw.1 + kw.2
    let s0 := rotr 2 a ^^^ rotr 13 a ^^^ rotr 22 a
    let maj := (a &&& b) ^^^ (a &&& c) ^^^ (b &&& c)
    [(t1 + s0 + maj) % 2 ^ 32, a, b, c, (d + t1) % 2 ^ 32, e, f, g]
  | h => h

/-- One block folded into the running value. -/
def shaBlock (h : List Nat) (block : Octets) : List Nat :=
  let r := (shaConstants.zip (shaSchedule block)).foldl shaRound h
  (h.zip r).map fun p => (p.1 + p.2) % 2 ^ 32

/-- SHA-256 of a message, 32 octets. -/
def sha256 (m : Octets) : Octets :=
  let p := shaPad m
  let h := (List.range (p.length / 64)).foldl (fun h i => shaBlock h ((p.drop (64 * i)).take 64)) shaStart
  h.flatMap (octetsOf 4)

/-- H(key, m) of R407: HMAC-SHA-256. -/
def hmac (key m : Octets) : Octets :=
  let k0 := if 64 < key.length then sha256 key else key
  let k := k0 ++ List.replicate (64 - k0.length) 0x00#8
  sha256 (k.map (· ^^^ 0x5C#8) ++ sha256 (k.map (· ^^^ 0x36#8) ++ m))

end Sys2Proof.Machine
end

