-- ==== Sys2Proof/Machine/LaneCode.lean ====
section
/-! DEFINITION. Machine/LaneCode.lean: chapter 03, the line code of one lane: blocks, scrambler, block lock, `BIP8`, PRBS31
and the control blocks of Tables 03-2, 03-3, 03-9 and 03-12. A 64-bit payload counts its bits in the order carried, so
octet 0 stands in bits 7–0 (R77). -/
namespace Sys2Proof.Machine

/-- The 64 payload bits of 8 octets, octet 0 first. -/
def payloadBits (o : Octets) : Nat := numberOf o.reverse

/-- The 8 octets of 64 payload bits. -/
def payloadOctets (d : Nat) : Octets := (octetsOf 8 d).reverse

/-- Table 03-2: FILL, TRN, LINK, AM and START. -/
def blockFILL : Nat := 0x1E
/-- See `blockFILL`. -/
def blockTRN : Nat := 0x2D
/-- See `blockFILL`. -/
def blockLINK : Nat := 0x33
/-- See `blockFILL`. -/
def blockAM : Nat := 0x4B
/-- See `blockFILL`. -/
def blockSTART : Nat := 0x78

/-- A control block with its type and octets 1–7, before scrambling. -/
def controlBlock (type fields : Nat) : LineBlock := { sync := 2, data := payloadBits (octetsOf 1 type ++ octetsOf 7 fields) }

/-- A data block of 8 octets, before scrambling. -/
def dataBlock (o : Octets) : LineBlock := { sync := 1, data := payloadBits o }

end Sys2Proof.Machine

namespace Sys2Proof
open Sys2Proof.Machine

/-- Whether an unscrambled block is a control block of a type. -/
def LineBlock.isType (b : LineBlock) (type : Nat) : Bool := b.sync == 2 && b.data % 256 == type

/-- Octets 1–7 of a control block as bits [55:0]. -/
def LineBlock.fields (b : LineBlock) : Nat := numberOf ((payloadOctets b.data).drop 1)

/-- R77, R78: whether an unscrambled block is a data block or has a type of Table 03-2. -/
def LineBlock.isValid (b : LineBlock) : Bool :=
  b.sync == 1 || [blockFILL, blockTRN, blockLINK, blockAM, blockSTART].any b.isType

/-- A descrambled block with the other polarity (R74): the three terms of the scrambler invert it once. -/
def LineBlock.invert (b : LineBlock) : LineBlock := { sync := 3 - b.sync, data := 2 ^ 64 - 1 - b.data }

/-- Whether a sync header is valid. -/
def LineBlock.syncOk (b : LineBlock) : Bool := b.sync == 1 || b.sync == 2

/-- The 66 bits of a block in the order carried, the first in bit 0 (49.2.4). -/
def LineBlock.line (b : LineBlock) : Nat := b.sync / 2 + 2 * (b.sync % 2) + 4 * b.data

end Sys2Proof

namespace Sys2Proof.Machine

/-- 32 bits through the scrambler x⁵⁸ + x³⁹ + 1, whose last 58 line bits are `h`, the newest in bit 57 (R77). -/
def scrambleHalf (h d : Nat) : Nat × Nat :=
  let y := (d ^^^ (h >>> 19) ^^^ h) % 2 ^ 32
  (y, (h + (y <<< 58)) >>> 32)

/-- The 64 payload bits of a block scrambled, and the scrambler after it. -/
def scramble (h d : Nat) : Nat × Nat :=
  let a := scrambleHalf h (d % 2 ^ 32)
  let b := scrambleHalf a.2 (d >>> 32)
  (a.1 + (b.1 <<< 32), b.2)

/-- 64 line bits descrambled after the 58 line bits `h`, and the newest 58 line bits. -/
def descramble (h x : Nat) : Nat × Nat :=
  let l := h + (x <<< 58)
  (((l >>> 58) ^^^ (l >>> 19) ^^^ l) % 2 ^ 64, l >>> 64)

/-- The blocks of a run with their payloads descrambled, and the newest 58 line bits. -/
def descrambleRun : Nat → List LineBlock → List LineBlock × Nat
  | h, [] => ([], h)
  | h, b :: rest =>
    let d := descramble h b.data
    let r := descrambleRun d.2 rest
    ({ b with data := d.1 } :: r.1, r.2)

/-- Even parity over payload bits i, i + 8, …, i + 56 (Table 03-3). -/
def bip8 (d : Nat) : Nat := (List.range 8).foldl (fun p i => p ^^^ (d >>> (8 * i)) % 256) 0

/-- The block-lock state machine of 49.2.13: lock, headers tested in the window of 64, invalid ones among them. -/
structure BlockLock where
  locked  : Bool
  tested  : Nat
  invalid : Nat
  deriving DecidableEq, Repr

/-- One sync header: 64 good ones in a row give lock; 16 bad ones in a window of 64 lose it. -/
def BlockLock.see (x : BlockLock) (valid : Bool) : BlockLock :=
  let invalid := if valid then x.invalid else x.invalid + 1
  if (x.locked = false ∧ valid = false) ∨ 16 ≤ invalid then { locked := false, tested := 0, invalid := 0 }
  else if x.tested + 1 = 64 then { locked := true, tested := 0, invalid := 0 }
  else { x with tested := x.tested + 1, invalid := invalid }

/-- n good sync headers in a row. -/
def BlockLock.seeClean (x : BlockLock) (n : Nat) : BlockLock :=
  if x.tested + n < 64 then { x with tested := x.tested + n }
  else { locked := true, tested := (x.tested + n) % 64, invalid := 0 }

/-- 66 line bits as a block. -/
def blockOfLine (l : Nat) : LineBlock := { sync := 2 * (l % 2) + l / 2 % 2, data := (l >>> 2) % 2 ^ 64 }

/-- 22 bits of PRBS31 of ITU-T O.150, sent inverted, after the 31 bits `h`, the newest in bit 30. -/
def prbsPart (h : Nat) : Nat × Nat :=
  let y := (2 ^ 22 - 1) ^^^ ((h ^^^ (h >>> 3)) % 2 ^ 22)
  (y, (h + (y <<< 31)) >>> 22)

/-- 66 bits of PRBS31, and the newest 31 bits. -/
def prbsLine (h : Nat) : Nat × Nat :=
  let a := prbsPart h
  let b := prbsPart a.2
  let c := prbsPart b.2
  (a.1 + (b.1 <<< 22) + (c.1 <<< 44), c.2)

/-- The number of ones among the lowest n bits. -/
def onesOf (n v : Nat) : Nat := ((List.range n).filter fun i => bit v i).length

/-- PRBS31 bit errors of 66 line bits after the 31 bits `h`, and the newest 31 bits. -/
def prbsErrors (h l : Nat) : Nat × Nat :=
  let x := h + (l <<< 31)
  (onesOf 66 ((l ^^^ x ^^^ (x >>> 3) ^^^ (2 ^ 66 - 1)) % 2 ^ 66), x >>> 66)

/-- An AM block of lane n (Table 03-3). -/
def amFields (phys logical rate active count bip : Nat) : Nat :=
  place phys 55 53 + place logical 52 50 + place rate 49 46 + place active 45 38 + place count 37 22 + place bip 21 14

/-- The fields of a TRN block (Table 03-9): `PHYS_LANE`, `MAX_RATE`, `NEXT_RATE`, `COUNTDOWN`, `PRE_REQ` and `POST_REQ`,
`PRE_STAT` and `POST_STAT`, `RX_READY` with `LANE_PASS` and `LANE_FAIL`, and `EYE`. -/
def trnFields (phys maxRate next count pre post preStat postStat verdict eye : Nat) : Nat :=
  place phys 55 53 + place maxRate 52 49 + place next 48 45 + place count 44 38 + place pre 37 36 + place post 35 34
    + place preStat 33 32 + place postStat 31 30 + place verdict 29 27 + place eye 26 19

end Sys2Proof.Machine
end

