-- ==== Sys2Proof/Machine/Link.lean ====
section
/-! DEFINITION. Machine/Link.lean: chapter 03, what the raster link's packets, credits, lanes and states share. -/
namespace Sys2Proof.Machine

/-- Bits [55:8] of a START block as the 6 octets that `HCRC` covers, and octets 1–7 with `HCRC` in place (Table 03-4). -/
def startBlock (type stream seq len : Nat) : Nat :=
  let head := place type 47 44 + place stream 43 43 + place seq 39 24 + place len 23 8
  head * 256 + crcMsb 8 0x07 0 (octetsOf 6 head)

/-- The payload with its zero octets, as R83 carries it before the `LCRC`. -/
def padded (payload : Octets) : Octets :=
  payload ++ List.replicate (8 * divUp (payload.length + 4) 8 - 4 - payload.length) 0

/-- `LCRC` of a packet (R85). -/
def lcrcOf (start : Nat) (payload : Octets) : Nat := crc32 (octetsOf 7 start ++ padded payload)

/-- `PKT_TYPE` of a packet (Table 03-4). -/
def packetType (p : Packet) : Nat := bits p.start 55 52
/-- `STREAM` of a packet. -/
def packetStream (p : Packet) : Nat := bits p.start 51 51
/-- `SEQ` of a packet. -/
def packetSeq (p : Packet) : Nat := bits p.start 47 32
/-- `LEN` of a packet. -/
def packetLen (p : Packet) : Nat := bits p.start 31 16
/-- Word n of the payload. -/
def packetWord (p : Packet) (n : Nat) : Nat := wordOf p.payload n

/-- Whether the `HCRC` of a packet is right. -/
def hcrcOk (p : Packet) : Bool := bits p.start 7 0 == crcMsb 8 0x07 0 (octetsOf 6 (p.start / 256))

/-- Whether the `LCRC` of a packet is right (R85). -/
def lcrcOk (p : Packet) : Bool := p.lcrc == crc32 (octetsOf 7 p.start ++ p.payload ++ p.pad)

/-- R86, Table 03-5: whether `LEN` lies in the range of its type. -/
def lenInRange (type len : Nat) : Bool :=
  match type with
  | 1 => decide (16 ≤ len ∧ len ≤ 4160)
  | 2 => len == 32
  | 3 => decide (1 ≤ len ∧ len ≤ 1440)
  | 4 => decide (16 ≤ len ∧ len ≤ 4112) && len % 8 == 0
  | 8 => len == 16
  | 9 => len == 8
  | 10 => decide (16 ≤ len ∧ len ≤ 64) && len % 8 == 0
  | _ => false

/-- R83, R86: whether a packet is malformed. -/
def malformed (p : Packet) : Bool := p.broken || !lenInRange (packetType p) (packetLen p)

/-- The blocks of a packet before they are scrambled (R83): START, then the data blocks with the `LCRC`, whose octets stand in
the order of the FCS (log entry 45). -/
def packetBlocks (start : Nat) (payload : Octets) : List LineBlock :=
  let o := padded payload ++ (octetsOf 4 (lcrcOf start payload)).reverse
  controlBlock blockSTART start :: (List.range (o.length / 8)).map fun i => dataBlock ((o.drop (8 * i)).take 8)

/-- R83: the first packet among link blocks, or none when there is none whole. A packet whose `HCRC` is wrong or whose `LEN` its
type does not allow is known by its START block alone. -/
def packetAmong : List LineBlock → Option Packet
  | [] => none
  | b :: rest =>
    if b.isType blockSTART then
      let p : Packet := { start := b.fields, payload := [], pad := [], lcrc := 0, broken := false }
      let n := divUp (packetLen p + 4) 8
      let body := rest.take n
      if hcrcOk p = false ∨ lenInRange (packetType p) (packetLen p) = false then some p
      else if body.any fun d => d.sync != 1 then some { p with broken := true }
      else if body.length < n then none
      else
        let o := body.flatMap fun d => payloadOctets d.data
        some { p with payload := o.take (packetLen p), pad := (o.take (8 * n - 4)).drop (packetLen p),
                      lcrc := numberOf (o.drop (8 * n - 4)).reverse }
    else packetAmong rest

/-- Whether a type is sequenced (Table 03-5). -/
def sequenced (type : Nat) : Bool := type == 1 || type == 2 || type == 3 || type == 4

/-- R89: the units of 256 octets that a sequenced packet costs. -/
def packetCost (len : Nat) : Nat := divUp (len + 8) 256

/-- A 16-bit difference read as a signed number. -/
def signed16 (a b : Nat) : Int := signed 16 (a + (65536 - b % 65536))

/-- R90: whether a sender that has spent `spent` may spend `c` more under the cumulative limit. -/
def maySpend (spent c limit : Nat) : Bool := decide (signed 32 (spent + c + (2 ^ 32 - limit % 2 ^ 32)) ≤ 0)

/-- Whether the link carries packets: UP or RESIZE (R99). -/
def State.linkUp (s : State) : Bool := s.regN o4000.STATE == 4 || s.regN o4000.STATE == 5

/-- Replaces the link's state. -/
def State.withLink (s : State) (f : Link → Link) : State := { s with link := f s.link }

/-- Changes the lanes. -/
def State.withLanes (s : State) (f : Lanes → Lanes) : State := s.withLink fun l => { l with lanes := f l.lanes }

/-- Lane n. -/
def State.unit (s : State) (n : Nat) : Lane := s.link.lanes.units.getD n Lane.reset

/-- Changes lane n. -/
def State.withUnit (s : State) (n : Nat) (f : Lane → Lane) : State :=
  s.withLanes fun l => { l with units := l.units.modify n f }

/-- Hands one packet to the lanes. -/
def State.putPacket (s : State) (type seq : Nat) (payload : Octets) : State :=
  let start := startBlock type 0 seq payload.length
  (s.withLanes fun l => { l with txPackets := l.txPackets ++ [packetBlocks start payload] }).emit
    (.packet start payload (lcrcOf start payload))

/-- Units of pool R, or of pool C, that are free for the host now (R89). -/
def State.freeUnits (s : State) (poolC : Bool) : Nat :=
  if poolC then (s.link.advC + (2 ^ 32 - s.link.hostC)) % 2 ^ 32 else (s.link.advR + (2 ^ 32 - s.link.hostR)) % 2 ^ 32

/-- The CREDIT payload of Table 03-8. -/
def State.creditPayload (s : State) : Octets :=
  let l := s.link
  octetsOfWords
    [place ((l.expectSeq + 65535) % 65536) 63 48 + place l.nextTx 47 32 + (if l.delivered then 2 else 0)
      + (if l.heard then 0 else 1), place l.advR 63 32 + place l.advC 31 0]

/-- R92: a CREDIT packet. -/
def State.sendCredit (s : State) : State := if s.linkUp then s.putPacket 8 0 s.creditPayload else s

/-- Sends a sequenced packet now when R90 and the bound of R93 allow it; otherwise it waits. -/
def State.trySend (s : State) (type : Nat) (payload : Octets) : Option State :=
  let c := packetCost payload.length
  let l := s.link
  let ok := if type = 3 then maySpend l.spentC c l.limitC else maySpend l.spentR c l.limitR
  if s.linkUp ∧ ok = true ∧ l.replay.length < 1024 then
    let s := s.withLink fun l =>
      { l with nextTx := (l.nextTx + 1) % 65536,
               lastAck := if l.replay.isEmpty then s.now else l.lastAck,
               replay := l.replay ++ [{ type := type, seq := l.nextTx, payload := payload, sends := 1 }],
               spentC := if type = 3 then (l.spentC + c) % 2 ^ 32 else l.spentC,
               spentR := if type = 3 then l.spentR else (l.spentR + c) % 2 ^ 32 }
    some (s.putPacket type l.nextTx payload)
  else none

/-- Sends the packets that wait, oldest first, as far as credit reaches. -/
def State.flushWaiting : List (Nat × Octets) → State → State
  | [], s => s.withLink fun l => { l with waiting := [] }
  | (type, payload) :: rest, s =>
    match s.trySend type payload with
    | some s => State.flushWaiting rest s
    | none => s.withLink fun l => { l with waiting := (type, payload) :: rest }

/-- Queues a sequenced packet behind those that wait and sends what may be sent. -/
def State.sendPacket (s : State) (type : Nat) (payload : Octets) : State :=
  State.flushWaiting (s.link.waiting ++ [(type, payload)]) s

/-- R94: LINK_REPLAY at most once per 1 ms. -/
def State.noteReplay (s : State) : State := s.raiseLimited 17 0 0 0 17 1000000

/-- A NACK by Table 03-8. -/
def State.nack (s : State) (reason : Nat) : State :=
  (s.incReg o4002.NACKS_SENT).putPacket 9 0 (octetsOfWords [place s.link.expectSeq 63 48 + place reason 47 40])

/-- Bit n of a lane mask set for every lane of a list. -/
def maskOf (lanes : List Nat) : Nat := lanes.foldl (fun m n => setBit m n true) 0

/-- The lanes of a mask, ascending. -/
def lanesOf (mask : Nat) : List Nat := (List.range 8).filter fun n => bit mask n

/-- R98, R102: the largest of 8, 4, 2 and 1 not above n, or 0. -/
def widthFor (n : Nat) : Nat := if 8 ≤ n then 8 else if 4 ≤ n then 4 else if 2 ≤ n then 2 else if 1 ≤ n then 1 else 0

/-- Changes one lane status word (Table 03-18). -/
def State.laneStatus (s : State) (n : Nat) (f : Nat → Nat) : State :=
  s.setRegN (o4001.LANE_STATUS + n) (f (s.regN (o4001.LANE_STATUS + n)))

/-- The lanes of mask a that mask b lacks. -/
def without (a b : Nat) : Nat := maskOf ((lanesOf a).filter fun n => !bit b n)

/-- Shows the lane states of three masks in 4000h and 4001h: a failed lane is neither active nor standby, and an active one not
standby (R73). -/
def State.showLanes (s : State) (active standby failed : Nat) : State :=
  let active := without active failed
  let standby := without standby (active ||| failed)
  let s := ((s.setRegN o4000.ACTIVE_LANES active).setRegN o4000.STANDBY_LANES standby).setRegN o4000.FAILED_LANES failed
  (List.range 8).foldl (fun s n =>
    let logical := if bit active n then ((List.range n).filter fun m => bit active m).length else 0
    s.laneStatus n fun w =>
      bits w 31 8 * 256 + place logical 7 5 + place (bits w 4 4) 4 4 + place (bits failed n n) 3 3
        + place (bits standby n n) 2 2 + place (bits active n n) 1 1 + bits w 0 0) s

/-- What ends when the lanes stop carrying packets: packets and LINK blocks under way, an ORDER, and the tests so far; a training
begins (R96–R99). -/
def State.startTraining (s : State) : State :=
  s.withLink fun l =>
    { l with lanes := { l.lanes with passes := [], nextRate := none, countdown := 0, settling := false, marked := 0, order := none,
                                     txLinks := [], txPackets := [], elastic := 16,
                                     units := l.lanes.units.map fun u => { u with verdict := 0 } },
             replay := l.replay.map fun p => { p with sends := 0 } }

/-- Enters DETECT, step 1 of Table 03-10; the training that starts has passed no rate yet. -/
def State.enterDetect (s : State) : State :=
  let s := (((s.setRegN o4000.STATE 1).setRegN o4000.RATE 0).setRegN o4000.WIDTH 0).incReg o4002.BRINGUPS
  let s := s.showLanes 0 0 0
  let s := (List.range 8).foldl (fun s n => s.laneStatus n fun w => w - place (bits w 27 24) 27 24) s
  s.startTraining.withLanes fun l => { l with units := l.units.map fun u => { u with trained := [] } }

/-- R99: the link is lost and a full bring-up starts. -/
def State.linkDown (s : State) : State := s.enterDetect.raise 16 0 1 17 true

/-- R94, R99: enters RETRAIN. -/
def State.beginRetrain (s : State) : State :=
  (((s.setRegN o4000.STATE 6).setRegN o4000.WIDTH 0).incReg o4002.RETRAINS).startTraining

/-- R94: a retrain that no write has asked for is a fault of Table 03-13. -/
def State.enterRetrain (s : State) : State := s.beginRetrain.raise 20 0 1 17

/-- Resends the held packets of a list, oldest first (R93). -/
def State.resend : List Sent → State → State
  | [], s => s
  | p :: rest, s => State.resend rest ((s.putPacket p.type p.seq p.payload).incReg o4002.REPLAYED)

/-- R93, R94: go-back-N from the first held packet that `pick` admits; a fifth send of one packet asks for a retrain. -/
def State.replayFrom (pick : Sent → Bool) (s : State) : State :=
  let due := s.link.replay.dropWhile fun p => !pick p
  if due.isEmpty then s
  else
    let s := State.resend due s
    let s := s.withLink fun l =>
      { l with replay := (l.replay.takeWhile fun p => !pick p) ++ due.map fun p => { p with sends := p.sends + 1 } }
    let s := s.noteReplay
    if s.regN o4000.STATE = 4 ∧ (due.any fun p => decide (4 ≤ p.sends)) = true then s.enterRetrain else s

/-- A LINK block sent in 4 columns (R102). -/
def State.sendLink (s : State) (op mask target : Nat) : State :=
  let block := place op 55 48 + place mask 47 40 + place target 39 24
  (s.withLanes fun l => { l with txLinks := l.txLinks ++ [(block, 4)] }).emit (.link block)

/-- R102: an ORDER for a new mask, two AMs after the last one received (log entry 46). -/
def State.sendOrder (s : State) (mask tries : Nat) : State :=
  let target := (s.link.lanes.amCount + 2) % 65536
  let s := (s.setRegN o4000.STATE 5).withLink fun l =>
    { l with lanes := { l.lanes with order := some { mask := mask, target := target, tries := tries, acked := false } } }
  s.sendLink 2 mask target

/-- R101, R102: lanes fail in UP or RESIZE: without an active or standby lane the link is lost; an active lane, or one of the
ORDER under way, is replaced by an ORDER (log entry 46). -/
def State.failLanes (s : State) (mask : Nat) : State :=
  let active := s.regN o4000.ACTIVE_LANES
  let standby := s.regN o4000.STANDBY_LANES
  let hit := (lanesOf mask).filter fun n => bit active n || bit standby n
  if s.linkUp = false ∨ hit.isEmpty then s
  else
    let s := s.addReg o4002.LANE_FAILURES hit.length
    let s := s.showLanes active standby (s.regN o4000.FAILED_LANES ||| maskOf hit)
    let left := (List.range 8).filter fun n => (bit active n || bit standby n) && !hit.contains n
    let new := maskOf (left.take (min (widthFor left.length) (s.regN o4000.WIDTH)))
    if left.isEmpty then s.linkDown
    else if hit.any fun n => bit active n then (s.sendOrder new 1).raise 21 (256 * hit.headD 0 + new) 1 17
    else if hit.any fun n => s.link.lanes.order.any fun o => bit o.mask n then s.sendOrder new 1
    else s

/-- R104: widens through an ORDER when standby and active lanes allow it. -/
def State.widen (s : State) : State :=
  let all := (List.range 8).filter fun n => bit (s.regN o4000.ACTIVE_LANES) n || bit (s.regN o4000.STANDBY_LANES) n
  let w := widthFor all.length
  if s.regN o4000.STATE = 4 ∧ s.flag o4000.AUTO_WIDEN = true ∧ s.regN o4000.WIDTH < w then s.sendOrder (maskOf (all.take w)) 1
  else s

/-- R98: payload of a lane per rate index, as in Table 03-1, in tenths of Mbit/s. -/
def ratePayload (k : Nat) : Nat := [12121, 30303, 60606, 100000, 125000, 250000].getD k 0

/-- R98: the rate and width chosen from the lanes that passed at each index. -/
def chooseRate (passes : List (Nat × Nat)) : Option (Nat × Nat) :=
  (passes.foldl (fun (best : Nat × Option (Nat × Nat)) p =>
    let w := widthFor (lanesOf p.2).length
    let cap := w * ratePayload p.1
    if 0 < cap ∧ best.1 ≤ cap then (cap, some (p.1, w)) else best) (0, none)).2

/-- R98: enters UP at a rate and width with the lanes that passed it, and sends the first CREDIT. -/
def State.enterUp (s : State) (rate width passMask : Nat) (announce : Bool) : State :=
  let lanes := lanesOf passMask
  let active := maskOf (lanes.take width)
  let s := ((s.setRegN o4000.STATE 4).setRegN o4000.RATE rate).setRegN o4000.WIDTH width
  let s := s.showLanes active passMask (without (s.regN o4000.LANE_MASK) passMask)
  let s := s.withLanes fun l =>
    { l with nextRate := none, countdown := 0, settling := false, order := none, stripe := active,
             units := l.units.map fun u => { u with bip := [], badAms := 0 } }
  let s := s.sendCredit
  let s := State.flushWaiting s.link.waiting s
  if announce then s.raise 16 (256 * rate + width) 0 17 else s

/-- R89: a packet of the host spends units of a pool. -/
def State.hostSpends (s : State) (poolC : Bool) (c : Nat) : State :=
  s.withLink fun l =>
    if poolC then { l with hostC := (l.hostC + c) % 2 ^ 32 } else { l with hostR := (l.hostR + c) % 2 ^ 32 }

/-- R89: units come free, so the advertised limit rises; the next CREDIT says so (R92). -/
def State.freeCredit (s : State) (poolC : Bool) (c : Nat) : State :=
  s.withLink fun l =>
    if poolC then { l with advC := (l.advC + c) % 2 ^ 32 } else { l with advR := (l.advR + c) % 2 ^ 32 }

/-- The next `SEQ` has been delivered. -/
def State.advanceSeq (s : State) : State :=
  s.withLink fun l => { l with expectSeq := (l.expectSeq + 1) % 65536, delivered := true, gapNack := none }

/-- R93: the receive side for one packet; `handle` takes a good unsequenced packet, `deliver` the next one in order. -/
def State.onPacket (handle deliver : Packet → State → State) (p : Packet) (s : State) : State :=
  if s.linkUp = false then s
  else if hcrcOk p = false then ((s.incReg o4002.HCRC_ERRORS).nack 2).noteReplay
  else if malformed p then ((s.incReg o4002.PROTOCOL_ERRORS).nack 5).raise 18 5 0 17
  else if lcrcOk p = false then ((s.incReg o4002.LCRC_ERRORS).nack 1).noteReplay
  else if sequenced (packetType p) = false then handle p s
  else
    let d := signed16 (packetSeq p) s.link.expectSeq
    let c := packetCost (packetLen p)
    let poolC := packetType p == 3
    if d < 0 then s.sendCredit
    else if 0 < d then
      let s := s.incReg o4002.SEQ_GAPS
      let again := match s.link.gapNack with
        | some (q, at_) => q != s.link.expectSeq || decide (s.regN o4000.REPLAY_TIMEOUT_US * 1000 ≤ s.now - at_)
        | none => true
      if again then
        ((s.nack 3).withLink fun l => { l with gapNack := some (l.expectSeq, s.now) }).noteReplay
      else s
    else if s.freeUnits poolC < c then ((s.incReg o4002.PROTOCOL_ERRORS).nack 4).raise 18 4 0 17
    else (deliver p (s.hostSpends poolC c).advanceSeq).sendCredit

/-- Whether a packet is one that RX_PACKET_BAD stands for: a bad CRC, a malformed layout or a credit overrun. -/
def State.isBad (s : State) (p : Packet) : Bool :=
  !hcrcOk p || malformed p || !lcrcOk p ||
    (sequenced (packetType p) && packetSeq p == s.link.expectSeq && decide (s.freeUnits (packetType p == 3) < packetCost (packetLen p)))

/-- A link command has no effect while the link stands still: after a sag, by R509. -/
def State.runLink (s : State) (t : Nat) (f : State → State) : Host.Outcome State Fault Refusal :=
  s.run t fun s => if s.mode = 7 ∧ s.power.holding ≠ .afterFault then s else f s

/-- R95: sequence numbers, replay buffer and credit counts start afresh. -/
def State.resetLink (s : State) : State :=
  s.withLink fun l =>
    { Link.reset with lanes := l.lanes, advR := s.freeUnits false, advC := s.freeUnits true, echoId := l.echoId }

/-- R509: after a fault at breach level 3 the link runs at rate index 0 on lane 0. -/
def State.rateLimit (s : State) : Nat := if s.mode = 7 then 0 else s.regN o4000.MAX_RATE

/-- The lanes the chip may use. -/
def State.laneLimit (s : State) : Nat := if s.mode = 7 then 1 else s.regN o4000.LANE_MASK

/-- A packet of one kind passes the receive side of R93; a packet of another kind is none of this command's. -/
def State.receive (isKind : Packet → Bool) (deliver : Packet → State → State) (p : Packet) (s : State) : State :=
  if isKind p then State.onPacket deliver deliver p s else s

end Sys2Proof.Machine
end

