-- ==== Sys2Proof/Machine/Network.lean ====
section
/-! DEFINITION. Machine/Network.lean: chapter 14, the ports, the switch and the timestamps, as the commands share them. -/
namespace Sys2Proof.Machine

/-- Whether SGMII port n (1 or 2) is up (R374). -/
def State.portUp (s : State) (n : Nat) : Bool := (n == 1 || n == 2) && s.flag (o7200.LINK_UP + (n - 1)) && !s.islandLost 9

/-- Network traffic passes: never after a sag or a fault at breach level 3 (Table 19-3), nor with region 22 lost. -/
def State.netOn (s : State) : Bool := s.mode != 7 && !s.regionLost 22 && !s.islandLost 9

/-- R375, R378: the ports a frame to a MAC address leaves by, except the one it came by. -/
def State.egress (s : State) (dst inPort : Nat) (passBlock : Bool) : List Nat :=
  let open_ := [1, 2].filter fun p => p != inPort && (passBlock || !(s.net.blocked && p == 2))
  if bit dst 40 then open_
  else
    match s.net.table.find? fun a => a.mac == dst with
    | some a => open_.filter fun p => p == a.port
    | none => open_

/-- A timestamp record of Table 14-2. -/
def State.stampWords (s : State) (time : Int) (kind port frameId msgType : Nat) : List Nat :=
  [(time / 65536).toNat % 2 ^ 64,
   place (time % 65536).toNat 63 48 + place kind 47 40 + place port 39 38 + (if s.timeValid then 2 ^ 37 else 0)
     + place frameId 31 16 + place msgType 15 12]

/-- R383: a receive timestamp goes onto ring 11. -/
def State.stampReceive (s : State) (time : Int) (kind port frameId msgType : Nat) : State :=
  s.ringPut 11 (s.stampWords time kind port frameId msgType)

/-- R382: the queue of transmit timestamps empties onto ring 10 while that has room. -/
def State.drainStamps : List (Nat × Nat) → State → State
  | [], s => { s with time := { s.time with txQueue := [] } }
  | (a, b) :: rest, s =>
    if s.ringEntries 10 < ringSlots 10 ∧ s.regN (o7401.RING_DESC + 10) ≠ 0 then State.drainStamps rest (s.ringPut 10 [a, b])
    else { s with time := { s.time with txQueue := (a, b) :: rest } }

/-- R382: a transmit timestamp of port 0; the Bool says whether it was kept. -/
def State.stampSend (s : State) (time : Int) (kind frameId msgType : Nat) : Bool × State :=
  if 16 ≤ s.time.txQueue.length then
    (false, (s.incReg o7201.TX_TS_SPILLWAY).raiseLimited 99 0 0 0 22 1000000000)
  else
    let w := s.stampWords time kind 0 frameId msgType
    (true, State.drainStamps (s.time.txQueue ++ [(w.getD 0 0, w.getD 1 0)]) s)

/-- R380: local time of a received frame's timestamp point in 2⁻¹⁶ ns, with `PHY_RX_LATENCY_NS` added. -/
def State.receivedAt (s : State) (t port : Nat) : Int :=
  s.localFine t + 65536 * s.reg (o7002.PHY_RX_LATENCY_NS + (port - 1))

/-- R380: local time of a sent frame's timestamp point in 2⁻¹⁶ ns, with `PHY_TX_LATENCY_NS` added. -/
def State.sentAt (s : State) (t port : Nat) : Int :=
  s.localFine t + 65536 * s.reg (o7002.PHY_TX_LATENCY_NS + (port - 1))

/-! ### Egress -/

/-- The egress of an SGMII port. -/
def State.egressOf (s : State) (port : Nat) : Egress := if port = 1 then s.net.port1 else s.net.port2

/-- Replaces the egress of an SGMII port. -/
def State.setEgress (s : State) (port : Nat) (e : Egress) : State :=
  if port = 1 then { s with net := { s.net with port1 := e } } else { s with net := { s.net with port2 := e } }

/-- The time in ns that frames take on the wire at 1 Gbit/s, with FCS, preamble and gap (R376). -/
def wireTime (l : List Waiting) : Nat := l.foldl (fun n w => n + 8 * (w.data.length + 24)) 0

/-- A frame starts on the wire of a port at a time, with its timestamp when one is asked for (R376, R381). -/
def State.startFrameOn (s : State) (port at_ : Nat) (high : Bool) (w : Waiting) : State :=
  let s := s.setEgress port { s.egressOf port with wire := at_ + wireTime [w] }
  let s := (s.incReg (o7201.FRAMES_OUT + (port - 1))).emit (.frame port high w.data)
  match w.stamp with
  | some (kind, frameId, msgType) => (s.stampSend (s.sentAt at_ port) kind frameId msgType).2
  | none => s

/-- R376: the frames of a port that have had the wire by now leave, the high queue first; a frame on the wire completes. -/
def State.drainPort : Nat → Nat → State → State
  | 0, _, s => s
  | fuel + 1, port, s =>
    let e := s.egressOf port
    if s.now < e.wire then s
    else
      match e.high, e.low with
      | w :: rest, _ => State.drainPort fuel port ((s.setEgress port { e with high := rest }).startFrameOn port e.wire true w)
      | [], w :: rest => State.drainPort fuel port ((s.setEgress port { e with low := rest }).startFrameOn port e.wire false w)
      | [], [] => s

/-- The queues of a port, brought up to now. -/
def State.servePort (s : State) (port : Nat) : State :=
  let e := s.egressOf port
  State.drainPort (e.high.length + e.low.length) port s

/-- When a frame of the high queue that is put on a port now starts on the wire: after the frame there and those before it. -/
def State.departs (s : State) (port : Nat) : Nat :=
  let e := (s.servePort port).egressOf port
  if e.wire ≤ s.now then s.now else e.wire + wireTime e.high

/-- Puts a frame on one SGMII port (R376), with the timestamp that its sending takes. -/
def State.putStamped (s : State) (high : Bool) (w : Waiting) (port : Nat) : State :=
  if s.portUp port then
    let s := s.servePort port
    let e := s.egressOf port
    if e.wire ≤ s.now then s.startFrameOn port s.now high w
    else if high then s.setEgress port { e with high := e.high ++ [w] } else s.setEgress port { e with low := e.low ++ [w] }
  else s

/-- Puts a frame without a timestamp on one SGMII port. -/
def State.putFrame (s : State) (high : Bool) (data : Octets) (port : Nat) : State :=
  s.putStamped high { data := data, stamp := none } port

/-- A port changes state (R374); frames that wait on a port that goes down are lost (log entry 88). -/
def State.setPort (s : State) (port : Nat) (up : Bool) : State :=
  let k := o7200.LINK_UP + (port - 1)
  if s.flag k = up then s
  else
    let s := s.setFlag k up
    let s := if up then s
      else (s.incReg (o7201.LINK_DOWNS + (port - 1))).setEgress port { s.egressOf port with high := [], low := [] }
    s.raise 96 (port - 1) 0 22 (!up)

/-- Octets of a MAC address. -/
def macOctets (m : Nat) : Octets := octetsOf 6 m

/-- An Ethernet frame of the chip itself, by the queue of R376; the first port that it leaves by takes its timestamp. -/
def State.sendFrame (s : State) (high : Bool) (dst : Nat) (vlan : Octets) (etherType : Nat) (data : Octets)
    (stamp : Option (Nat × Nat × Nat)) : State :=
  let frame := macOctets dst ++ macOctets (Config.mac % 2 ^ 48) ++ vlan ++ octetsOf 2 etherType ++ data
  let ports := s.egress dst 0 false
  let first := ports.find? fun p => s.portUp p
  if s.netOn then
    ports.foldl (fun s p => s.putStamped high { data := frame, stamp := if first = some p then stamp else none } p) s
  else s

/-! ### Triggers and captures -/

/-- The capture record of Table 14-6 at island-11 time t. -/
def State.captureWords (s : State) (t seq : Nat) : List Nat :=
  let fine := s.localFine t
  [(fine / 65536).toNat % 2 ^ 64,
   place (fine % 65536).toNat 63 48 + place (s.regN o6400.COUNT) 47 0,
   place seq 63 48 + place (s.regN (o6400.COUNT + 256)) 47 0]

/-- R400: source n (TRIG0–3, then triggers 0–5) captures at island-11 time t. -/
def State.capture (s : State) (n t : Nat) : State :=
  let c := s.time.captures.getD n (0, false)
  let seq := (c.1 + 1) % 65536
  let s := if c.2 then s.incReg o7004.CAPTURE_SPILLWAY else s
  let s := { s with time := { s.time with captures := s.time.captures.set n (seq, true),
                                          fractions := s.time.fractions.set n ((s.latchAt 0 t).frac, (s.latchAt 1 t).frac) } }
  s.setBlob (o7004.CAPTURE + n) (octetsOfWords (s.captureWords t seq))

/-- R400: a reading of a capture marks it read. -/
def State.captureRead (s : State) (n : Nat) : State :=
  let c := s.time.captures.getD n (0, false)
  { s with time := { s.time with captures := s.time.captures.set n (c.1, false) } }

/-- R398, R399: a trigger's time and control word are written, and an armed time already past is late. -/
def State.armTrigger (s : State) (n time ctrl : Nat) : State :=
  let s := (s.setRegN (o7003.TRIGGER_TIME + n) time).setRegN (o7003.TRIGGER_CTRL + n) ctrl
  let late := s.time.late.filter fun m => m != n
  let late := if bit ctrl 31 && decide (time < s.localTime s.now) then n :: late else late
  { s with time := { s.time with late := late } }

/-- R388: the rate changes; B and τ_B are loaded from the same tick, so local time is continuous. -/
def State.setRate (s : State) (rate : Int) : State :=
  let u := s.tau s.now
  let b := s.localOfTau u
  let s := { s with time := { s.time with base := b, tauBase := u.toNat } }
  s.setReg o7000.RATE (clamp (-549755814) 549755814 rate)

/-- R388, R399: the clock steps; a trigger that a forward step passes is late. -/
def State.stepClock (s : State) (by_ : Int) : State :=
  let old := s.localTime s.now
  let s := { s with time := { s.time with base := s.time.base + by_ } }
  let new := s.localTime s.now
  let passed := (List.range 8).filter fun n =>
    bit (s.regN (o7003.TRIGGER_CTRL + n)) 31 && decide (old < s.regN (o7003.TRIGGER_TIME + n)) &&
      decide (s.regN (o7003.TRIGGER_TIME + n) ≤ new)
  { (s.incReg o7000.STEPS) with time := { s.time with late := s.time.late ++ passed } }

end Sys2Proof.Machine
end

