-- ==== Sys2Proof/Machine/Window.lean ====
section
/-! DEFINITION. Machine/Window.lean: chapter 18, the host window: its register page, mailboxes, ring indexes, locks and
shared memory. An access answers an abort code (0 when accepted) and a value. -/
namespace Sys2Proof.Machine

/-- The octets of the host window (R481). -/
def windowSize : Nat := 0x10000000

/-- R472: clears flags of word w (0 or 1); bits in `met` were raised within 2 ns and stay set. -/
def State.clearFlags (s : State) (w v met : Nat) : State :=
  let k := o2801.FLAGS + w
  (List.range 64).foldl (fun s b => if bit v b && !bit met b then s.setRegBit k b false else s) s

/-- The notice in a channel's slot. -/
def State.noticeIn (s : State) (ch : Nat) : Nat :=
  match s.events.notices.find? fun p => p.1 == ch with
  | some p => p.2
  | none => 2 ^ 64 - 1

/-- R483: a post of a notice. -/
def State.postNotice (s : State) (m ch v : Nat) : Nat × State :=
  let ptr := bits v 63 16
  if m ≠ s.mbSender ch then (0x02001301, s)
  else if ptr < 0x10000 ∨ 0xFFFFFF8 < ptr then (0x04001302, s)
  else if s.mbFull ch then (0x06001301, s.incReg o7400.FULL_REFUSALS)
  else
    let posts := (bits (s.mbStatus ch) 31 0 + 1) % 2 ^ 32
    let s := s.setRegN (o7400.MB_STATUS + ch) (place m 63 60 + place (s.epoch m) 59 52 + 2 ^ 51 + posts)
    let s := { s with events := { s.events with
      notices := (ch, v) :: s.events.notices.filter fun p => p.1 != ch } }
    (0, s.ringDoorbell (s.mbReceiver ch) ch)

/-- R484, R487: a read of `MB_NOTICE`. -/
def State.takeNotice (s : State) (m ch : Nat) : Nat × Nat × State :=
  if m ≠ s.mbReceiver ch then (0x02001301, 0, s)
  else if s.mbFull ch = false then (0, 2 ^ 64 - 1, s)
  else
    let v := s.noticeIn ch
    let s := if bit (s.mbStatus ch) 50 then s.incReg o7400.ORPHANS else s
    let s := s.setRegN (o7400.MB_STATUS + ch) (setBit (setBit (s.mbStatus ch) 51 false) 50 false)
    let s := { s with events := { s.events with notices := s.events.notices.filter fun p => p.1 != ch } }
    let more := (List.range 32).any fun c => s.mbFull c && s.mbReceiver c == m
    -- the internal interrupt of a pair stands while a notice waits for it (log entry 106)
    (0, v, match pairOf m with
      | some p => if more then s else s.setPair p { s.pair p with doorbell := false }
      | none => s)

/-- R489, R492: a write of `RING_HEAD`. -/
def State.writeHead (s : State) (m r v : Nat) : Nat × State :=
  let v := v % 2 ^ 32
  if m ≠ ringProducer r then (0x02001302, s)
  else if ringSlots r < (v + (2 ^ 32 - s.ringTail r)) % 2 ^ 32 then (0x06001302, s)
  else
    let empty := decide (s.ringEntries r = 0)
    let s := { s with events := { s.events with heads := s.events.heads.set r v } }
    (0, if ringConsumer r = 1 ∧ empty ∧ s.ringEntries r ≠ 0 then s.raise 118 r 0 23 else s)

/-- R489, R492, R382: a write of `RING_TAIL`. -/
def State.writeTail (s : State) (m r v : Nat) : Nat × State :=
  let v := v % 2 ^ 32
  if m ≠ ringConsumer r then (0x02001302, s)
  else if s.ringEntries r < (v + (2 ^ 32 - s.ringTail r)) % 2 ^ 32 then (0x06001302, s)
  else
    let s := { s with events := { s.events with tails := s.events.tails.set r v } }
    let s := if r = 10 then State.drainStamps s.time.txQueue s else s
    (0, if ringConsumer r = 1 ∧ s.ringEntries r ≠ 0 then s.raise 118 r 0 23 else s)

/-- Whether lock l is held, and by whom. -/
def State.lockOwner (s : State) (l : Nat) : Option Nat :=
  let w := s.regN (o7402.LOCK_STATE + l)
  if bit w 15 then some (bits w 14 11) else none

/-- The result word of Table 18-9. -/
def State.lockResult (s : State) (l result : Nat) : Nat :=
  let w := s.regN (o7402.LOCK_STATE + l)
  place result 63 56 + place (bits w 14 11) 55 52 + place (bits w 10 3) 51 44

/-- R494: a read of `LOCK`. -/
def State.readLock (s : State) (m l : Nat) : Nat × State :=
  match s.lockOwner l with
  | none =>
    let s := s.setRegN (o7402.LOCK_STATE + l) (2 ^ 15 + place m 14 11 + place (s.epoch m) 10 3)
    (s.lockResult l 1, s)
  | some o => (s.lockResult l (if o = m then 3 else 2), s)

/-- R494: a write of `LOCK`. -/
def State.writeLock (s : State) (m l : Nat) : Nat × State :=
  if s.lockOwner l = some m then (0, s.setRegN (o7402.LOCK_STATE + l) 0) else (0x06001303, s)

/-- `MB_PENDING` and `RING_PENDING` of a reader (Table 18-4). -/
def State.pendingMask (s : State) (m : Nat) (rings : Bool) : Nat :=
  if rings then (List.range 16).foldl (fun w r => setBit w r (ringConsumer r == m && s.ringEntries r != 0)) 0
  else (List.range 32).foldl (fun w c => setBit w c (s.mbFull c && s.mbReceiver c == m)) 0

/-- A read of one register of the page by a master. -/
def State.readRegister (s : State) (m a : Nat) : Nat × Nat × State :=
  if a = 0x0000 then (0, 0x4F524E3551200001, s)
  else if a = 0x0008 then (0, s.regN o7400.EPOCHS, s)
  else if a = 0x0010 then (0, m, s)
  else if a = 0x0020 then (0, s.pendingMask m false, s)
  else if a = 0x0028 then (0, s.pendingMask m true, s)
  else if 0x0100 ≤ a ∧ a < 0x0300 then
    let ch := (a - 0x0100) / 16
    if a % 16 = 0 then s.takeNotice m ch else (0, s.mbStatus ch, s)
  else if 0x0400 ≤ a ∧ a < 0x0500 then
    let r := (a - 0x0400) / 16
    (0, if a % 16 = 0 then s.ringHead r else s.ringTail r, s)
  else if 0x0600 ≤ a ∧ a < 0x0700 then
    let (v, s) := s.readLock m ((a - 0x0600) / 8)
    (0, v, s)
  else if a = 0x0800 ∨ a = 0x0808 then (0, s.regN (o2801.FLAGS + (a - 0x0800) / 8), s)
  else if a = 0x0810 ∨ a = 0x0818 then (0x02001302, 0, s)
  else if 0x0C00 ≤ a ∧ a < 0x1000 then (0, s.regN (o2802.COUNT + (a - 0x0C00) / 8), s)
  else (0, 0, s)

/-- A write of one register of the page by a master. -/
def State.writeRegister (s : State) (m a v : Nat) : Nat × State :=
  if 0x0100 ≤ a ∧ a < 0x0300 ∧ a % 16 = 0 then s.postNotice m ((a - 0x0100) / 16) v
  else if 0x0400 ≤ a ∧ a < 0x0500 then
    let r := (a - 0x0400) / 16
    if a % 16 = 0 then s.writeHead m r v else s.writeTail m r v
  else if 0x0600 ≤ a ∧ a < 0x0700 then s.writeLock m ((a - 0x0600) / 8)
  else if a = 0x0810 ∨ a = 0x0818 then (0, s.clearFlags ((a - 0x0810) / 8) v 0)
  else (0x02001302, s)

/-- R481: a read of the host window by a master: abort code, octets. -/
def State.windowRead (s : State) (m a n : Nat) : Nat × Octets × State :=
  if m = 2 then (0x02000001, [], s)
  else if windowSize < a + n then (0x04000001, [], s)
  else if a < 0x10000 then
    if n ≠ 8 ∨ a % 8 ≠ 0 then (0x04001301, [], s)
    else
      let (code, v, s) := s.readRegister m a
      (code, octetsOf 8 v, s)
  else (0, s.load a n, s)

/-- R481: a write to the host window by a master. -/
def State.windowWrite (s : State) (m a : Nat) (data : Octets) : Nat × State :=
  if m = 2 then (0x02000001, s)
  else if windowSize < a + data.length then (0x04000001, s)
  else if a < 0x10000 then
    if data.length ≠ 8 ∨ a % 8 ≠ 0 then (0x04001301, s) else s.writeRegister m a (numberOf data)
  else (0, s.store a data)

/-- A consumer of the chip takes the next good slot of a host-produced ring (R489, R491): its record words. -/
def State.takeSlot : Nat → Nat → Nat → State → Option (List Nat) × State
  | 0, _, _, s => (none, s)
  | fuel + 1, r, words, s =>
    if s.ringEntries r = 0 then (none, s)
    else
      let tail := s.ringTail r
      let at_ := s.slotOffset r tail
      let h := numberOf (s.load at_ 8)
      let s := { s with events := { s.events with tails := s.events.tails.set r ((tail + 1) % 2 ^ 32) } }
      if bits h 63 32 = tail ∧ bits h 23 16 = words then
        (some ((List.range words).map fun i => numberOf (s.load (at_ + 8 + 8 * i) 8)), s)
      else State.takeSlot fuel r words (s.incReg (o7401.RING_SPILLWAY + r))

/-- The answer to a master whose access does not come by a MEM packet. -/
def State.answerTo (s : State) (m : Nat) (code v : Nat) : State := s.emit (.answer m code v)

/-- A MEM packet's answer (Table 03-7): DATA or ERROR, in pool R. -/
def State.memAnswer (s : State) (op tag addr len code : Nat) (data : Octets) : State :=
  s.sendPacket 4 (octetsOfWords [place op 63 56 + place tag 55 48 + place addr 47 0, place len 63 32 + place code 31 0] ++ data)

/-- R87: a MEM packet, executed in `SEQ` order; its units come free at once. -/
def State.memPacket (p : Packet) (s : State) : State :=
  let w0 := packetWord p 0
  let op := bits w0 63 56
  let tag := bits w0 55 48
  let addr := bits w0 47 0
  let len := bits (packetWord p 1) 63 32
  let data := p.payload.drop 16
  let error (s : State) (code : Nat) : State := s.memAnswer 5 tag addr len code []
  let s :=
    if s.mode = 7 then error s 0x05000000
    else if (op ≠ 1 ∧ op ≠ 2) ∨ addr % 8 ≠ 0 ∨ len < 8 ∨ 4096 < len ∨ len % 8 ≠ 0 then error s 0x04000001
    else if (op = 1 ∧ data.length ≠ len) ∨ (op = 2 ∧ data.isEmpty = false) then error s 0x04000002
    else if op = 1 then
      let (code, s) := s.windowWrite 1 addr data
      if code = 0 then s else error s code
    else
      let (code, o, s) := s.windowRead 1 addr len
      if code = 0 then s.memAnswer 3 tag addr len 0 o else error s code
  s.freeCredit false (packetCost (packetLen p))

end Sys2Proof.Machine
end

