-- ==== Sys2Proof/Machine/Aqlet.lean ====
section
/-! DEFINITION. Machine/Aqlet.lean: chapter 15, Aqlet frames, sessions, tags, responses and the audit of requests. -/
namespace Sys2Proof.Machine

/-- A request as its header spells it (Table 15-1). -/
structure Req where
  w0      : Nat
  w1      : Nat
  body    : Octets
  tag     : Octets
  signed  : Octets
  deriving DecidableEq, Repr

/-- `OP` of a request. -/
def Req.op (r : Req) : Nat := bits r.w0 55 48
/-- `REQ_ID` of a request. -/
def Req.reqId (r : Req) : Nat := bits r.w0 31 16
/-- `BODY_LEN` of a request. -/
def Req.bodyLen (r : Req) : Nat := bits r.w0 15 0
/-- `TS_REQUEST` of a request. -/
def Req.ts (r : Req) : Bool := bit r.w0 46
/-- `LAST` of a request. -/
def Req.last (r : Req) : Bool := bit r.w0 44
/-- `SESSION` of a request. -/
def Req.session (r : Req) : Nat := bits r.w1 63 32
/-- `SEQ` of a request. -/
def Req.seq (r : Req) : Nat := bits r.w1 31 0
/-- Word n of the body. -/
def Req.word (r : Req) (n : Nat) : Nat := wordOf r.body n
/-- `INDEX` and `SUB` of a request as a subindex number. -/
def Req.key (r : Req) : Nat := bits (r.word 0) 63 48 * 256 + bits (r.word 0) 47 40

/-- Reads a frame (R405). -/
def readFrame (o : Octets) : Req :=
  let n := bits (wordOf o 0) 15 0
  { w0 := wordOf o 0, w1 := wordOf o 1, body := (o.drop 16).take n, tag := (o.drop (16 + n)).take 8,
    signed := o.take (16 + n) }

/-- The operations a host may request (Table 15-2). -/
def isRequestOp (op : Nat) : Bool := (1 ≤ op && op ≤ 8) || (0x10 ≤ op && op ≤ 0x12)

/-- Whether octets are all zero. -/
def allZero (o : Octets) : Bool := o.all fun b => b == 0

/-- Whether the body has the layout of its operation: its length and its reserved bits (Table 15-2). -/
def Req.layoutOk (r : Req) : Bool :=
  let n := r.bodyLen
  let w := r.word 0
  let valueLen := bits w 15 0
  let isValue := decide (valueLen ≤ 1400) && n == 8 + 8 * divUp valueLen 8 && bits w 23 16 == 0
    && allZero (r.body.drop (8 + valueLen))
  match r.op with
  | 0x01 => n == 8 && bits w 39 0 == 0
  | 0x02 => isValue
  | 0x03 => n == 16 && bits w 39 0 == 0
  | 0x04 => decide (16 ≤ n) && bits w 39 0 == 0
  | 0x05 => isValue
  | 0x06 => n == 8 && bits w 55 32 == 0
  | 0x07 => n == 16
  | 0x08 => n == 16 && bits w 54 32 == 0
  | 0x10 => n == 24 && bits w 61 0 == 0 && r.session == 0
  | 0x11 => n == 32
  | 0x12 => n == 0
  | _ => false

/-- Check 1 of Table 15-3: `VERSION`, `OP`, lengths and body layout; 0 when it passes. -/
def Req.check1 (r : Req) (rq : Request) : Nat :=
  let len := rq.frame.length
  let n := r.bodyLen
  if 16 ≤ len ∧ bits r.w0 63 60 ≠ 1 then 0x01000003
  else if 16 ≤ len ∧ (isRequestOp r.op = false ∨ bit r.w0 47 = true) then 0x01000001
  else if len < 24 ∨ 1416 < n ∨ n % 8 ≠ 0 ∨ len < 24 + n ∨ (rq.path = .raster ∧ len ≠ 24 + n) then 0x01000002
  else if bits r.w0 59 56 ≠ 0 ∨ bits r.w0 43 32 ≠ 0 ∨ bit r.w0 45 = true then 0x01000002
  else if r.layoutOk then 0 else 0x01000002

/-- The master identity stamped on a path (R404). -/
def Path.master : Path → Nat
  | .raster => 1
  | .network => 2

/-- The master identity of a request. -/
def masterOf (rq : Request) : Nat := match rq.path with
  | .raster => 1
  | .network => 2

/-- An open or half-open session by its identifier, bound to the path and source of a request (R409). -/
def State.sessionFor (s : State) (id : Nat) (rq : Request) : Option Session :=
  s.aqlet.sessions.find? fun x => x.id == id && x.path == rq.path && x.src == rq.src

/-- A session by its identifier. -/
def State.sessionById (s : State) (id : Nat) : Option Session := s.aqlet.sessions.find? fun x => x.id == id

/-- Changes one session. -/
def State.mapSession (s : State) (id : Nat) (f : Session → Session) : State :=
  { s with aqlet := { s.aqlet with sessions := s.aqlet.sessions.map fun x => if x.id == id then f x else x } }

/-- `SESSIONS_OPEN` follows the sessions. -/
def State.countSessions (s : State) : State :=
  s.setRegN o2100.SESSIONS_OPEN (s.aqlet.sessions.filter fun x => x.isOpen).length

/-- R408: the first 8 octets of the HMAC under a session key. -/
def tagOf (key signedPart : Octets) : Octets := (hmac key signedPart).take 8

/-- A response or NOTIFY frame: header, body and `TAG`; an empty key gives the zero `TAG` (R405, R408). -/
def frameOf (w0 w1 : Nat) (body key : Octets) : Octets :=
  let signedPart := octetsOf 8 w0 ++ octetsOf 8 w1 ++ body
  signedPart ++ (if key.isEmpty then List.replicate 8 0 else tagOf key signedPart)

/-- Sends an Aqlet frame to its requester by its path (R404). -/
def State.sendAqlet (s : State) (path : Path) (dst : Nat) (vlan frame : Octets) (stamp : Option (Nat × Nat × Nat)) : State :=
  match path with
  | .raster => s.sendPacket 3 frame
  | .network =>
    -- a short frame is padded to the Ethernet minimum
    let pad := List.replicate (60 - (14 + vlan.length + frame.length)) (0 : Byte)
    s.sendFrame false dst vlan 0x88B5 (frame ++ pad) stamp

/-- Octets padded with zeros to a multiple of 8. -/
def pad8 (o : Octets) : Octets := o ++ List.replicate (8 * divUp o.length 8 - o.length) 0

/-- A frame as the words of a slot of ring 13 or 14 (Table 18-6). -/
def frameWords (o : Octets) : List Nat := (List.range (divUp o.length 8)).map (wordOf (pad8 o))

/-- Whether only the recovery loader answers (R457, R509). -/
def State.loaderOnly (s : State) : Bool := s.modes.loader || s.mode == 7

/-- The header words of a response (Table 15-1). -/
def responseW0 (op reqId bodyLen : Nat) (ts cached last : Bool) : Nat :=
  place 1 63 60 + place op 55 48 + 2 ^ 47 + (if ts then 2 ^ 46 else 0) + (if cached then 2 ^ 45 else 0)
    + (if last then 2 ^ 44 else 0) + place reqId 31 16 + bodyLen

/-- A response body: the status word, and on success the data (R406). -/
def responseBody (abort : Nat) (data : Octets) : Octets :=
  octetsOf 8 (place abort 63 32) ++ (if abort = 0 then pad8 data else [])

/-- What a response needs of its request. -/
structure Reply1 where
  path  : Path
  dst   : Nat
  vlan  : Octets
  op    : Nat
  reqId : Nat
  sess  : Nat
  seq   : Nat
  ts    : Bool
  deriving DecidableEq, Repr

/-- Sends one response, which a supervisor sends by ring 14 (Table 18-6); on the network a requested timestamp is taken as it
leaves (R405, R382). -/
def State.sendResponse (s : State) (r : Reply1) (key body : Octets) (cached last : Bool) : State :=
  let frame := frameOf (responseW0 r.op r.reqId body.length r.ts cached last) (place r.sess 63 32 + r.seq) body key
  let s := if s.loaderOnly then s else (s.ringPut 14 (frameWords frame)).ringTake 14
  s.sendAqlet r.path r.dst r.vlan frame (if r.ts then some (2, r.reqId, 0) else none)

/-- R412: a session has executed `SEQ`; its response joins the cache of 32, and it no longer executes. -/
def Session.answered (x : Session) (seq reqId : Nat) (body : Octets) : Session :=
  let hi := match x.highest with
    | some h => max h seq
    | none => seq
  { x with highest := some hi,
           done := (seq :: x.done).filter fun q => decide (hi ≤ q + 32),
           running := x.running.filter fun r => r.seq != seq,
           cache := ({ seq := seq, reqId := reqId, frame := body } :: x.cache).take 32 }

/-- The words a response to a request needs. -/
def replyTo (rq : Request) (r : Req) : Reply1 :=
  { path := rq.path, dst := rq.src, vlan := rq.vlan, op := r.op, reqId := r.reqId, sess := r.session, seq := r.seq,
    ts := r.ts }

/-- A refusal at step 1 or 2: a zero `TAG`, counted and not audited (R413). -/
def State.discard (s : State) (rq : Request) (r : Req) (abort : Nat) : State :=
  (s.incReg o2100.FRAMES_DISCARDED).sendResponse (replyTo rq r) [] (responseBody abort []) false false

/-- The answer to an executing request of a session: sent and cached. -/
def State.answerSession (s : State) (x : Session) (rp : Reply1) (abort : Nat) (data : Octets) (last : Bool) : State :=
  let body := responseBody abort data
  (s.mapSession x.id fun x => x.answered rp.seq rp.reqId body).sendResponse rp x.key body false last

/-- What an audit record of a request holds of it (R424). -/
def auditOf (rq : Request) (r : Req) (role : Nat) : AuditEntry :=
  let keyed := 1 ≤ r.op && r.op ≤ 5
  { kind := 2, master := masterOf rq, role := role, reqId := r.reqId, index := if keyed then r.key / 256 else 0,
    sub := if keyed then r.key % 256 else 0, op := r.op, session := r.session }

/-- A refusal from step 3 on: answered, counted and audited (R413, R424); one of class 01h is as at step 1 or 2. -/
def State.refuse (s : State) (rq : Request) (r : Req) (x : Session) (abort : Nat) : State :=
  if abort / 2 ^ 24 = 1 then s.discard rq r abort
  else
    let s := (s.incReg o2100.REQUESTS_REFUSED).audit { auditOf rq r x.role with abort := abort }
    s.answerSession x (replyTo rq r) abort [] false

/-- R412 for a frame whose session and `TAG` are right: what to do with its `SEQ`. -/
inductive SeqCheck where
  | execute
  | cached (reply : Reply)
  | ignore
  | refuse (abort : Nat)
  deriving DecidableEq, Repr

/-- R412. -/
def Session.checkSeq (x : Session) (seq reqId : Nat) : SeqCheck :=
  match x.running.find? fun r => r.seq == seq with
  | some r => if r.reqId = reqId then .ignore else .refuse 0x01000F02
  | none =>
    match x.cache.find? fun c => c.seq == seq && c.reqId == reqId with
    | some c => .cached c
    | none =>
      let fresh := match x.highest with
        | none => true
        | some h => decide (h < seq) || (decide (h ≤ seq + 32) && !x.done.contains seq)
      if fresh = false then .refuse 0x01000F02
      else if 16 ≤ x.running.length then .refuse 0x01000F04
      else .execute

/-- Marks the image area that a discarded assembly was writing as empty (R447). -/
def State.dropAssembly (s : State) (id : Nat) : State :=
  match s.sessionById id with
  | none => s
  | some x =>
    let s := s.mapSession id fun z => { z with assembly := none }
    match x.assembly with
    | some y =>
      if y.key = o7E01.IMAGE then
        let other := 1 - s.regN o7E00.RUNNING
        let s := (s.setRegN (o7E00.IMAGE_STATE + other) 0).setRegN (o7E00.IMAGE_VERSION + other) 0
        { (s.setRegN o7E01.TRANSFER_STATE 0) with flash := { s.flash with images := s.flash.images.set other (0, 0) } }
      else s
    | none => s

/-- R409: closes a session, whose staging set and assembly are discarded with it (R418, R447); `why` is the `VALUE` of
Table 15-8. -/
def State.closeSession (s : State) (x : Session) (why : Nat) : State :=
  let s := s.dropAssembly x.id
  let s := { s with aqlet := { s.aqlet with sessions := s.aqlet.sessions.filter fun y => y.id != x.id } }
  let s := s.countSessions
  if x.isOpen then
    s.audit { kind := 6, master := Path.master x.path, role := x.role, session := x.id, value := why }
  else s

/-- R407: M of a session with its letter. -/
def proofMessage (letter : Nat) (x : Session) : Octets :=
  [0x41, 0x51, 0x4C, BitVec.ofNat 8 letter] ++ octetsOf 4 x.id ++ octetsOf 1 x.role ++ x.hostNonce ++ x.chipNonce

/-- The 32-octet secret of a role; unset is 32 zero octets (R411). -/
def State.secret (s : State) (role : Nat) : Octets := s.flash.secrets.getD (role - 1) (List.replicate 32 0)

/-- Whether a role's secret is set. -/
def State.secretSet (s : State) (role : Nat) : Bool := !allZero (s.secret role)

/-- R410: whether OPEN for a role from a source is locked out. -/
def State.lockedOut (s : State) (role : Nat) (rq : Request) : Bool :=
  s.aqlet.lockouts.any fun l => l.role == role && l.path == rq.path && l.src == rq.src

/-- R409, R422: every session of a role but one closes. -/
def State.closeRole (s : State) (role except_ : Nat) : State :=
  (s.aqlet.sessions.filter fun x => x.role == role && x.id != except_).foldl (fun s x => s.closeSession x 3) s

/-- R95, R409: the sessions bound to the raster link close. -/
def State.closeRaster (s : State) : State :=
  (s.aqlet.sessions.filter fun x => x.path == .raster).foldl (fun s x => s.closeSession x 4) s

/-- R407: 5 s have passed in a half-open session without a right proof. -/
def Session.unproved (x : Session) (now : Nat) : Bool := !x.isOpen && decide (x.startedAt + 5000000000 ≤ now)

/-- R409: no valid frame has come in an open session for `SESSION_IDLE_S`. -/
def State.idleOut (s : State) (x : Session) : Bool :=
  x.isOpen && decide (x.lastValid + s.regN o2100.SESSION_IDLE_S * 1000000000 ≤ s.now)

/-- R445, R446: 10 s have passed since the last segment of a transfer. -/
def Transfer.stale (y : Transfer) (now : Nat) : Bool := decide (y.last + 10000000000 ≤ now)

/-- R410: `LOCKOUT_S` has passed since a lockout. -/
def State.lockoutOver (s : State) (a : Attempt) : Bool :=
  decide (a.time + s.regN o2100.LOCKOUT_S * 1000000000 ≤ s.now)

/-- R407, R409: a session whose time has run out ends. -/
def State.lapseSession (s : State) (x : Session) : State :=
  if x.unproved s.now then s.closeSession x 0
  else if s.idleOut x then s.closeSession x 2
  else s

/-- R445: a snapshot of which no segment was read for 10 s is discarded. -/
def State.lapseSnapshot (s : State) (id : Nat) : State :=
  s.mapSession id fun x => { x with snapshot := x.snapshot.filter fun y => !y.stale s.now }

/-- R446: an assembly to which no segment came for 10 s is discarded. -/
def State.lapseAssembly (s : State) (id : Nat) : State :=
  match s.sessionById id with
  | some x => if x.assembly.any fun y => y.stale s.now then s.dropAssembly id else s
  | none => s

/-- What has run out by the time a request comes has ended before it, whether or not its own command came first (R407, R409,
R410, R445, R446; log entry 95). -/
def State.lapse (s : State) : State :=
  let s := { s with aqlet := { s.aqlet with lockouts := s.aqlet.lockouts.filter fun a => !s.lockoutOver a } }
  let s := s.aqlet.sessions.foldl State.lapseSession s
  s.aqlet.sessions.foldl (fun s x => (s.lapseSnapshot x.id).lapseAssembly x.id) s

end Sys2Proof.Machine
end

