-- ==== Sys2Proof/Machine/Axes.lean ====
section
/-! DEFINITION. Machine/Axes.lean: chapter 13, the axes: step timers, ramps, commands, stops, homing, current. The commands
of the chapter stand in Machine/AxisMotion.lean. -/
namespace Sys2Proof.Machine

/-! ### Numbers -/

/-- The integer square root, by its binary digits. -/
def rootFloor (n : Nat) : Nat :=
  ((List.range 48).reverse).foldl (fun r b => if (r + 2 ^ b) * (r + 2 ^ b) ≤ n then r + 2 ^ b else r) 0

/-- A square root whose rounding to 16 fractional bits R347 leaves open (log entry 5). -/
def rootOpen (n : Nat) : Nat :=
  let r := rootFloor n
  if r * r = n then r else if Config.roundUp 347 n 1 then r + 1 else r

/-- Part of the quarter wave of R345: 65,536 × sine, rounded down. -/
def sineA : List Nat :=
  [0, 402, 804, 1206, 1608, 2010, 2412, 2814, 3215, 3617, 4018, 4420, 4821, 5222, 5622, 6023] ++
  [6423, 6823, 7223, 7623, 8022, 8421, 8819, 9218, 9616, 10013, 10410, 10807, 11204, 11600, 11995, 12390] ++
  [12785, 13179, 13573, 13966, 14359, 14751, 15142, 15533, 15923, 16313, 16702, 17091, 17479, 17866, 18253, 18638] ++
  [19024, 19408, 19792, 20175, 20557, 20938, 21319, 21699, 22078, 22456, 22833, 23210, 23586, 23960, 24334, 24707] ++
  [25079, 25450, 25820, 26189, 26557, 26925, 27291, 27656, 28020, 28383, 28745, 29105, 29465, 29824, 30181, 30538] ++
  [30893, 31247, 31600, 31952, 32302, 32651, 32999, 33346, 33692, 34036, 34379, 34721, 35061, 35400, 35738, 36074]

/-- Part of the quarter wave of R345: 65,536 × sine, rounded down. -/
def sineB : List Nat :=
  [36409, 36743, 37075, 37406, 37736, 38064, 38390, 38716, 39039, 39362, 39682, 40002, 40319, 40636, 40950, 41263] ++
  [41575, 41885, 42194, 42501, 42806, 43110, 43412, 43712, 44011, 44308, 44603, 44897, 45189, 45480, 45768, 46055] ++
  [46340, 46624, 46906, 47186, 47464, 47740, 48015, 48288, 48558, 48828, 49095, 49360, 49624, 49886, 50146, 50403] ++
  [50660, 50914, 51166, 51416, 51665, 51911, 52155, 52398, 52639, 52877, 53114, 53348, 53581, 53811, 54040, 54266] ++
  [54491, 54713, 54933, 55152, 55368, 55582, 55794, 56004, 56212, 56417, 56621, 56822, 57022, 57219, 57414, 57606] ++
  [57797, 57986, 58172, 58356, 58538, 58718, 58895, 59070, 59243, 59414, 59583, 59749, 59913, 60075, 60235, 60392]

/-- Part of the quarter wave of R345: 65,536 × sine, rounded down. -/
def sineC : List Nat :=
  [60547, 60700, 60850, 60998, 61144, 61288, 61429, 61568, 61705, 61839, 61971, 62100, 62228, 62353, 62475, 62596] ++
  [62714, 62829, 62942, 63053, 63162, 63268, 63371, 63473, 63571, 63668, 63762, 63854, 63943, 64030, 64115, 64197] ++
  [64276, 64353, 64428, 64501, 64571, 64638, 64703, 64766, 64826, 64884, 64939, 64992, 65043, 65091, 65136, 65179] ++
  [65220, 65258, 65294, 65327, 65358, 65386, 65412, 65436, 65457, 65475, 65491, 65505, 65516, 65524, 65531, 65534] ++
  [65536]

/-- The first quarter of the sine table of R345. -/
def sineQuarter : List Nat := sineA ++ sineB ++ sineC

/-- Entry k of the sine table of R345, of 1,024 per electrical cycle, in 2⁻¹⁶; the rounding of an entry is open
(log entry 5). -/
def sineEntry (k : Nat) : Int :=
  let k := k % 1024
  let i := if k % 512 ≤ 256 then k % 512 else 512 - k % 512
  let m := sineQuarter.getD i 0
  let m := if i = 0 ∨ i = 256 then m else if Config.roundUp 345 i 1 then m + 1 else m
  if k < 512 then (m : Int) else 0 - (m : Int)

/-! ### Access -/

/-- Axis n. -/
def State.axis (s : State) (n : Nat) : Axis := s.axes.units.getD n Axis.off

/-- Replaces axis n. -/
def State.setAxis (s : State) (n : Nat) (x : Axis) : State := { s with axes := { s.axes with units := s.axes.units.set n x } }

/-- A value of axis n, as an object of 6000h + n. -/
def State.axisReg (s : State) (n k : Nat) : Nat := s.regN (k + 256 * n)

/-- Whether axis 0 paces firing (R368). -/
def State.axisPaces (s : State) (n : Nat) : Bool := n == 0 && s.regN o3101.ACTIVE == 5

/-- Whether a limit input at an end of an axis is tripped (Table 13-8); the positive end is true. -/
def State.limitTripped (s : State) (n : Nat) (positive : Bool) : Bool :=
  (List.range 8).any fun i =>
    let m := s.regN (o6010.LIM_MAP + i)
    bit (s.regN o6010.LIM_STATE) i && bit m 7 && bits m 3 2 == n && bit m 1 == positive

/-- R344: whether an axis drives an external driver. -/
def State.axisExternal (s : State) (n : Nat) : Bool := s.axisReg n o6000.DRIVE_MODE == 1

/-- `STATE` of an axis (Table 13-7). -/
def State.axisState (s : State) (n : Nat) : Nat :=
  let x := s.axis n
  if bit (s.axisReg n o6000.STATUS) 0 = false then 0
  else if x.moving = false then 1
  else if x.stop ≠ 0 then x.stop
  else if x.homing ≠ 0 then 5
  else if x.final = true ∨ x.goal < x.v then 4
  else if x.v < x.goal then 2 else 3

/-- `STATE`, `VELOCITY` and the limits of `STATUS` follow the axis. -/
def State.showAxis (s : State) (n : Nat) : State :=
  let x := s.axis n
  let s := s.setRegN (o6000.STATE + 256 * n) (s.axisState n)
  let speed : Int := if x.moving then divOpen 1307 x.v 65536 else 0
  let s := s.setReg (o6000.VELOCITY + 256 * n) (if x.forward then speed else 0 - speed)
  let k := o6000.STATUS + 256 * n
  ((s.setRegBit k 2 (s.limitTripped n false)).setRegBit k 3 (s.limitTripped n true)).setRegBit k 6 (s.axisPaces n)

/-- The bit HOMED of `STATUS`. -/
def State.setHomed (s : State) (n : Nat) (on : Bool) : State := s.setRegBit (o6000.STATUS + 256 * n) 1 on

/-- The bit DECEL_DEFERRED of `STATUS` (R353). -/
def State.setDeferred (s : State) (n : Nat) (on : Bool) : State := s.setRegBit (o6000.STATUS + 256 * n) 5 on

/-- `V_START` of an axis in 2⁻¹⁶ microstep/s. -/
def State.startSpeed (s : State) (n : Nat) : Nat := s.axisReg n o6000.V_START * 65536

/-- R352: a command ends with a result. -/
def State.commandResult (s : State) (n id result : Nat) : State :=
  let s := (s.setRegN (o6000.LAST_COMMAND_ID + 256 * n) id).setRegN (o6000.LAST_RESULT + 256 * n) result
  s.raise 89 (result * 256 + n) 0 20

/-- R352: the command in progress ends with a result, when there is one. -/
def State.endCommand (s : State) (n result : Nat) : State :=
  let x := s.axis n
  match x.command with
  | some c => (s.setAxis n { x with command := none }).commandResult n c.id result
  | none => s

/-! ### Coil current -/

/-- The setpoint of phase A (0) or B (1) of an axis in mA (R345). -/
def State.setpoint (s : State) (n phase entry : Nat) : Int :=
  divOpen 3451 (s.regN (o6011.CURRENT_MA + 256 * n) * sineEntry (entry + 256 * phase)) 65536

/-- The chopper of a phase. -/
def Axis.chopper (x : Axis) (phase : Nat) : Chopper := if phase = 0 then x.phaseA else x.phaseB

/-- Replaces the chopper of a phase. -/
def Axis.setChopper (x : Axis) (phase : Nat) (c : Chopper) : Axis :=
  if phase = 0 then { x with phaseA := c } else { x with phaseB := c }

/-- The bridge of a phase changes (R362). -/
def State.setBridge (s : State) (n phase mode : Nat) : State :=
  let x := s.axis n
  let c := x.chopper phase
  let s := s.setAxis n (x.setChopper phase { c with mode := mode, since := s.now })
  s.emit (.bridge n phase mode (decide (s.setpoint n phase x.entry < 0)))

/-- The drive of an axis is switched on with its holding current (R364, R367). -/
def State.driveOn (s : State) (n : Nat) : State :=
  let s := s.setRegBit (o6000.STATUS + 256 * n) 0 true
  if s.axisExternal n then s.emit (.axisEnable n true)
  else
    let s := s.setRegN (o6011.CURRENT_MA + 256 * n) (s.regN (o6011.I_HOLD_MA + 256 * n))
    let x := s.axis n
    ((s.setAxis n { x with held := true }).setBridge n 0 1).setBridge n 1 1

/-- The drive of an axis is switched off at once: no step is due and no current flows (R352, R357, R367). -/
def State.driveOff (s : State) (n : Nat) : State :=
  let x := s.axis n
  let s := s.setAxis n { x with moving := false, v := 0, acc := 0, dist := none, final := false, after := .rest,
                                stop := 0, homing := 0, learning := none, phaseA := Chopper.off,
                                phaseB := Chopper.off }
  let s := (s.setRegBit (o6000.STATUS + 256 * n) 0 false).setRegN (o6011.CURRENT_MA + 256 * n) 0
  let s := if s.axisExternal n then s.emit (.axisEnable n false)
    else (s.emit (.bridge n 0 0 false)).emit (.bridge n 1 0 false)
  s.showAxis n

/-! ### Ramps -/

/-- R347: the microsteps that speed v needs to come down to `V_START` at deceleration d. -/
def stopSteps (v start d : Nat) : Nat := divUp (v * v - start * start) (2 * d * 2 ^ 32)

/-- The procedure after_step of R347 and R348; `start` is `V_START`, a the acceleration in use. -/
def Axis.afterStep (x : Axis) (start a : Nat) : Axis :=
  let need := stopSteps x.v start x.decel
  let near : Bool := match x.dist with
    | some k => decide (k ≤ need)
    | none => false
  let final := x.final || near
  let v := if near = true ∨ x.goal < x.v then max start (rootOpen (x.v * x.v - 2 * x.decel * 2 ^ 32))
    else if x.v < x.goal ∧ final = false then min x.goal (rootOpen (x.v * x.v + 2 * a * 2 ^ 32)) else x.v
  let acc := x.acc + (divOpen 3471 (10 ^ 9 * 2 ^ 32) v).toNat
  { x with final := final, v := v, acc := acc % 65536, due := x.due + acc / 65536 }

/-- A move starts from standstill at `V_START`, and its first step issues at once (R347), in external mode after the
1,000 ns that a change of DIR takes (R344). -/
def State.beginRun (s : State) (n : Nat) (forward : Bool) (dist : Option Nat) (goal : Nat) (after_ : AxisNext) : State :=
  let x := s.axis n
  let wait := if s.axisExternal n ∧ x.forward ≠ forward then 1000 else 0
  let s := s.setRegBit (o6000.STATUS + 256 * n) 4 false
  s.setAxis n { x with moving := true, forward := forward, v := s.startSpeed n, acc := 0, due := s.now + wait, dist := dist,
                       goal := goal, final := false, after := after_, stop := 0, travelled := 0 }

/-- The microsteps to the stop point of a stop that begins now at deceleration d: a final deceleration under way already has
its own (R348, R353). -/
def Axis.stopLeft (x : Axis) (start d : Nat) : Nat :=
  let need := stopSteps x.v start d
  match x.dist with
  | some k => if x.final then min k need else need
  | none => need

/-- R351, R354, R355: the axis begins to stop; the stop point is fixed now, and the steeper ramp is used when two meet
(R355). An axis already at `V_START` stops with its next step done, here at once. -/
def State.beginStop (s : State) (n d code : Nat) (after_ : AxisNext) : State :=
  let x := s.axis n
  let d := if x.stop ≠ 0 then max d x.decel else d
  s.setAxis n { x with decel := d, dist := some (x.stopLeft (s.startSpeed n) d), final := true,
                       after := if x.stop ≠ 0 then x.after else after_,
                       stop := if x.stop = 6 then 6 else code }

/-- Whether an axis has come to the end of its move. -/
def Axis.arrived (x : Axis) : Bool := x.moving && x.dist == some 0

/-- The number of steps of 64 full steps (R365). -/
def State.learnSteps (s : State) (n : Nat) : Nat := 64 * s.axisReg n o6000.MICROSTEP

/-- R365: speed k of 16 from `V_START` to `V_MAX`, in 2⁻¹⁶ microstep/s. -/
def State.learnSpeed (s : State) (n k : Nat) : Nat :=
  let lo := s.axisReg n o6000.V_START
  let hi := s.axisReg n o6000.V_MAX
  (divOpen 365 (((lo * 15 + (hi - lo) * k) * 65536 : Nat) : Int) 15).toNat

/-- R361: homing fails. -/
def State.homeFailed (s : State) (n : Nat) : State := s.raise 91 n 1 20

/-- R360: step 2, towards the home end. -/
def State.homeSeek (s : State) (n : Nat) : State :=
  let s := s.beginRun n (s.axisReg n o6000.HOME_DIR == 1) none (s.axisReg n o6000.HOME_SPEED * 65536) .rest
  s.setAxis n { s.axis n with homing := 3 }

/-- R360: homing starts from standstill. -/
def State.homeStart (s : State) (n : Nat) : State :=
  let up := s.axisReg n o6000.HOME_DIR == 1
  if s.limitTripped n up then
    let s := s.beginRun n (!up) (some (s.axisReg n o6000.HOME_BACKOFF)) (s.axisReg n o6000.HOME_SPEED * 65536) .rest
    s.setAxis n { s.axis n with homing := 1 }
  else s.homeSeek n

/-- R348, R351, R360, R361: the axis stands still, and goes on with what follows. -/
def State.standStill (s : State) (n : Nat) : State :=
  let x := s.axis n
  let s := s.setAxis n { x with moving := false, v := 0, acc := 0, dist := none, final := false, stop := 0, homing := 0,
                                lastStep := s.now, held := false, after := .rest }
  let s := match x.after with
    | .rest =>
      if x.homing = 1 then (s.homeFailed n).endCommand n 5 else s
    | .finish r => s.endCommand n r
    | .run forward dist goal => s.beginRun n forward dist goal (if dist.isSome then .finish 0 else .rest)
    | .home => s.homeStart n
    | .seek => s.homeSeek n
    | .homed => (s.setHomed n true).endCommand n 0
    | .learnt =>
      -- R365: from the last speed back to the start
      let s := s.setAxis n { s.axis n with learning := some 17 }
      if x.travelled = 0 then s
      else s.beginRun n false (some x.travelled) (s.axisReg n o6000.V_MAX * 65536) .rest
  s.showAxis n

/-- The axis stands still when nothing is left of its move; a stop may leave nothing at once. -/
def State.settleAxis (s : State) (n : Nat) : State := if (s.axis n).arrived then s.standStill n else s.showAxis n

/-- R356: the axis stops on its fault ramp, the `DECEL` in force, and its command ends with a result. -/
def State.faultStop (s : State) (n result : Nat) : State :=
  let x := s.axis n
  let s := s.setAxis n { x with learning := none }
  if x.moving then (s.beginStop n x.decel 7 (.finish result)).settleAxis n
  else (s.endCommand n result).showAxis n

/-! ### Commands of the modes and the pairs -/

/-- R371: axes 1 to 3 are IDLE or DISABLED. -/
def State.axesIdle (s : State) : Bool := [1, 2, 3].all fun n => !(s.axis n).moving

/-- R357: SAFE-HOLD is entered. -/
def State.axesSafe (s : State) : State :=
  (List.range 4).foldl (fun s n => ((s.driveOff n).endCommand n 7).setHomed n false) s

/-- Whether axis 0 runs a constant-velocity feed. -/
def State.feeding (s : State) : Bool :=
  match (s.axis 0).command with
  | some c => (s.axis 0).moving && c.op == 3 && (s.axis 0).stop == 0
  | none => false

/-- R38, R356: the motion pair is held. -/
def State.axesMotionHeld (s : State) : State :=
  let stop (s : State) (n : Nat) : State := if (s.axis n).moving then s.faultStop n 1 else s
  let s := [1, 2, 3].foldl stop s
  if s.feeding then s else stop s 0

/-- R38: at the next mode change, the feed of axis 0 stops too. A mode change does nothing else to an axis (R371). -/
def State.axesMode (s : State) (_old _new : Nat) : State :=
  if s.sys.motion.state = .held ∧ s.feeding = true then s.faultStop 0 1 else s

end Sys2Proof.Machine
end

