-- ==== Sys2Proof/Machine/Expect.lean ====
section
/-! DEFINITION. Machine/Expect.lean: chapter 11, the expected image, the cells excused, and the geometry of a pipeline
(R302 to R305). -/
namespace Sys2Proof.Machine

/-- Changes the state of chapter 11. -/
def State.withInspect (s : State) (f : Inspection → Inspection) : State := { s with inspect := f s.inspect }

/-- R304: `EXPECT_DEPTH` of pipeline p in camera lines; no depth is stated for a pipeline without a tile (log entry 6). -/
def State.expectDepth (s : State) (p : Nat) : Nat :=
  let area := if s.bothChannels then 0xC000000 else 0x6000000
  let row := divUp (s.lineWidth p) 64 * 64
  if row = 0 then (Config.unstated 304 p).toNat else area / row

/-- The web lines that the expected history reaches back at most. -/
def State.expectLines (s : State) : Int := 2 * max (s.expectDepth 0) (s.expectDepth 1) + 128

/-- R303: the builder adds the block columns of a band that has been admitted, each once. -/
def State.expectTiles (s : State) (first last : Int) (tiles : List (Nat × List Nat)) : State :=
  let reach := s.expectLines
  s.withInspect fun q =>
    let fresh (b : ExpectBand) : List (Nat × List Nat) := tiles.filter fun t => !(b.tiles.any fun u => u.1 == t.1)
    let bands := if q.bands.any fun b => b.first == first then
        q.bands.map fun (b : ExpectBand) => if b.first = first then { b with tiles := b.tiles ++ fresh b } else b
      else { first := first, last := last, tiles := tiles } :: q.bands
    { q with bands := bands.filter fun b => decide (last - reach ≤ b.last),
             excused := q.excused.filter fun e => decide (last - reach ≤ e.1) }

/-- R305: columns first to last of a web line print otherwise than the raster asks. -/
def State.excuse (s : State) (line : Int) (first last : Nat) : State :=
  s.withInspect fun q =>
    if q.excused.contains (line, first, last) then q else { q with excused := (line, first, last) :: q.excused }

/-- Excuses single columns of a web line. -/
def State.excuseColumns (s : State) (line : Int) (cols : List Nat) : State := cols.foldl (fun s c => s.excuse line c c) s

/-- R305: a drop of column c went to a neighbour: both cells are excused when it crossed a cell's boundary; cells span an
even column and the one after it (R302). -/
def State.excuseSeep (s : State) (line : Int) (c left right : Nat) : State :=
  let s := if left ≠ 0 ∧ c % 2 = 0 then s.excuse line (c - 1) c else s
  if right ≠ 0 ∧ c % 2 = 1 then s.excuse line c (c + 1) else s

/-- The pixel of a bar column on a web line of the expected image; 0 where no page was read. -/
def State.expectedPixel (s : State) (line : Int) (c : Nat) : Nat :=
  match s.inspect.bands.find? fun b => decide (b.first ≤ line ∧ line ≤ b.last) with
  | none => 0
  | some b =>
    match b.tiles.find? fun t => t.1 == c / 256 with
    | some t => t.2.getD (256 * (line - b.first).toNat + c % 256) 0
    | none => 0

/-- R302: the web lines of camera line j. -/
def State.webLines (s : State) (j : Int) : List Int :=
  if s.regN o3100.LINE_PITCH = 600 then [j] else [2 * j, 2 * j + 1]

/-- R302: the first bar column of pixel x of pipeline p. -/
def State.pixelColumn (s : State) (p x : Nat) : Nat := s.regN (o5200.COLUMN_ORIGIN + p) + 2 * x

/-- R302: whether a pixel is analysed at all. -/
def State.pixelPrints (s : State) (p x : Nat) : Bool := decide (s.pixelColumn p x < s.printColumns)

/-- R303: the coverage n of the cell of pixel x on camera line j. -/
def State.coverage (s : State) (p x : Nat) (j : Int) : Nat :=
  let c := s.pixelColumn p x
  (s.webLines j).foldl (fun n l => n + s.expectedPixel l c + s.expectedPixel l (c + 1)) 0

/-- R305: whether the cell of pixel x on camera line j is excused. -/
def State.cellExcused (s : State) (p x : Nat) (j : Int) : Bool :=
  let c := s.pixelColumn p x
  let ls := s.webLines j
  s.inspect.excused.any fun e => ls.contains e.1 && decide (e.2.1 ≤ c + 1 ∧ c ≤ e.2.2)

/-- R304: whether the history is too short for the view. -/
def State.noReference (s : State) (p : Nat) : Bool :=
  decide (32 * s.expectDepth p < s.regN (o5003.VIEW_OFFSET + p) + 32 * s.regN (o5003.FRAME_LINES + p))

/-- R319: the zone of a bar column: the columns of one polder, with the overlap above it. -/
def zoneOf (c : Nat) : Nat := if c < 3968 then 0 else min 15 ((c - 32) / 3968)

end Sys2Proof.Machine
end

