-- ==== Sys2Proof/Machine/Ingest.lean ====
section
/-! DEFINITION. Machine/Ingest.lean: chapters 04 and 05, what PAGE and BLOCK packets do, and the ingest verifier. -/
namespace Sys2Proof.Machine

/-- A refused PAGE operation (R115): counted, recorded, and audited when the mode refused it. -/
def State.refusePage (s : State) (tag stream start code : Nat) : State :=
  let s := (s.incReg o4404.PAGES_REFUSED).pageEvent tag 3 stream 0 start 0 code 0
  if code = 0x05000101 then s.auditRefusal 1 code else s

/-- The check of the mode in Table 04-4. -/
def State.pageMode (s : State) : Bool := s.mode == 3 || s.mode == 4 || s.mode == 5

/-- The first check of an OPEN that fails, or 0 (Table 04-4). -/
def State.openCode (s : State) (tag stream start lines blocks : Nat) : Nat :=
  if s.pageMode = false then 0x05000101
  else if (s.pageOf stream tag).isSome then 0x04000104
  else if lines < 1 then 0x04000102
  else if blocks ≠ divUp lines 64 * s.blockColumns then 0x04000103
  else if start < s.pageStore.lastEnd ∧ s.pageStore.evicted.contains (stream, tag, start, lines) = false then 0x04000101
  else if 1024 ≤ (s.pageStore.pages.filter fun p => !s.isFiring p).length then 0x06000101
  else if s.storeGranules < s.reservedGranules + blocks * 65 then 0x06000102
  else 0

/-- Puts a page among the others in `START_LINE` order. -/
def insertPage (p : Page) : List Page → List Page
  | [] => [p]
  | q :: rest => if q.start ≤ p.start then q :: insertPage p rest else p :: q :: rest

/-- OPEN (R115). -/
def State.openPage (s : State) (tag stream start lines blocks : Nat) : State :=
  let s := s.settleEnd
  let code := s.openCode tag stream start lines blocks
  if code ≠ 0 then s.refusePage tag stream start code
  else
    let p : Page :=
      { tag, stream, start, lines, total := blocks, committed := false, flags := 0, reserved := blocks * 65,
        blocks := [], resend := [], freed := 0, blank := [], skipped := 0, abortAt := none, empty := [], starved := false,
        lacking := false, held := false }
    let s := s.withPages fun q =>
      { q with pages := insertPage p q.pages, lastEnd := max q.lastEnd (start + lines),
               evicted := q.evicted.filter fun e => e != (stream, tag, start, lines) }
    s.pageEvent tag 1 stream 0 start 0 0 0

/-- A COMMIT once the blocks before it are verified (R115, R158). -/
def State.commitPage (s : State) (tag stream start : Nat) : State :=
  if s.pageMode = false then s.refusePage tag stream start 0x05000101
  else match s.pageOf stream tag with
    | none => s.refusePage tag stream start 0x04000105
    | some p =>
      if p.committed then s.refusePage tag stream p.start 0x04000105
      else if p.lacking ∨ p.firstMissing.isSome then s.refusePage tag stream p.start 0x06000103
      else
        let draining := decide (s.regN o2001.PHASE = 2)
        let s := s.mapPage stream tag fun p =>
          { p with committed := true, reserved := heldGranules p.blocks, held := draining }
        s.pageEvent tag 2 stream 0 p.start 0 0 0

/-- ABORT (R115, Table 04-5); a firing page is recorded at receipt too (log entry 51). -/
def State.cutPage (s : State) (tag stream start : Nat) : State :=
  if s.pageMode = false then s.refusePage tag stream start 0x05000101
  else match s.pageOf stream tag with
    | none => s.refusePage tag stream start 0x04000105
    | some p =>
      if s.isFiring p then
        let f := s.firingLine + 1
        let at_ := match p.abortAt with
          | some a => a
          | none => f
        let s := s.mapPage stream tag fun p => { p with abortAt := some at_, flags := setBit p.flags 3 true }
        s.pageEvent tag 4 stream (setBit p.flags 3 true) p.start 0 0 0
      else s.abortPage p

/-- The verifier's queue of a stream. -/
def State.queueOf (s : State) (stream : Nat) : List Arrival :=
  if stream = 0 then s.pageStore.queue0 else s.pageStore.queue1

/-- Replaces the verifier's queue of a stream. -/
def State.setQueue (s : State) (stream : Nat) (l : List Arrival) : State :=
  s.withPages fun q => if stream = 0 then { q with queue0 := l } else { q with queue1 := l }

/-- R114: the channel that takes block i home now. -/
def State.homeOf (s : State) (k i : Nat) : Nat :=
  match s.regN o4403.CHANNELS % 4 with
  | 1 => 0
  | 2 => 1
  | _ => (i / k + i % k) % 2

/-- The cost of a PAGE packet is free again once it is processed (R89). -/
def pageCost : Nat := packetCost 32

/-- A PAGE packet (R115): an OPEN, an ABORT or an unknown operation acts at once, a COMMIT waits behind the blocks under
verification (R158). -/
def State.pagePacket (p : Packet) (s : State) : State :=
  let op := bits (packetWord p 0) 31 24
  let tag := bits (packetWord p 0) 63 32
  let stream := packetStream p
  let start := packetWord p 1
  let lines := bits (packetWord p 2) 63 32
  let blocks := bits (packetWord p 2) 31 0
  let known := match s.pageOf stream tag with
    | some q => q.start
    | none => start
  match op with
    | 1 => (s.openPage tag stream start lines blocks).freeCredit false pageCost
    | 2 =>
      if (s.queueOf stream).isEmpty then (s.commitPage tag stream known).freeCredit false pageCost
      else s.setQueue stream (s.queueOf stream ++ [.commit tag start])
    | 3 => (s.cutPage tag stream known).freeCredit false pageCost
    | _ => (s.refusePage tag stream known 0x04000106).freeCredit false pageCost

/-- A BLOCK packet (R155): its block is written to the page store and queued for verification. -/
def State.blockPacket (p : Packet) (s : State) : State :=
  if s.mode = 7 then s.freeCredit false (packetCost (packetLen p))
  else
    let stream := packetStream p
    let c := s.homeOf s.blockColumns (blockIndex p.payload)
    s.setQueue stream (s.queueOf stream ++ [.block p.payload c (s.allocate c s.storeBase p.payload) false])

/-! ### Verification -/

/-- Checks 1 to 7 of Table 05-4 for a block of a stream, in table order; 0 when they pass. -/
def State.checkBlock (s : State) (stream : Nat) (o : Octets) (claimed : Nat → Nat → Bool) : Nat :=
  let tag := blockTag o
  let i := blockIndex o
  if blockLengthOk o = false then 1
  else if blockCrc o ≠ blockCrcOf o then 2
  else if blockVersion o ≠ 1 ∨ blockMode o = 3 then 3
  else if blockBilevel o ≠ decide (s.regN o3100.PIXEL_BITS = 1) then 4
  else match s.pageOf stream tag with
    | none => 5
    | some p =>
      if p.committed ∧ p.resend.contains i = false then 5
      else if p.total ≤ i then 6
      else if (p.resident i).isSome ∨ claimed tag i then 7
      else 0

/-- The reason a block fails Table 05-4 with, or 0. -/
def State.verifyReason (s : State) (stream : Nat) (o : Octets) (claimed : Nat → Nat → Bool) : Nat :=
  let c := s.checkBlock stream o claimed
  if c ≠ 0 then c
  else match decodeBlock o with
    | .inl r => r
    | .inr _ => 0

/-- Whether a codec job in flight has a copy of the block under verification (Table 05-4, check 7). -/
def State.claimedByJob (s : State) (stream tag i : Nat) : Bool :=
  s.pageStore.jobs.any fun j =>
    bit (j.words.getD 0 0) 37 && bits (j.words.getD 0 0) 36 36 == stream && bits (j.words.getD 5 0) 63 32 == tag &&
      j.blocks.any fun b => b.1 == i

/-- Puts a verified block into its page (R155, R141). -/
def State.placeBlock (s : State) (stream : Nat) (o : Octets) (channel at_ : Nat) : State :=
  let tag := blockTag o
  let i := blockIndex o
  let back := match s.pageOf stream tag with
    | some p => p.resend.contains i
    | none => false
  let b : Block := { index := i, channel := channel, at_ := at_, data := o, mirrored := false, mirrorAt := 0, lost := false }
  let s := s.mapPage stream tag fun p =>
    { p with blocks := b :: p.blocks, resend := p.resend.filter (fun j => j != i),
             reserved := if p.committed then max p.reserved (heldGranules (b :: p.blocks)) else p.reserved }
  if back then s.incReg o4406.BLOCKS_RESENT else s

/-- R156, R170: a refused block: counted, reported and logged. -/
def State.refuseBlock (s : State) (stream : Nat) (o : Octets) (reason : Nat) : State :=
  let s := (s.incReg o4801.BLOCKS_REFUSED).setRegN o4801.LAST_REASON reason
  let seq := (s.regN o4802.LOG_SEQ + 1) % 2 ^ 32
  let s := if 64 < seq ∧ s.pageStore.logRead < seq - 64 then s.incReg o4801.LOG_SPILLWAY else s
  let s := s.setBlob (o4802.ENTRY + seq % 64)
    (octetsOfWords [place (blockTag o) 63 32 + place (blockIndex o) 31 0,
                    place seq 63 32 + place reason 31 24 + place stream 23 23])
  (s.setRegN o4802.LOG_SEQ seq).raise 32 reason 0 17

/-- Commits at the head of a stream's queue are processed (R158). -/
def State.runCommits (stream : Nat) : List Arrival → State → State
  | .commit tag start :: rest, s => State.runCommits stream rest ((s.commitPage tag stream start).freeCredit false pageCost)
  | l, s => s.setQueue stream l

/-- R155, R156, R158: the verifier finishes the oldest block of a stream; a block of a page that is gone since an ABORT
is discarded and not logged. -/
def State.verifyNext (stream : Nat) (s : State) : State :=
  match s.queueOf stream with
  | .block o channel at_ gone :: rest =>
    let reason := s.verifyReason stream o (s.claimedByJob stream)
    let s := if gone then s
      else if reason = 0 then (s.placeBlock stream o channel at_).incReg o4801.BLOCKS_VERIFIED
      else s.refuseBlock stream o reason
    ((State.runCommits stream rest s).freeCredit false (packetCost o.length)).sendCredit
  | l => State.runCommits stream l s

end Sys2Proof.Machine
end

