-- ==== Sys2Proof/Machine/Health.lean ====
section
/-! DEFINITION. Machine/Health.lean: chapter 07, the health maps: nozzles, changes, commits, flash, and the windows that
show them. -/
namespace Sys2Proof.Machine

/-- Changes the state of chapter 07. -/
def State.withHealth (s : State) (f : Health → Health) : State := { s with health := f s.health }

/-- The number of a nozzle: die, die-local column, row. -/
def nozzle (die col row : Nat) : Nat := 4096 * die + 4 * col + row

/-- What a map holds of a nozzle: state + 4·cause. -/
def mapGet (m : List (Nat × Nat)) (n : Nat) : Nat := Cells.get (fun _ => 0) m n

/-- Puts state + 4·cause for a nozzle. -/
def mapPut (m : List (Nat × Nat)) (n v : Nat) : List (Nat × Nat) := Cells.put (fun _ => 0) m n v

/-- State of a nozzle in a map (Table 07-1). -/
def stateIn (m : List (Nat × Nat)) (n : Nat) : Nat := mapGet m n % 4

/-- Cause of a nozzle in a map (R203): 0 written, 1 factory, 2 electrical, 3 inspection. -/
def causeIn (m : List (Nat × Nat)) (n : Nat) : Nat := mapGet m n / 4

/-- The commit that carries the health map, if one does. -/
def State.healthCommit (s : State) : Option Commit :=
  match s.modes.commit with
  | some c => if c.source = .health then some c else none
  | none => none

/-- R181, R202: the map that web line L is composed by. -/
def State.healthAt (s : State) (line : Int) : List (Nat × Nat) :=
  match s.healthCommit with
  | some c =>
    if c.stage = .settled ∧ c.line ≤ line then s.health.coming
    else if c.stage = .retiring ∧ line < c.line then s.health.old
    else s.health.inForce
  | none => s.health.inForce

/-- R202: the copy that a health commit brings is taken when it is handed over. -/
def State.takeHealth (s : State) : State := s.withHealth fun h => { h with coming := h.staged }

/-- Whether nozzle n is of a fitted die. -/
def State.nozzleFitted (s : State) (n : Nat) : Bool := decide (n / 4096 < s.regN o3000.DIES)

/-- `PENDING`: nozzles whose staged state differs from the one in force. -/
def State.pendingHealth (s : State) : Nat :=
  let keys := (s.health.staged ++ s.health.inForce).map fun p => p.1
  (keys.eraseDups.filter fun n => stateIn s.health.staged n != stateIn s.health.inForce n).length

/-- R202, R203: the map of a health commit comes into force; inhibits of nozzles moved out of OUT lift (R204). -/
def State.healthInForce (s : State) (_line : Int) : State :=
  let now := s.health.coming
  let was := s.health.inForce
  let lifts (n : Nat) : Bool := stateIn was n == 3 && stateIn now n != 3
  let s := s.withHealth fun h =>
    { h with inForce := now, old := was, inhibited := h.inhibited.filter fun n => !lifts n }
  let s := (s.setRegN o3400.INHIBITED_NOZZLES s.health.inhibited.length).incReg o3400.GENERATION
  (s.incReg o3400.COMMITS).raise 63 (s.regN o3400.GENERATION % 65536) 0 23

/-- R204: a shorted heater is inhibited at once. -/
def State.inhibit (s : State) (n : Nat) : State :=
  if s.health.inhibited.contains n then s
  else
    let s := s.withHealth fun h => { h with inhibited := n :: h.inhibited }
    (s.setRegN o3400.INHIBITED_NOZZLES s.health.inhibited.length).raise 48 (n / 4096) 0 19

/-- R206: an automatic source, of a cause, moves a nozzle of the staged map to a worse state, or to GOOD where Table 07-2
allows it; a nozzle written in the same instant stays as written. The Bool says whether it did. -/
def State.autoHealth (s : State) (n state cause : Nat) : Bool × State :=
  let was := stateIn s.health.staged n
  let by_ := causeIn s.health.staged n
  let written := s.health.written.any fun w => w.1 == s.now && decide (w.2.1 ≤ n ∧ n ≤ w.2.2)
  let ok := if written ∨ was = 3 ∧ (by_ = 1 ∨ by_ = 2) then false
    else if state = 0 then (was ≠ 0 && ((was = 1 && by_ = 2 && cause = 2) || (by_ = 3 && cause = 3)))
    else decide (was < state)
  if ok then (true, s.withHealth fun h => { h with staged := mapPut h.staged n (state + 4 * cause) }) else (false, s)

/-- R206: a write of one row; a row written with the state it holds keeps its cause. -/
def writeRow (m : List (Nat × Nat)) (n state : Nat) : List (Nat × Nat) :=
  if stateIn m n = state then m else mapPut m n state

/-- R206: a write of one column health byte (Table 07-12). -/
def writeColumn (m : List (Nat × Nat)) (die col v : Nat) : List (Nat × Nat) :=
  (List.range 4).foldl (fun m r => writeRow m (nozzle die col r) (bits v (2 * r + 1) (2 * r))) m

/-- R206: nozzles `first` to `last` are written now. -/
def State.noteWritten (s : State) (first last_ : Nat) : State :=
  s.withHealth fun h => { h with written := (s.now, first, last_) :: h.written.filter fun w => w.1 == s.now }

/-- A write of 3401h:03–12h: column i of the window. -/
def State.writeWindow (s : State) (i v : Nat) : State :=
  let die := s.regN o3401.WINDOW_DIE
  let col := s.regN o3401.WINDOW_COLUMN + i
  (s.withHealth fun h => { h with staged := writeColumn h.staged die col v }).noteWritten (nozzle die col 0) (nozzle die col 3)

/-- A write of 3403h:01 replaces the staged map (R206, R417). -/
def State.writeMap (s : State) (o : Octets) : State :=
  let put (acc : List (Nat × Nat) × Nat) (b : Byte) : List (Nat × Nat) × Nat :=
    (writeColumn acc.1 (acc.2 / 1024) (acc.2 % 1024) b.toNat, acc.2 + 1)
  (s.withHealth fun h => { h with staged := (o.foldl put (h.staged, 0)).1 }).noteWritten 0 (nozzle 63 1023 3)

/-- A column health byte of a map: states, or causes (Table 07-12). -/
def columnByte (m : List (Nat × Nat)) (die col : Nat) (causes : Bool) : Nat :=
  (List.range 4).foldl (fun v r =>
    let n := nozzle die col r
    v + (if causes then causeIn m n else stateIn m n) * 4 ^ r) 0

/-- What 3401h:03–12h reads by `VIEW`. -/
def State.windowByte (s : State) (i : Nat) : Nat :=
  let die := s.regN o3401.WINDOW_DIE
  let col := s.regN o3401.WINDOW_COLUMN + i
  match s.regN o3401.VIEW with
  | 0 => columnByte s.health.inForce die col false
  | 1 => columnByte s.health.staged die col false
  | _ => columnByte s.health.inForce die col true

/-- What 3403h:01 or, with `causes`, 3403h:02 reads. -/
def State.mapOctets (s : State) (causes : Bool) : Octets :=
  (List.range 65536).map fun i => BitVec.ofNat 8 (columnByte s.health.inForce (i / 1024) (i % 1024) causes)

/-- R207: the quarantined dies for web line L, bit n die n, by its generation (R181). -/
def State.quarantineAt (s : State) (line : Int) : Nat :=
  let now := s.regN o3802.QUARANTINE_IN_FORCE
  match s.modes.commit with
  | some c =>
    match c.entries.find? fun e => e.1 == o3802.QUARANTINE_MASK with
    | some e =>
      if c.stage = .settled ∧ c.line ≤ line then unsigned 64 e.2
      else if c.stage = .retiring ∧ line < c.line then s.heads.quarantineOld
      else now
    | none => now
  | none => now

/-! ### Columns and candidates -/

/-- Whether a bar column lies in the stitch overlap of dies k and k + 1 (R14), and which. -/
def overlapOf (dies c : Nat) : Option Nat :=
  if 992 ≤ c ∧ c % 992 < 32 ∧ c / 992 < dies then some (c / 992 - 1) else none

/-- The die of a bar column outside the overlaps. -/
def dieOf (dies c : Nat) : Nat := min (c / 992) (dies - 1)

/-- R222: the row that a probe names for a bar column of web line L. -/
def Probe.rowAt (p : Probe) (line : Int) (c : Nat) : Option Nat :=
  match p.start with
  | none => none
  | some t =>
    let row := if c % 2 = 1 then p.odd else p.even
    if t ≤ line ∧ line < t + p.lines ∧ p.first ≤ c ∧ c ≤ p.last ∧ row < 4 then some row else none

/-- R222: the probes that web lines are composed and fired by: the one armed, from the settlement of its commit on, and those
whose lines may still fire. -/
def State.probes (s : State) : List Probe :=
  let settled : Option Int := match s.modes.commit with
    | some k => if k.stage = .settled ∧ k.entries.any (fun e => e.1 == o3404.PROBE_ARM) then some k.line else none
    | none => none
  (match s.health.probe with
    | some p => [{ p with start := p.start <|> settled }]
    | none => []) ++ s.health.probed

/-- R222: the row that a probe names for a column of web line L; overlap columns take part in none. -/
def State.probeRow (s : State) (line : Int) (c : Nat) : Option Nat :=
  if (overlapOf (s.regN o3000.DIES) c).isSome then none else s.probes.findSome? fun p => p.rowAt line c

/-- A candidate nozzle: its slot, its probe key and its class (Table 07-4). -/
structure Candidate where
  slot  : Nat
  probe : Nat
  cls   : Nat
  deriving DecidableEq, Repr

/-- R211: the rows of a die's column that are candidates on web line L by a map, with slots from `base`. -/
def State.rowsOf (s : State) (m : List (Nat × Nat)) (line : Int) (die col base : Nat) (named : Option Nat) : List Candidate :=
  if bit (s.quarantineAt line) die then []
  else
    let weak := decide (s.regAt o3400.USE_WEAK line = 1)
    (List.range 4).filterMap fun r =>
      let st := stateIn m (nozzle die col r)
      let probed := named == some r
      let c : Candidate := { slot := base + r, probe := if probed then 0 else 1, cls := if st = 0 then 0 else 1 }
      if st = 0 ∨ (st = 1 ∧ weak) ∨ (st = 2 ∧ probed) then some c else none

/-- R182: the mask code of overlap k, column i, for web line L. -/
def State.stitchCode (s : State) (line : Int) (k i : Nat) : Nat :=
  bits (unsigned 64 (s.regAt (o3002.STITCH_MASK + k) line)) (2 * i + 1) (2 * i)

/-- R211, R218: the candidates of a bar column on web line L. -/
def State.candidates (s : State) (m : List (Nat × Nat)) (line : Int) (c : Nat) : List Candidate :=
  let dies := s.regN o3000.DIES
  match overlapOf dies c with
  | some k =>
    let i := c - 992 * (k + 1)
    let code := s.stitchCode line k i
    (if code = 0 ∨ code = 1 then s.rowsOf m line k (992 + i) 0 none else []) ++
      (if code = 0 ∨ code = 2 then s.rowsOf m line (k + 1) i 4 none else [])
  | none =>
    let d := dieOf dies c
    s.rowsOf m line d (c - 992 * d) 0 (s.probeRow line c)

/-- Table 07-10: printing columns with exactly n candidates, without probes. -/
def State.columnsWith (s : State) (n : Nat) : Nat :=
  let f := s.firingLine
  let t := { s with health := { s.health with probe := none, probed := [] } }
  ((List.range s.printColumns).filter fun c => (t.candidates s.health.inForce f c).length == n).length

/-- Nozzles of fitted dies in a state. -/
def State.nozzlesIn (s : State) (st : Nat) : Nat :=
  let listed := s.health.inForce.filter fun p => s.nozzleFitted p.1
  let same := (listed.filter fun p => p.2 % 4 == st).length
  if st = 0 then 4096 * s.regN o3000.DIES - (listed.filter fun p => p.2 % 4 != 0).length else same

/-- R209: S. -/
def State.refillLines (s : State) : Nat :=
  let r := s.regN o3100.MAX_LINE_RATE
  if r ≤ 64000 then 1 else if r ≤ 128000 then 2 else 3

/-! ### Flash -/

/-- The map of one die as (nozzle in the die, state + 4·cause). -/
def dieMap (m : List (Nat × Nat)) (die : Nat) : List (Nat × Nat) :=
  (m.filter fun p => p.1 / 4096 == die).map fun p => (p.1 % 4096, p.2)

/-- Puts the map of one die into a map. -/
def putDieMap (m : List (Nat × Nat)) (die : Nat) (d : List (Nat × Nat)) : List (Nat × Nat) :=
  d.foldl (fun m p => mapPut m (4096 * die + p.1) p.2) (m.filter fun p => p.1 / 4096 != die)

/-- R512: one health entry of a save record goes into a die's map: the octets of states and causes of a column. -/
def restoreColumn (m : List (Nat × Nat)) (col v : Nat) : List (Nat × Nat) :=
  (List.range 4).foldl (fun m r =>
    let at_ (o : Nat) : Nat := bits o (2 * r + 1) (2 * r)
    mapPut m (nozzle 0 col r) (at_ (v / 256) + 4 * at_ (v % 256))) m

/-- R208: a die's map is written to flash under its identity. -/
def State.saveMap (s : State) (identity : Octets) (die : Nat) : State :=
  let e : SavedMap := { identity := identity, states := dieMap s.health.inForce die, crcRight := true }
  { s with flash := { s.flash with maps := e :: s.flash.maps.filter fun x => x.identity != identity } }

/-- R208: the saved map of an identity, when its CRC is right. -/
def State.savedMap (s : State) (identity : Octets) : Option (List (Nat × Nat)) :=
  (s.flash.maps.find? fun x => x.identity == identity && x.crcRight).map fun x => x.states

end Sys2Proof.Machine
end

