-- ==== Sys2Proof/Machine/Findings.lean ====
section
/-! DEFINITION. Machine/Findings.lean: chapter 11, the findings record, trace windows of inspection, and blindness (R322,
R323). -/
namespace Sys2Proof.Machine

/-- The fields of a findings record beside frame, kind and pipeline (Table 11-3). -/
structure Finding where
  excess   : Bool := false
  state    : Nat := 0
  zone     : Nat := 0
  id       : Nat := 0
  column   : Nat := 0
  die      : Nat := 0
  row      : Nat := 0
  dieCol   : Nat := 0
  rival    : Nat := 0
  score    : Nat := 0
  second   : Nat := 0
  fraction : Nat := 0
  profile  : Int := 0
  w3       : Nat := 0
  deriving DecidableEq, Repr

/-- Words of a findings record (Table 11-3). -/
def Finding.words (f : Finding) (frame kind pipeline : Nat) : List Nat :=
  [place frame 63 32 + place kind 31 24 + place pipeline 23 23 + (if f.excess then 2 ^ 22 else 0) + place f.state 21 20 +
     place f.zone 19 16 + place f.id 15 0,
   place f.column 63 32 + place f.die 31 26 + place f.row 25 24 + place f.dieCol 23 14 + place f.rival 13 0,
   place f.score 63 48 + place f.second 47 32 + place f.fraction 31 16 + place (unsigned 16 f.profile) 15 0,
   f.w3]

/-- The inspection of pipeline p. -/
def State.inspecting (s : State) (p : Nat) : Inspect := s.inspect.units.getD p Inspect.reset

/-- Replaces the inspection of pipeline p. -/
def State.setInspecting (s : State) (p : Nat) (x : Inspect) : State := s.withInspect fun q => { q with units := q.units.set p x }

/-- Number of the last frame started by pipeline p. -/
def State.lastFrame (s : State) (p : Nat) : Nat := (s.pipeline p).nextFrame - 1

/-- A findings record goes onto ring 8 (R323). -/
def State.putFinding (s : State) (p frame kind : Nat) (f : Finding) : State := s.ringPut 8 (f.words frame kind p)

/-- `STREAKS_OPEN`: confirmed streaks of both pipelines that have not cleared. -/
def State.showStreaks (s : State) : State :=
  s.setRegN o5201.STREAKS_OPEN
    (([0, 1] : List Nat).foldl (fun n p => n + ((s.inspecting p).streaks.filter fun x => x.confirmed).length) 0)

/-- R311: a trace window is released. -/
def State.releaseWindow (s : State) (w : Option Nat) : State :=
  match w with
  | some w => (s.setRegN (o3405.TRACE_START + w) 0xFFFFFFFF).withHealth fun h => { h with traces := h.traces.set w [] }
  | none => s

/-- R311: a free trace window for a pixel whose first column is c: the pixel's two columns, their seep neighbours and
columns on both sides. -/
def State.armWindow (s : State) (c : Nat) : Option Nat × State :=
  match (List.range 8).find? fun w => s.regN (o3405.TRACE_START + w) == 0xFFFFFFFF with
  | some w => (some w, (s.setRegN (o3405.TRACE_START + w) (c - 15)).withHealth fun h => { h with traces := h.traces.set w [] })
  | none => (none, s)

/-- R322: why pipeline p is blind; 0 when it sees. -/
def State.blindCause (s : State) (p : Nat) : Nat :=
  if s.cameraState p = 4 then 1
  else if s.regN (o5403.STATE + p) ≠ 1 then 2
  else if s.sys.inspection.state = .held then 3
  else if s.regionLost 21 then 4
  else if s.noReference p then 5
  else 0

/-- The windows that the inspection of a pipeline uses. -/
def State.inspectWindows (s : State) (p : Nat) : List (Option Nat) :=
  let mine := (s.inspecting p).streaks.map fun x => x.tracked.window
  match s.inspect.recheck with
  | some r => if r.pipeline = p then r.tracked.window :: mine else mine
  | none => mine

/-- R322: a pipeline that has become blind, or sees again. -/
def State.judgeBlind (p : Nat) (s : State) : State :=
  let c := s.blindCause p
  let x := s.inspecting p
  let frame := s.lastFrame p
  let code := if c = 5 then 3 else 0
  if c ≠ 0 ∧ x.blind = 0 then
    let s := (s.inspectWindows p).foldl State.releaseWindow s
    let s := s.withInspect fun q =>
      { q with recheck := match q.recheck with
                 | some r => if r.pipeline = p then none else some r
                 | none => none,
               prober := match q.prober with
                 | some o => if o.1 = p then none else some o
                 | none => none }
    let s := (s.setInspecting p { Inspect.reset with blind := c, zones := x.zones.map fun (z : Zone) => { z with run := 0 } }).setRegN (o5200.STATE + p) code
    (s.showStreaks.putFinding p frame 0x0A { w3 := c }).raise 75 (256 * c + p) 1 21
  else if c = 0 ∧ x.blind ≠ 0 then
    let s := (s.setInspecting p { x with blind := 0, background := [], settings := none }).setRegN (o5200.STATE + p) 1
    s.putFinding p frame 0x0B {}
  else if c ≠ 0 then (s.setInspecting p { x with blind := c }).setRegN (o5200.STATE + p) code
  else s

/-- R322 for both pipelines. -/
def State.judgeBoth (s : State) : State := State.judgeBlind 1 (State.judgeBlind 0 s)

/-- Changes the registration of one zone and rank of pipeline p; rank 0 is even (R320). -/
def State.mapRank (s : State) (p zone rank : Nat) (f : Rank → Rank) : State :=
  let x := s.inspecting p
  let put (z : Zone) : Zone := if rank = 0 then { z with even := f z.even } else { z with odd := f z.odd }
  s.setInspecting p { x with zones := x.zones.modify zone put }

/-- R321: a commit with a correction has been abandoned. -/
def State.trimDropped (s : State) (die : Nat) : State :=
  [0, 1].foldl (fun s p => s.mapRank p (die / 4) (die % 2) fun r => { r with asked := false }) s

/-- R321: a manual write of `DIE_TRIM` stands: a correction of the die that still waits in the queue is not made. -/
def State.dropCorrections (s : State) (die : Nat) : State :=
  let mine (q : CommitSource × List (Nat × Int)) : Bool := q.1 == .firmware && q.2.any fun e => e.1 == o3000.DIE_TRIM + die
  let cut (q : CommitSource × List (Nat × Int)) : CommitSource × List (Nat × Int) :=
    if mine q then (q.1, q.2.filter fun e => e.1 != o3000.DIE_TRIM + die) else q
  if s.modes.queued.any mine then
    { s.trimDropped die with modes := { s.modes with queued := (s.modes.queued.map cut).filter fun q => !(q.1 == .firmware && q.2.isEmpty) } }
  else s

/-- R321: a `DIE_TRIM` comes into force at tide line T: a correction (`mine`) waits for the ramp to be imaged, and another write
lets corrections go on. -/
def State.trimInForce (s : State) (die : Nat) (line : Int) : State :=
  let mine : Bool := match s.modes.commit with
    | some c => c.source == .firmware
    | none => false
  let s := if mine then s else s.dropCorrections die
  [0, 1].foldl (fun s p => s.mapRank p (die / 4) (die % 2) fun r =>
    if mine then { r with asked := false, until_ := if r.asked then some (line + 4096) else r.until_ }
    else { r with limited := false }) s

/-- Changes what inspection traces of a pixel of pipeline p, as a streak or a recheck. -/
def State.mapTracked (s : State) (f : Nat → Tracked → Tracked) : State :=
  s.withInspect fun q =>
    { q with
      units := q.units.zipIdx.map fun (u : Inspect × Nat) =>
        { u.1 with streaks := u.1.streaks.map fun (k : Streak) => { k with tracked := f u.2 k.tracked } },
      recheck := q.recheck.map fun (r : Recheck) => { r with tracked := f r.pipeline r.tracked } }

/-- R311: the inspection pair copies the entries of its trace windows, as far back as `EXPECT_DEPTH`. -/
def State.copyTrace (s : State) (w : Nat) (line : Int) (es : List (Nat × Nat)) : State :=
  let reach := s.expectLines
  s.mapTracked fun _ t =>
    if t.window = some w then { t with trace := (line, es) :: t.trace.filter fun e => decide (line - reach ≤ e.1) } else t

/-- R314, R315: the probe of inspection has its tide line: its owner is judged by its web lines. -/
def State.probeSet (s : State) (line : Int) (lines : Nat) : State :=
  match s.inspect.prober with
  | none => s
  | some (p, x) =>
    let s := s.withInspect fun q =>
      { q with recheck := q.recheck.map fun (r : Recheck) =>
                 if r.pipeline = p ∧ r.tracked.pixel = x then { r with probe := some (line, line + lines) } else r }
    let u := s.inspecting p
    s.setInspecting p { u with streaks := u.streaks.map fun (k : Streak) =>
      if k.pixel = x ∧ k.asked = true then { k with asked := false, probe := some (line, line + lines) } else k }

/-- R314: the commit of inspection's probe has been abandoned, and its owner asks again. -/
def State.probeLost (s : State) : State :=
  match s.inspect.prober with
  | none => s
  | some (p, x) =>
    let mine (r : Recheck) : Bool := r.pipeline == p && r.tracked.pixel == x && r.probe.isNone
    let window := match s.inspect.recheck with
      | some r => if mine r then r.tracked.window else none
      | none => none
    let s := (s.releaseWindow window).withInspect fun q =>
      { q with prober := none, recheck := q.recheck.filter fun r => !mine r }
    let u := s.inspecting p
    s.setInspecting p { u with streaks := u.streaks.map fun (k : Streak) =>
      if k.pixel = x ∧ k.asked = true then { k with asked := false, probes := k.probes - 1 } else k }

/-- An entry to PRINT or PROOF that begins the web lines anew (R61): the expected image, the excused cells and the traces of
the run before are no longer of these lines; a probe that was not imaged in time is asked for again, and a recheck ends. -/
def State.restartInspection (s : State) : State :=
  let clear (t : Tracked) : Tracked := { t with trace := [], samples := [] }
  let again (seen : Int) (k : Streak) : Streak :=
    let short : Bool := match k.probe with
      | some (_, b) => decide (seen < b)
      | none => false
    { k with tracked := clear k.tracked, probe := none, probes := if short then k.probes - 1 else k.probes }
  let rank (r : Rank) : Rank := { r with until_ := none }
  let zone (z : Zone) : Zone := { z with even := rank z.even, odd := rank z.odd }
  let windows := match s.inspect.recheck with
    | some r => [r.tracked.window]
    | none => []
  let lines (u : Inspect) : Int := s.webLine u.seenTo
  (windows.foldl State.releaseWindow s).withInspect fun q =>
    { q with bands := [], excused := [], recheck := none,
             units := q.units.map fun (u : Inspect) =>
               { u with streaks := u.streaks.map (again (lines u)), zones := u.zones.map zone, seenTo := 0 } }

/-- R314: a probe has ended; the next may be asked for. -/
def State.probeFree (s : State) : State := s.withInspect fun q => { q with prober := none }

/-- R317: held proposals leave when the in-force state of their nozzle changes through another source: `was` is the map
before. -/
def State.reviewHeld (was : List (Nat × Nat)) (s : State) : State :=
  let now := s.health.inForce
  let gone := s.inspect.held.filter fun h => stateIn was h.nozzle != stateIn now h.nozzle
  let s := s.withInspect fun q => { q with held := q.held.filter fun h => stateIn was h.nozzle == stateIn now h.nozzle }
  let s := s.setRegN o5203.HELD s.inspect.held.length
  gone.foldl (fun s h =>
    let w0 := h.words.getD 0 0
    (s.incReg o5203.DISCARDED).ringPut 8 ((w0 - place (bits w0 31 24) 31 24 + place 7 31 24) :: h.words.drop 1)) s

end Sys2Proof.Machine
end

