-- ==== Sys2Proof/Machine/Lamps.lean ====
section
/-! DEFINITION. Machine/Lamps.lean: chapter 12, the light: windows, pulses, measurements, derating and what switches it
off. -/
namespace Sys2Proof.Machine

/-- The light of pipeline p. -/
def State.lamp (s : State) (p : Nat) : Lamp := s.light.units.getD p Lamp.reset

/-- Replaces the light of pipeline p. -/
def State.setLamp (s : State) (p : Nat) (x : Lamp) : State := { s with light := { s.light with units := s.light.units.set p x } }

/-- `STATE` of the light of pipeline p (Table 12-5). -/
def State.lampState (s : State) (p : Nat) : Nat := s.regN (o5403.STATE + p)

/-- A change of `STATE` of a light, with what it means for inspection (R322). -/
def State.setLampState (s : State) (p v : Nat) : State := State.judgeBlind p (s.setRegN (o5403.STATE + p) v)

/-- The fitted rows of pipeline p, ascending (R325, R327). -/
def State.lampRows (s : State) (p : Nat) : List Nat :=
  ((List.range 4).map fun i => 4 * p + i).filter fun i => s.regN (o5400.ON_NS + i) != 0

/-- The fitted columns (R327). -/
def State.lampColumns (s : State) : List Nat := (List.range 16).filter fun j => bit (s.regN o5400.COLS_FITTED) j

/-- The sum of `ON_NS` + `BLANK_NS` over the rows of pipeline p. -/
def State.lampSpan (s : State) (p : Nat) : Nat :=
  (s.lampRows p).foldl (fun n i => n + s.regN (o5400.ON_NS + i) + s.regN o5400.BLANK_NS) 0

/-- R330: whether the pulses fit the exposure of pipeline p. -/
def State.lampFits (s : State) (p : Nat) : Bool :=
  !s.flag (o5400.ENABLE + p) ||
    decide (s.lampSpan p + (if s.flag (o5400.ENABLE + (1 - p)) then s.lampSpan (1 - p) else 0)
      + 2 * s.regN o5400.EDGE_GUARD_NS ≤ s.regN (o5002.EXPOSURE_NS + p))

/-- R327: whether the sense voltage of every fitted column is within 20 to 200 mV. -/
def State.columnsFit (s : State) : Bool :=
  s.lampColumns.all fun j =>
    let uv := s.regN (o5401.COL_CURRENT_MA + j) * s.regN o5401.SENSE_MOHM
    decide (20000 ≤ uv ∧ uv ≤ 200000)

/-! ### Pulses -/

/-- R328: the window opens at a line trigger; on a diagnostic line each fitted row gets 500 ns instead (R334). -/
def State.openWindow (s : State) (p exposure : Nat) (diag : Bool) : State :=
  let x := s.lamp p
  let closed : Option Nat := x.window.map fun (w : Exposure) => s.now - w.ends
  let gap : Bool := match closed with
    | some g => decide (500 + 2 * s.regN o5400.EDGE_GUARD_NS ≤ g)
    | none => true
  let rows := if s.lampState p = 1 then
      (s.lampRows p).map fun i => (i, if diag then 500 else s.regN (o5400.ON_NS + i)) else []
  s.setLamp p { x with window := some { opens := s.now, ends := s.now + exposure, diag := diag, rows := rows },
                       lines := if diag then 0 else x.lines + 1, gapless := if diag ∨ gap then 0 else x.gapless + 1 }

/-- R333: the rows of pipeline p that need diagnostic pulses. -/
def State.diagRows (s : State) (p : Nat) : List Nat := (s.lampRows p).filter fun i => decide (s.regN (o5400.ON_NS + i) < 500)

/-- R334: whether the first line of a frame diagnoses, because no closed gap came within the period. -/
def State.diagLineDue (s : State) (p : Nat) : Bool :=
  let x := s.lamp p
  s.lampState p == 1 && !(s.diagRows p).isEmpty && decide (s.regN o5400.DIAG_PERIOD_LINES ≤ x.lines ∧ s.regN o5400.DIAG_PERIOD_LINES ≤ x.gapless)

/-- Whether the columns are free: no pulse is on, and `BLANK_NS` has passed since the last (R329). -/
def State.columnsFree (s : State) : Bool :=
  s.light.pulse.all (fun q => decide (q.start + q.span ≤ s.now)) &&
    decide (s.light.lastEnd = 0 ∨ s.light.lastEnd + s.regN o5400.BLANK_NS ≤ s.now)

/-- A pulse begins on a row. -/
def State.startPulse (s : State) (row ns : Nat) : State :=
  let s := { s with light := { s.light with pulse := some { row := row, start := s.now, span := ns },
                                            lastEnd := s.now + ns } }
  s.emit (.light row ns (s.lamp (row / 4)).current)

/-- Whether the first pending pulse of pipeline p may start now by its window (R328), and when the window ends; the pulses of a
diagnostic line may end after it (R334). -/
def State.pulseEligible (s : State) (p : Nat) : Option Nat :=
  let guard_ := s.regN o5400.EDGE_GUARD_NS
  if s.lampState p ≠ 1 then none
  else match (s.lamp p).window with
    | some w =>
      match w.rows with
      | (_, ns) :: _ =>
        if w.opens + guard_ ≤ s.now ∧ (w.diag = true ∨ s.now + ns + guard_ ≤ w.ends) then some w.ends else none
      | [] => none
    | none => none

/-- R329: the pipeline that the columns are granted to: the window that ends first, and pipeline 0 on a tie. -/
def State.granted (s : State) : Option Nat :=
  match s.pulseEligible 0, s.pulseEligible 1 with
  | some a, some b => some (if b < a then 1 else 0)
  | some _, none => some 0
  | none, some _ => some 1
  | none, none => none

/-- LIGHT_PULSE (R328, R329). -/
def State.lightPulse (row : Nat) (s : State) : State :=
  let p := row / 4
  if 8 ≤ row ∨ s.granted ≠ some p ∨ s.columnsFree = false ∨ s.triggers p = false then s
  else
    let x := s.lamp p
    match x.window with
    | none => s
    | some w =>
      match w.rows with
      | [] => s
      | (r, ns) :: rest =>
        if r ≠ row then s
        else (s.setLamp p { x with window := some { w with rows := rest } }).startPulse row ns

/-- The row after one in a rotation over some rows. -/
def nextInTurn (rows : List Nat) (last : Nat) : Option Nat :=
  match rows.find? fun i => decide (last < i) with
  | some i => some i
  | none => rows.head?

/-- R333: whether a pulse of 500 ns fits between the end of the window and the next trigger as predicted. -/
def State.gapNow (s : State) (p : Nat) : Bool :=
  let guard_ := s.regN o5400.EDGE_GUARD_NS
  let after_ : Bool := match (s.lamp p).window with
    | some w => decide (w.ends + guard_ ≤ s.now)
    | none => true
  let before_ : Bool := match s.timeTo (s.cameraPosition p (s.pipeline p).nextLine) with
    | some t => decide (500 + guard_ ≤ t)
    | none => true
  after_ && before_

/-- DIAG_PULSE (R333, R338): a diagnostic pulse of 500 ns, or the next pulse of a restore test. -/
def State.diagPulse (p : Nat) (s : State) : State :=
  let x := s.lamp p
  if 2 ≤ p ∨ s.columnsFree = false then s
  else if s.lampState p = 4 then
    match x.testing with
    | some (row :: rest, seen) =>
      let now_ := if s.triggers p then s.gapNow p else decide (x.testedAt = 0 ∨ x.testedAt + 10000 ≤ s.now)
      if now_ then
        (s.setLamp p { x with testing := some (rest, seen), testedAt := s.now }).startPulse row 500
      else s
    | _ => s
  else if s.lampState p = 1 ∧ s.triggers p = true ∧ s.regN o5400.DIAG_PERIOD_LINES ≤ x.lines ∧ s.gapNow p = true then
    match nextInTurn (s.diagRows p) x.lastRow with
    | some row => (s.setLamp p { x with lines := 0, gapless := 0, lastRow := row }).startPulse row 500
    | none => s
  else s

/-! ### Faults -/

/-- Every row of a pipeline goes off (R336). -/
def State.lampOff (s : State) (p : Nat) : State :=
  let x := s.lamp p
  let s := s.setLamp p { x with window := x.window.map (fun (w : Exposure) => { w with rows := [] }), testing := none }
  let mine : Bool := match s.light.pulse with
    | some q => q.row / 4 == p
    | none => false
  let l := s.light
  let s := if mine then { s with light := { l with pulse := none, lastEnd := min l.lastEnd s.now } } else s
  s.emit (.lightOff p)

/-- The light stops at SAFE-HOLD (Table 19-3). -/
def State.lightsOff (s : State) : State :=
  let s := { s with light := { s.light with pulse := none,
                                            units := s.light.units.map (fun (x : Lamp) => { x with window := none, testing := none }) } }
  s.emit (.lightOff 2)

/-- The bit of a segment in `FAILED_SEGMENTS`: its subindex and its number. -/
def segmentBit (seg : Nat) : Nat × Nat := (o5403.FAILED_SEGMENTS + seg / 64, seg % 64)

/-- R336: a segment has failed. -/
def State.segmentFailed (s : State) (seg : Nat) : State :=
  let p := seg / 64
  let s := (s.lampOff p).setRegBit (segmentBit seg).1 (segmentBit seg).2 true
  (s.setLampState p 2).raise 76 (256 * (seg / 16) + seg % 16) 1 20

/-- What a measurement of a column under a current of k/16 finds: 0 good, 1 open, 2 short (R332). -/
def State.segmentFinding (s : State) (column k current drain : Nat) : Nat :=
  if 160 * current < 9 * (s.regN (o5401.COL_CURRENT_MA + column) * k) then 1
  else if s.regN o5401.SHORT_MV < drain then 2 else 0

/-- SEGMENT_MEASURE (R332, R335): column current in mA and drain voltage in mV, 400 to 500 ns into a pulse. -/
def State.measureSegment (column current drain : Nat) (s : State) : State :=
  match s.light.pulse with
  | none => s
  | some q =>
    if q.span < 500 ∨ s.now < q.start + 400 ∨ q.start + 500 < s.now ∨ s.lampColumns.contains column = false then s
    else
      let p := q.row / 4
      let x := s.lamp p
      let seg := 16 * q.row + column
      let found := s.segmentFinding column x.current current drain
      let s := s.incReg o5403.DIAG_DONE
      let before_ := s.light.suspect.find? fun e => e.1 == seg
      let rest := s.light.suspect.filter fun e => e.1 != seg
      let put (s : State) (l : List (Nat × Nat)) : State := { s with light := { s.light with suspect := l } }
      match x.testing with
      | some (rows, seen) =>
        let s := if found ≠ 0 ∧ before_ ≠ some (seg, found) then s.incReg o5403.DIAG_SUSPECT else s
        let s := put s (if found = 0 then rest else (seg, found) :: rest)
        s.setLamp p { s.lamp p with testing := some (rows, seen ++ [(seg, found)]) }
      | none =>
        if found = 0 then put s rest
        else if before_ = some (seg, found) then (put s rest).segmentFailed seg
        else (put s ((seg, found) :: rest)).incReg o5403.DIAG_SUSPECT

/-- LIGHT_COLUMN_FAULT (R337): a column's current in mA, during a pulse or while no row is on. -/
def State.columnFault (column current : Nat) (s : State) : State :=
  let full := s.regN (o5401.COL_CURRENT_MA + column)
  let on : Option Pulse := match s.light.pulse with
    | some q => if s.now < q.start + q.span then some q else none
    | none => none
  let bad := match on with
    | some q => decide (125 * full * (s.lamp (q.row / 4)).current < 1600 * current)
    | none => decide (full < 10 * current)
  if s.lampColumns.contains column = false ∨ bad = false then s
  else
    let s := ((s.lampOff 0).lampOff 1).emit (.lightOff 2)
    let s := s.setRegBit o5403.FAILED_COLUMNS column true
    ((s.setLampState 0 2).setLampState 1 2).raise 76 (0xFF00 + column) 1 20 true

/-! ### Restore -/

/-- R338: the test of a pipeline in OFF_FAULT starts; what was measured before does not count in it. -/
def State.startTest (s : State) (p : Nat) : State :=
  let s := { s with light := { s.light with suspect := s.light.suspect.filter fun e => e.1 / 64 != p } }
  (s.setLamp p { s.lamp p with testing := some (s.lampRows p, []), testedAt := 0 }).setLampState p 4

/-- R335: whether a segment fails by its measurements in order. -/
def failsTwice : List Nat → Bool
  | a :: b :: rest => (a != 0 && a == b) || failsTwice (b :: rest)
  | _ => false

/-- LIGHT_TEST_DONE (R338): every fitted segment has been measured twice. -/
def State.testDone (p : Nat) (s : State) : State :=
  let x := s.lamp p
  match x.testing with
  | none => s
  | some (rows, seen) =>
    let segs := (s.lampRows p).flatMap fun i => s.lampColumns.map fun j => 16 * i + j
    let of_ (g : Nat) : List Nat := (seen.filter fun e => e.1 == g).map fun e => e.2
    if s.lampState p ≠ 4 ∨ rows ≠ [] ∨ (segs.any fun g => decide ((of_ g).length < 2)) = true then s
    else
      let failed := segs.filter fun g => failsTwice (of_ g)
      let s := s.setLamp p { x with testing := none }
      let s := s.setRegN (o5403.FAILED_SEGMENTS + p) (failed.foldl (fun w g => setBit w (g % 64) true) 0)
      if failed.isEmpty then
        let s := s.setRegN o5403.FAILED_COLUMNS 0
        (s.setLampState p (if s.flag (o5400.ENABLE + p) = false then 0 else if x.hot then 3 else 1)).raise 77 p 0 20
      else s.setLampState p 2

/-! ### Temperature -/

/-- R341: round(2,000 × log₁₀(16 / k)) for k from 0 to 16; 0 stands in no use. -/
def compensation (k : Nat) : Int :=
  ([0, 2408, 1806, 1454, 1204, 1010, 852, 718, 602, 500, 408, 325, 250, 180, 116, 56, 0] : List Int).getD k 0

/-- R340: the largest k by the formula at a temperature in 0.1 °C. -/
def State.derateAt (s : State) (temp : Int) : Nat :=
  let knee := s.reg o5402.KNEE_C
  let zero := s.reg o5402.ZERO_C
  if temp ≤ knee then 16
  else if zero ≤ knee then 0
  else (clamp 0 16 (16 * (zero - temp) / (zero - knee))).toNat

/-- R340: k at a temperature, from the present k: it rises only 1.0 °C below the edge. -/
def State.derateFrom (s : State) (k : Nat) (temp : Int) : Nat :=
  let down := s.derateAt temp
  let up := s.derateAt (temp + 10)
  if down < k then down else if k < up then up else k

/-- R342: the pipeline's light is too hot, its gain does not fit, or its reading is invalid. -/
def State.lampHot (s : State) (p : Nat) : State :=
  let x := s.lamp p
  if x.hot then s
  else
    let s := s.setLamp p { x with hot := true }
    if s.lampState p = 1 then ((s.lampOff p).setLampState p 3).raise 79 p 1 20 else s

/-- R342: the light returns. -/
def State.lampCool (s : State) (p : Nat) : State :=
  let x := s.lamp p
  if x.hot = false then s
  else
    let s := s.setLamp p { x with hot := false }
    if s.lampState p = 3 then s.setLampState p 1 else s

/-- R341: k changes, or the light returns (R342): a settings generation with the compensated gain; LIGHT_DERATED is for
a change. -/
def State.derate (s : State) (p k : Nat) : State :=
  let before_ := s.regN (o5402.DERATE + p)
  let s := (s.setRegN (o5402.DERATE + p) k).setReg (o5402.GAIN_COMP_CDB + p) (compensation k)
  let s := s.newSettings p
  let g := s.regN (o5002.GENERATION + p)
  let frame : Int := (s.pipeline p).nextFrame - 1
  let s := s.setLamp p { s.lamp p with change := some (g, frame) }
  if k = before_ then s else s.raise 78 (256 * k + p) 0 20

/-- R342: whether the light may run at k: neither 0, nor a compensated gain above 4,800. -/
def State.derateOk (s : State) (p k : Nat) : Bool :=
  k != 0 && decide (s.reg (o5002.GAIN_CDB + p) + compensation k ≤ 4800)

/-- NTC_READ (R339 to R342): a reading in 0.1 °C. -/
def State.readNtc (p : Nat) (reading : Int) (s : State) : State :=
  let x := s.lamp p
  if 2 ≤ p then s
  else if reading < -400 ∨ 1500 < reading then
    let since := x.invalidAt.getD s.now
    let s := (s.setReg (o5402.LIGHT_TEMP + p) (-32768)).setLamp p { x with invalidAt := some since }
    if since + 100000000 ≤ s.now then s.lampHot p else s
  else
    let s := (s.setReg (o5402.LIGHT_TEMP + p) reading).setLamp p { x with invalidAt := none }
    let k := s.derateFrom (s.regN (o5402.DERATE + p)) reading
    if s.derateOk p k then
      let back := (s.lamp p).hot
      let s := if k ≠ s.regN (o5402.DERATE + p) ∨ back = true then s.derate p k else s
      s.lampCool p
    else (s.setRegN (o5402.DERATE + p) k).lampHot p

/-- R341: at a frame start, the current takes the k of a change whose generation is in force, or that has waited
`SENSOR_LATENCY` + 2 frames; the Bool says that the frame is uncertain. -/
def State.lampFrame (s : State) (p number : Nat) (inForce : Settings) : State × Bool :=
  let x := s.lamp p
  match x.change with
  | none => (s, false)
  | some (g, frame) =>
    let came := decide ((inForce.number + 65536 - g) % 65536 < 32768)
    let late := decide (frame + s.regN (o5002.SENSOR_LATENCY + p) + 2 < (number : Int))
    if came = true ∨ late = true then
      (s.setLamp p { x with change := none, current := s.regN (o5402.DERATE + p) }, late && !came)
    else (s, false)

/-- A write of `ENABLE` (Table 12-2). -/
def State.enableLamp (s : State) (p : Nat) (on : Bool) : State :=
  let s := s.setFlag (o5400.ENABLE + p) on
  let failed := decide (s.regN (o5403.FAILED_SEGMENTS + p) ≠ 0 ∨ s.regN o5403.FAILED_COLUMNS ≠ 0)
  if on = false then (s.lampOff p).setLampState p 0
  else if s.lampState p ≠ 0 then s
  else if failed then s.setLampState p 2
  else if (s.lamp p).hot then s.setLampState p 3 else s.setLampState p 1

end Sys2Proof.Machine
end

