-- ==== Sys2Proof/Machine/CameraPorts.lean ====
section
/-! DEFINITION. Machine/CameraPorts.lean: chapter 10, what triggers, packets, transactions and lane states do to a pipeline.
The commands of the table that carry them stand in Machine/CameraIntake.lean. -/
namespace Sys2Proof.Machine

/-! ### States of a pipeline -/

/-- A change of `STATE` of a pipeline, with what it means for inspection (R322). -/
def State.setCameraState (s : State) (p v : Nat) : State := State.judgeBlind p (s.setRegN (o5004.STATE + p) v)

/-- R300: lines that are pending are entered as zeros, and the tile buffers are reset. -/
def State.zeroPending (s : State) (p : Nat) (restarted : Bool) : State :=
  let frames := (s.pipeline p).frames
  let s := s.mapPipeline p fun x => { x with feeds := List.replicate 8 { got := 0, held := [] } }
  frames.foldl (fun s f =>
    let g := if restarted then f.restarted.flag 1 else f.restarted
    (s.setFrame p g).flushFrame p g) s

/-- Table 10-7: a pipeline goes BLIND: it triggers nothing and delivers no frames (R300). -/
def State.goBlind (s : State) (p : Nat) : State :=
  ((s.mapPipeline p fun x => { x with frames := [], due := none }).setCameraState p 4).raise 69 p 1 21 true

/-- Table 10-7: the port of a pipeline restarts (R300); the third restart within 10 s leaves it BLIND. -/
def State.restartPort (s : State) (p : Nat) : State :=
  if s.cameraState p ≠ 2 then s
  else
    let s := (s.zeroPending p true).mapPipeline p fun x =>
      { x with restarts := s.now :: x.restarts.filter (fun t => decide (s.now < t + 10000000000)), syncTimes := [],
               failures := 0, write := none,
               pending := match x.pending, x.write with
                 | some g, _ => some g
                 | none, some tr => some tr.settings
                 | none, none => none }
    let s := ((s.incReg (o5004.RESTARTS + p)).setCameraState p 3).raise 69 p 1 21
    if 3 ≤ (s.pipeline p).restarts.length then s.goBlind p else s

/-- `LANE_RATE_MBPS` of the port of a pipeline, as measured from its clock lane (Table 10-9). -/
def State.showLaneRate (s : State) (p mbps : Nat) : State :=
  match s.boundPort p with
  | some port => s.setRegN (o5000.LANE_RATE_MBPS + port) (min 65535 mbps)
  | none => s

/-- CAMERA_RESTART_END (R300): RUNNING when the lanes are in stop state again within 20 ms of the restart, otherwise
BLIND. -/
def State.restartEnd (p : Nat) (ready : Bool) (mbps : Nat) (s : State) : State :=
  if 2 ≤ p ∨ s.cameraState p ≠ 3 then s
  else
    let within := decide (s.now ≤ (s.pipeline p).restarts.headD 0 + 20000000)
    if ready then (if within then (s.setCameraState p 2).showLaneRate p mbps else s.goBlind p)
    else if within then s else s.goBlind p

/-- CAMERA_LANES_READY (Table 10-7): all used lanes in stop state for 100 µs, and deskew done where it is required. -/
def State.lanesReady (p mbps : Nat) (s : State) : State :=
  if 2 ≤ p ∨ s.cameraState p ≠ 1 then s else (s.setCameraState p 2).showLaneRate p mbps

/-- `RESTART` (R300): a BLIND pipeline waits for its camera, and its triggers go on with the line ahead. -/
def State.writeRestart (s : State) (p v : Nat) : State :=
  if v ≠ 1 ∨ s.cameraState p ≠ 4 then s
  else if s.printing then (s.setCameraState p 1).armCamera p else s.setCameraState p 1

/-- The port of a pipeline is lost: its clock lane, or its lanes in ULPS (R30, R279). -/
def State.cameraPortLost (s : State) (port : Nat) : State :=
  match s.portPipeline port with
  | some p => s.restartPort p
  | none => s

/-- CSI_LANE_SYNC_ERROR (Table 10-7). -/
def State.laneSyncError (port : Nat) (s : State) : State :=
  match s.portPipeline port with
  | some p =>
    if s.cameraState p ≠ 2 then s
    else
      let times := s.now :: (s.pipeline p).syncTimes.filter fun t => decide (s.now < t + 1000000)
      let s := s.mapPipeline p fun x => { x with syncTimes := times }
      if 4 ≤ times.length then s.restartPort p else s
  | none => s

/-- R281, R282: an accepted write of `BIND`. -/
def State.bindPipeline (s : State) (p v : Nat) : State :=
  let s := s.setRegN (o5000.BIND + p) v
  if v = 0xFF then
    let s := (s.closeFrame p).zeroPending p false
    (s.mapPipeline p fun x => { x with due := none, write := none, restarts := [], syncTimes := [] }).setCameraState p 0
  else (s.refreshBuffers p).setCameraState p 1

/-- R281: what refuses a write of `BIND`. -/
def State.bindCode (s : State) (p : Nat) (v : Nat) : Nat :=
  if v = 0xFF then 0
  else if s.regN (o5000.BIND + (1 - p)) = v then 0x06000A01
  else if s.regN (o5000.BIND + p) ≠ 0xFF then 0x06000A02 else 0

/-! ### Settings -/

/-- R293: a transaction has ended well. -/
def State.settingsWritten (s : State) (p : Nat) (tr : Transaction) : State :=
  s.mapPipeline p fun x =>
    let point : Int := (x.nextFrame : Int) - 1 + s.regN (o5002.SENSOR_LATENCY + p)
    let old := match x.effects with
      | [] => []
      | e :: rest => e :: rest.filter fun d => decide (d.frame < e.frame) || d.wrote.isSome
    { x with write := none, sent := tr.codes, failures := 0, waitSync := false,
             effects := { frame := point, settings := tr.settings, wrote := some s.now } :: pruneEffects x.oldest old }

/-- CAMERA_I2C_START (R292): a pending generation is written, at once when the next FSYNC is far enough, or at an FSYNC. -/
def State.startWrite (p : Nat) (s : State) : State :=
  let x := s.pipeline p
  match x.pending, x.write, s.boundPort p with
  | some g, none, some port =>
    let tr := s.settingsWrites p g
    let time := s.writeTime p tr + s.regN o5002.WRITE_GUARD_US * 1000
    let far : Bool := match s.timeToSync p with
      | some t => decide (time ≤ t)
      | none => true
    if 2 ≤ p ∨ s.cameraState p = 4 ∨ (x.syncCame = false ∧ (x.waitSync = true ∨ far = false)) then s
    else
      let s := s.setPipeline p { x with pending := none, syncCame := false, write := some tr }
      if tr.writes.isEmpty then s.settingsWritten p tr
      else s.emit (.i2c port (s.regN (o5000.I2C_ADDR + port)) tr.writes)
  | _, _, _ => s

/-- CAMERA_I2C_DONE (R293, R294): the transaction ends, acknowledged or not. -/
def State.writeDone (p : Nat) (acknowledged : Bool) (s : State) : State :=
  let x := s.pipeline p
  match x.write with
  | none => s
  | some tr =>
    if 2 ≤ p then s
    else if acknowledged then s.settingsWritten p tr
    else
      let failures := x.failures + 1
      let s := s.setPipeline p { x with failures := failures, write := some { tr with tries := tr.tries + 1 } }
      if 10 ≤ failures ∧ s.cameraState p = 2 then s.restartPort p
      else if tr.tries + 1 < 3 then
        match s.boundPort p with
        | some port => s.emit (.i2c port (s.regN (o5000.I2C_ADDR + port)) tr.writes)
        | none => s
      else
        let s := s.mapPipeline p fun x =>
          { x with write := none, waitSync := true, pending := match x.pending with
                     | some g => some g
                     | none => some tr.settings,
                   frames := x.frames.map fun f => if f.closed then f else f.flag 6 }
        (s.incReg (o5004.CONTROL_FAULTS + p)).raise 68 p 0 21

/-- R293: an FSYNC falls: each transaction that ended less than `WRITE_GUARD_US` before it counts for the frame that
starts, and the frames on either side of its effect point are uncertain. -/
def State.syncSettings (s : State) (p : Nat) : State :=
  let guard_ := s.regN o5002.WRITE_GUARD_US * 1000
  let late (e : EffectPoint) : Bool := match e.wrote with
    | some t => decide (s.now < t + guard_)
    | none => false
  let settle (e : EffectPoint) : EffectPoint :=
    { e with frame := if late e then e.frame + 1 else e.frame, wrote := none }
  s.mapPipeline p fun x =>
    { x with syncCame := x.pending.isSome && x.write.isNone,
             effects := x.effects.map settle,
             uncertain := ((x.effects.filter late).flatMap fun e => [e.frame, e.frame + 1]) ++
               x.uncertain.filter fun n => decide (x.oldest ≤ n) }

/-! ### Frames and triggers -/

/-- A frame starts with the trigger of its first line (R288 to R290, R296, R297). -/
def State.startFrame (s : State) (p : Nat) (j : Int) : State :=
  let s := ((s.closeFrame p).refreshBuffers p).syncSettings p
  let buffer := s.freeBuffer p
  let x := s.pipeline p
  let (s, late) := s.lampFrame p x.nextFrame (x.settingsOf x.nextFrame)
  let flags := (if buffer.isNone then 1 else 0) + (if late then 128 else 0) + (if s.cameraState p = 3 then 2 else 0)
  let restarting := decide (s.cameraState p ≠ 2)
  let f : Frame := { Frame.none with number := x.nextFrame, first := j, start := s.localTime s.now, buffer := buffer,
                                     flags := flags, closed := false, begun := restarting, ended := restarting,
                                     lost := restarting }
  let s := s.mapPipeline p fun x => { x with frames := x.frames ++ [f], nextFrame := x.nextFrame + 1 }
  if buffer.isNone then s.spillFrame p else s

/-- Whether a frame starts with camera line j (R288, R289, R396): by time at the first line triggered in a new period. -/
def State.frameStarts (s : State) (p : Nat) (j : Int) : Bool :=
  if s.framesByTime p = false then
    decide (j % (s.regN (o5003.FRAME_LINES + p) : Int) = 0) || (s.pipeline p).triggered.isNone
  else
    (s.pipeline p).period != some (s.localTime s.now / (s.regN (o5003.FRAME_PERIOD_US + p) * 1000))

/-- The last line that a frame may hold closes it (R288, R289). -/
def State.closeFull (s : State) (p : Nat) : State :=
  match (s.pipeline p).triggered with
  | some f => if s.regN (o5003.FRAME_LINES + p) ≤ f.slots.length then s.closeFrame p else s
  | none => s

/-- A camera line joins the frame that is being triggered, when there is one: lost in a restart (R300), and missing from a frame
that the camera has ended (R290). -/
def State.addLine (s : State) (p : Nat) (kind : CameraSlot) : State :=
  match (s.pipeline p).triggered with
  | none => s
  | some f =>
    let f := if f.lost then { f with slots := f.slots ++ [if kind = .zero then .zero else .lost] }
      else if f.ended then { f.flag 2 with slots := f.slots ++ [.zero] }
      else { f with slots := f.slots ++ [kind] }
    (s.setFrame p f).flushFrame p f

/-- CAMERA_LINE_TRIGGER (R286 to R290, R334): the time of the next trigger, committed by the estimate, has come. -/
def State.lineTrigger (p : Nat) (s : State) : State :=
  let s := State.commitTrigger false s p
  let s := s.extrapolate s.now
  let x := s.pipeline p
  let j := x.nextLine
  if 2 ≤ p ∨ s.triggers p = false ∨ x.due.all (fun d => decide (fireTime s.now < d)) = true then s
  else
    match s.boundPort p with
    | none => s
    | some port =>
      let sync := s.frameStarts p j
      let period := s.localTime s.now / (s.regN (o5003.FRAME_PERIOD_US + p) * 1000)
      let s := s.setPipeline p { x with nextLine := j + 1, due := none, period := some period }
      let s := if sync then s.startFrame p j else s
      let width := s.regN (o5003.TRIG_WIDTH_NS + p)
      let inFrame := (s.pipeline p).triggered.isSome
      if inFrame = true ∧ s.regN (o5003.MAX_PENDING + p) ≤ (s.pipeline p).pendingLines then
        let s := (s.incReg (o5004.TRIGGERS_SKIPPED + p))
        let s := if sync then s.emit (.sync port width) else s
        let s := s.addLine p .zero
        match (s.pipeline p).triggered with
        | some f =>
          let (s, f) := s.tellFrame p 66 (f.flag 3)
          (s.setFrame p f).closeFull p
        | none => s
      else
        let diag := sync && s.diagLineDue p
        let s := s.emit (.trigger port width sync)
        let s := s.openWindow p (s.settingsNow p).exposure diag
        if diag then
          let s := ((s.incReg o5403.DIAG_LINES).incReg (o5004.LINES_BAD + p)).addLine p .diag
          match (s.pipeline p).triggered with
          | some f =>
            let (s, f) := s.tellFrame p 64 (f.flag 5)
            (s.setFrame p f).closeFull p
          | none => s
        else (s.addLine p .due).closeFull p

/-! ### The camera's packets -/

/-- A header with one bit wrong is corrected and counted (R299). -/
def State.headerFix (s : State) (p header : Nat) : State := if header = 1 then s.incReg (o5004.ECC_CORRECTED + p) else s

/-- R299: a bad sensor line of a frame; more than 16 in one frame restart the port (Table 10-7). -/
def State.badLine (s : State) (p : Nat) : State :=
  match (s.pipeline p).receiving with
  | none => s
  | some f =>
    let s := s.incReg (o5004.LINES_BAD + p)
    let (s, f) := s.tellFrame p 64 ({ f with bad := f.bad + 1 }.flag 5)
    s.setFrame p f

/-- R284: a tile's line joins its feed, unless its pipeline line has been merged; then the frame merges as far as it
goes. -/
def State.feedLine (s : State) (p tile : Nat) (line : Option (List Nat)) : State :=
  match (s.pipeline p).receiving with
  | none => s
  | some f =>
    let t := (s.pipeline p).feeds.getD tile { got := 0, held := [] }
    let merged := dueSlots (f.slots.take f.lines.length)
    let t' : TileFeed := { got := t.got + 1,
                           held := if t.got < merged ∨ 8 ≤ t.held.length then t.held else t.held ++ [line] }
    let s := s.mapPipeline p fun x => { x with feeds := x.feeds.set tile t' }
    s.flushFrame p f

/-- CSI_LINE_PACKET (R279, R280, R283 to R285, R299): a pixel long packet. `header` is 0 for a right header, 1 for a
corrected one, 2 for one that cannot be corrected; `codes` are the sensor's pixels in order. -/
def State.linePacket (port header vc dataType : Nat) (crcOk : Bool) (codes : List Nat) (s : State) : State :=
  match s.portPipeline port with
  | none => s
  | some p =>
    if s.cameraState p ≠ 2 then s
    else
      let s := s.headerFix p header
      match (s.tiles p).find? fun i => tileVc (s.tileWord p i) == vc with
      | none => s
      | some i =>
        let w := s.tileWord p i
        let line := if header = 2 ∨ crcOk = false ∨ dataType ≠ tileType w then none else tilePixels w codes
        let late : Bool := match (s.pipeline p).receiving with
          | some f => decide (((s.pipeline p).feeds.getD i { got := 0, held := [] }).got < dueSlots (f.slots.take f.lines.length))
          | none => true
        let s := if line.isNone ∧ late = false then s.badLine p else s
        let s := s.feedLine p i line
        match (s.pipeline p).frames.find? fun f => decide (16 < f.bad) with
        | some _ => if line.isNone then s.restartPort p else s
        | none => s

/-- CSI_EMBEDDED_PACKET (R280): the first 2 of a frame are stored, of at most 4,096 octets each. -/
def State.embeddedPacket (port header vc : Nat) (crcOk : Bool) (data : Octets) (s : State) : State :=
  match s.portPipeline port with
  | none => s
  | some p =>
    if s.cameraState p ≠ 2 then s
    else
      let s := s.headerFix p header
      let known := (s.tiles p).any fun i => tileVc (s.tileWord p i) == vc
      match (s.pipeline p).receiving with
      | none => s
      | some f =>
        if header = 2 ∨ crcOk = false ∨ known = false ∨ 2 ≤ f.embedded.length then s
        else s.setFrame p { f with embedded := f.embedded ++ [data.take 4096] }

/-- CSI_FRAME_START (R290): the oldest frame that the camera has not begun takes the camera's number. -/
def State.frameStart (port header number : Nat) (s : State) : State :=
  match s.portPipeline port with
  | none => s
  | some p =>
    if s.cameraState p ≠ 2 then s
    else
      let s := s.headerFix p header
      if header = 2 then s
      else
        let s := match (s.pipeline p).receiving with
          | some f => s.endCsi p f
          | none => s
        match (s.pipeline p).frames.find? fun f => !f.begun with
        | some f => s.setFrame p { f with begun := true, csi := number % 65536 }
        | none => s

/-- CSI_FRAME_END (R290). -/
def State.frameEndPacket (port header : Nat) (s : State) : State :=
  match s.portPipeline port with
  | none => s
  | some p =>
    if s.cameraState p ≠ 2 then s
    else
      let s := s.headerFix p header
      match (s.pipeline p).receiving with
      | some f => if header = 2 then s else s.endCsi p f
      | none => s

/-- CSI_PACKET_IGNORED (R279): a packet outside the subset whose header is right, or has been corrected. -/
def State.packetIgnored (port header : Nat) (s : State) : State :=
  match s.portPipeline port with
  | none => s
  | some p =>
    if header = 2 then s
    else (s.headerFix p header).incReg (o5004.IGNORED_PACKETS + p)

/-! ### The end of a frame -/

/-- Whether a pixel of a merged line was replaced by zeros. -/
def MergedLine.isZeroed (l : MergedLine) (x : Nat) : Bool := l.zeroed.any fun z => decide (z.1 ≤ x ∧ x < z.1 + z.2)

/-- The pixels of a line from `first`, `n` of them, without those replaced by zeros under R285, R287, R290 or R299 (R298). -/
def MergedLine.measured (l : MergedLine) (first n : Nat) : List Nat :=
  ((l.pixels.zipIdx.drop first).take n).filterMap fun v => if l.isZeroed v.2 && !l.lost then none else some v.1

/-- The mean level of some pixels in 1/16 code; none is stated for no pixel at all (log entry 6). -/
def meanLevel (l : List Nat) : Nat :=
  if l.isEmpty then unsigned 16 (Config.unstated 298 0)
  else (divOpen 298 ((16 * l.foldl (· + ·) 0 : Nat) : Int) l.length).toNat

/-- Table 10-5: the words of a statistics record. -/
def State.frameRecord (s : State) (p : Nat) (f : Frame) (g : Settings) : List Nat :=
  let px := f.lines.flatMap fun l => l.measured 0 l.pixels.length
  let low := if px.isEmpty then unsigned 16 (Config.unstated 298 1) else px.foldl min 4095
  let high := if px.isEmpty then unsigned 16 (Config.unstated 298 2) else px.foldl max 0
  let bad := (f.lines.filter fun l => !l.zeroed.isEmpty && !l.lost).length
  let tile (i : Nat) : Nat :=
    let w := s.tileWord p i
    if tileOn w then meanLevel (f.lines.flatMap fun l => l.measured (tileDest w) (tileWidth w)) else 0
  let four (a : Nat) : Nat := place (tile a) 63 48 + place (tile (a + 1)) 47 32 + place (tile (a + 2)) 31 16 + place (tile (a + 3)) 15 0
  [place f.number 63 32 + place g.number 31 16 + place f.flags 15 8 + p, unsigned 64 (s.webLine f.first), f.start,
   place f.lines.length 63 48 + place f.csi 47 32 + place (px.filter fun v => v == 4095).length 31 0,
   place (meanLevel px) 63 48 + place low 47 32 + place high 31 16 + place bad 15 0,
   place g.exposure 63 32 + place (unsigned 16 g.gain) 31 16, four 0, four 4]

/-- Table 10-4: the words of a frame descriptor. -/
def State.frameDescriptor (s : State) (p : Nat) (f : Frame) (g : Settings) (buffer : Nat) : List Nat :=
  [place f.number 63 32 + place g.number 31 16 + place f.flags 15 8 + place buffer 7 4, unsigned 64 (s.webLine f.first),
   s.bufferAddress p buffer,
   place f.lines.length 63 48 + place (s.lineWidth p) 47 32 + place (f.embedded.foldl (fun n o => n + o.length) 0) 31 0]

/-- Whether a frame's buffer holds a byte of a DRAM channel (R296). -/
def State.frameHolds (s : State) (p : Nat) (f : Frame) (channel address : Nat) : Bool :=
  match f.buffer with
  | some i =>
    let a := s.bufferAddress p i
    bits a 56 56 == channel && decide (bits a 55 0 ≤ address ∧ address < bits a 55 0 + s.bufferSize p)
  | none => false

/-- Table 04-9, ports 4 to 6, and R297: a frame of pipeline p hit by an uncorrectable error is discarded, in progress or after its
end while inspection or the host holds it; a frame that has ended gets its record at once, flagged `DISCARDED`. -/
def State.discardIn (channel address : Nat) (s : State) (p : Nat) : State :=
  let x := s.pipeline p
  match x.frames.find? fun f => s.frameHolds p f channel address with
  | some f => (s.setFrame p { f.flag 0 with buffer := none }).spillFrame p
  | none =>
    match (x.held.filter s.isHeld).find? fun h => s.frameHolds p h.frame channel address with
    | some h =>
      let s := (s.setPipeline p { x with held := x.held.filter fun g => g.frame.number != h.frame.number }).spillFrame p
      s.ringPut 7 (s.frameRecord p (h.frame.flag 0) h.settings)
    | none => s

/-- Table 04-9, ports 4 to 6: the frames whose buffer holds the byte are discarded. -/
def State.frameDiscard (s : State) (channel address : Nat) : State := [0, 1].foldl (State.discardIn channel address) s

/-- FRAME_END (R297, R298): the oldest frame has all its lines: descriptor and statistics record. -/
def State.endFrame (p : Nat) (s : State) : State :=
  let x := s.pipeline p
  match x.frames with
  | [] => s
  | f :: rest =>
    if 2 ≤ p ∨ f.closed = false ∨ f.lines.length < f.slots.length then s
    else
      let g := x.settingsOf f.number
      let f := if x.uncertain.contains (f.number : Int) then f.flag 7 else f
      let s := s.setPipeline p { x with frames := rest }
      let s := (s.incReg (o5004.FRAMES + p)).setRegN (o5002.APPLIED_GEN + p) g.number
      let s := match f.buffer with
        | none => s
        | some b =>
          let full := decide (ringSlots (5 + p) ≤ s.ringEntries (5 + p))
          let h : HeldFrame := { inspected := full, released := false, frame := f, settings := g }
          let s := s.mapPipeline p fun x => { x with held := (x.held.filter s.isHeld) ++ [h] }
          s.ringPut (5 + p) (s.frameDescriptor p f g b)
      s.ringPut 7 (s.frameRecord p f g)

/-- R297: what refuses a write of `HOST_RELEASE`. -/
def State.releaseCode (s : State) (v : Nat) : Nat :=
  let p := bits v 63 63
  if ((s.pipeline p).held.filter s.isHeld).any (fun h => h.frame.number == bits v 31 0) then 0 else 0x04000A03

/-- R297: buffers that nobody holds any more are free, as after a write of `HOST_HOLD`. -/
def State.dropHeld (s : State) : State := [0, 1].foldl (fun s p => s.mapPipeline p fun x => { x with held := x.held.filter s.isHeld }) s

/-- R297: an accepted write of `HOST_RELEASE`. -/
def State.hostRelease (s : State) (v : Nat) : State :=
  let p := bits v 63 63
  let free (h : HeldFrame) : HeldFrame := if h.frame.number = bits v 31 0 then { h with released := true } else h
  s.mapPipeline p fun x => { x with held := (x.held.map free).filter s.isHeld }

end Sys2Proof.Machine
end

