-- ==== Sys2Proof/Machine/HeadCode.lean ====
section
/-! DEFINITION. Machine/HeadCode.lean: chapter 09, the 8b/10b code of a head link lane (R255): code groups with their running
disparity, frames as code groups, and the CRC-16 of R256. A code group is a number of 10 bits, a in bit 9 and j in bit 0;
a running disparity is true where positive. The code groups are those of IEEE 802.3, Table 36-1 (log entry 70). -/
namespace Sys2Proof.Machine

/-- Table 09-2, as 256 + the octet whose bits x and y name the special code group K(x).(y). -/
def symIDLE : Nat := 256 + 0xBC
/-- See `symIDLE`. -/
def symSOFFire : Nat := 256 + 0xFB
/-- See `symIDLE`. -/
def symSOFOrder : Nat := 256 + 0x7C
/-- See `symIDLE`. -/
def symSOFReply : Nat := 256 + 0x5C
/-- See `symIDLE`. -/
def symEOF : Nat := 256 + 0xFD

/-- The special code groups of Table 09-2 for negative running disparity; for positive, every bit is inverted. -/
def specialGroups : List (Nat × Nat) :=
  [(symIDLE, 0b0011111010), (symSOFFire, 0b1101101000), (symSOFOrder, 0b0011110011), (symSOFReply, 0b0011110101),
   (symEOF, 0b1011101000)]

/-- Bits abcdei of Dx.y for negative running disparity. -/
def sixTable : List Nat :=
  [0b100111, 0b011101, 0b101101, 0b110001, 0b110101, 0b101001, 0b011001, 0b111000,
   0b111001, 0b100101, 0b010101, 0b110100, 0b001101, 0b101100, 0b011100, 0b010111,
   0b011011, 0b100011, 0b010011, 0b110010, 0b001011, 0b101010, 0b011010, 0b111010,
   0b110011, 0b100110, 0b010110, 0b110110, 0b001110, 0b101110, 0b011110, 0b101011]

/-- Ones among the low n bits. -/
def onesIn (n v : Nat) : Nat := ((List.range n).filter fun i => bit v i).length

/-- Bits abcdei of Dx.y. -/
def sixOf (rd : Bool) (x : Nat) : Nat :=
  let v := sixTable.getD x 0
  if rd = true ∧ (onesIn 6 v ≠ 3 ∨ x = 7) then 63 - v else v

/-- Bits fghj of Dx.y, by the running disparity before them. -/
def fourOf (rd : Bool) (x y : Nat) : Nat :=
  let alternate : Bool := if rd then x == 11 || x == 13 || x == 14 else x == 17 || x == 18 || x == 20
  let v := if y = 7 ∧ alternate = true then 0b0111
    else [0b1011, 0b1001, 0b0101, 0b1100, 0b1101, 0b1010, 0b0110, 0b1110].getD y 0
  if rd = true ∧ (onesIn 4 v ≠ 2 ∨ y = 3) then 15 - v else v

/-- The running disparity after a sub-block of n bits. -/
def disparityAfter (n v : Nat) (rd : Bool) : Bool :=
  let ones := onesIn n v
  if 2 * ones = n then (if n = 6 then (if v = 0b000111 then true else if v = 0b111000 then false else rd)
    else (if v = 0b0011 then true else if v = 0b1100 then false else rd))
  else decide (n < 2 * ones)

/-- The running disparity after a code group. -/
def groupDisparity (g : Nat) (rd : Bool) : Bool := disparityAfter 4 (g % 16) (disparityAfter 6 (g / 16) rd)

/-- The code group of a symbol: an octet, or a special code group of Table 09-2. -/
def groupOf (rd : Bool) (sym : Nat) : Nat :=
  if 256 ≤ sym then
    let v := ((specialGroups.find? fun p => p.1 == sym).map Prod.snd).getD 0
    if rd then 1023 - v else v
  else
    let six := sixOf rd (sym % 32)
    16 * six + fourOf (disparityAfter 6 six rd) (sym % 32) (sym / 32)

/-- The symbol of a code group received at a running disparity; none is a code error (R255). -/
def symbolOf (rd : Bool) (g : Nat) : Option Nat :=
  match specialGroups.find? fun p => (if rd then 1023 - p.2 else p.2) == g with
  | some p => some p.1
  | none =>
    let six := g / 16
    match (List.range 32).find? fun x => sixOf rd x == six with
    | none => none
    | some x =>
      let mid := disparityAfter 6 six rd
      ((List.range 8).find? fun y => fourOf mid x y == g % 16).map fun y => x + 32 * y

/-- Symbols as code groups, and the running disparity after them. -/
def encodeSymbols (rd : Bool) : List Nat → List Nat × Bool
  | [] => ([], rd)
  | sym :: rest =>
    let g := groupOf rd sym
    let (l, rd') := encodeSymbols (groupDisparity g rd) rest
    (g :: l, rd')

/-- The symbols of received code groups, none for a code error. -/
def decodeGroups (rd : Bool) : List Nat → List (Option Nat)
  | [] => []
  | g :: rest => symbolOf rd g :: decodeGroups (groupDisparity g rd) rest

/-- The octets that stand between a start symbol and EOF; none where a code error or a special code group stands there. -/
def contentOf : List (Option Nat) → Option Octets
  | [] => some []
  | some sym :: rest => if sym < 256 then (contentOf rest).map fun o => BitVec.ofNat 8 sym :: o else none
  | none :: _ => none

/-- The content of a REPLY frame (Table 09-6), CRC-16 included; none where the frame is not one. The die starts each reply
with negative running disparity (R255). -/
def replyContent (groups : List Nat) : Option Octets :=
  match decodeGroups false groups with
  | some a :: some b :: some c :: rest =>
    if a = symIDLE ∧ b = symIDLE ∧ c = symSOFReply ∧ rest.getLast? = some (some symEOF) then contentOf rest.dropLast else none
  | _ => none

/-- The code errors in received code groups (R255). -/
def codeErrorsIn (groups : List Nat) : Nat := ((decodeGroups false groups).filter Option.isNone).length

/-- CRC-16 of R256. -/
def crc16 (o : Octets) : Octets := octetsOf 2 (crcMsb 16 0x1021 0xFFFF o)

/-- The symbols of a frame with its CRC-16, after one IDLE (Tables 09-2 to 09-4). -/
def frameSymbols (start : Nat) (o : Octets) : List Nat :=
  symIDLE :: start :: (o ++ crc16 o).map BitVec.toNat ++ [symEOF]

end Sys2Proof.Machine
end

