-- ==== Sys2Proof/Machine/Heads.lean ====
section
/-! DEFINITION. Machine/Heads.lean: chapter 09, the head dies: identity memory, lifetime figures, link states, orders and
quarantine. -/
namespace Sys2Proof.Machine

/-- Changes the state of chapter 09. -/
def State.withHeads (s : State) (f : Heads → Heads) : State := { s with heads := f s.heads }

/-- Die d. -/
def State.die (s : State) (d : Nat) : Die := Cells.get (fun _ => Die.unfitted) s.heads.dies d

/-- Puts die d. -/
def State.setDie (s : State) (d : Nat) (v : Die) : State :=
  s.withHeads fun h => { h with dies := Cells.put (fun _ => Die.unfitted) h.dies d v }

/-- Changes die d. -/
def State.mapDie (s : State) (d : Nat) (f : Die → Die) : State := s.setDie d (f (s.die d))

/-- The numbers of the fitted dies. -/
def State.fittedDies (s : State) : List Nat := List.range (s.regN o3000.DIES)

/-- Link states of Table 09-17: UP. -/
def Die.up (x : Die) : Bool := x.link == 2

/-! ### Identity memory (Tables 09-9 to 09-11) -/

/-- n octets of an identity memory from an address. -/
def memAt (m : Octets) (a n : Nat) : Octets := (m.drop a).take n

/-- The number at an address. -/
def memNum (m : Octets) (a n : Nat) : Nat := numberOf (memAt m a n)

/-- `DIE_VENDOR` and `DIE_SERIAL`, a die's identity. -/
def identityKey (m : Octets) : Octets := memAt m 2 12

/-- R265: a good identity. -/
def identityGood (m : Octets) : Bool :=
  decide (0x1400 ≤ m.length) && memNum m 60 4 == crc32c (memAt m 0 60) && memNum m 0x23C 4 == crc32c (memAt m 0x40 0x1FC) &&
    memNum m 24 4 == crc32c (memAt m 0x400 0x1000) && memNum m 0 2 == 1 && memNum m 14 2 == 0x4096 &&
    decide (memNum m 16 1 ≤ 7) && decide (memNum m 17 1 ≤ 7) && decide (memNum m 22 2 ≤ 254)

/-- The factory dead-nozzle list as (row, column). -/
def deadList (m : Octets) : List (Nat × Nat) :=
  ((List.range (memNum m 22 2)).map fun i => memNum m (0x40 + 2 * i) 2).filterMap fun n =>
    if n < 4096 then some (n / 1024, n % 1024) else none

/-- The lifetime copy at an address, when its CRC is correct (R266). -/
def lifeAt (m : Octets) (a : Nat) : Option Life :=
  let o := memAt m a 64
  if o.length = 64 ∧ memNum o 60 4 = crc32c (o.take 60) then
    some { seq := memNum o 0 4, fires := (List.range 4).map fun r => memNum o (4 + 8 * r) 8, kwLines := memNum o 36 8,
           poweredMin := memNum o 44 4, hotStops := memNum o 48 2, quarantines := memNum o 50 2 }
  else none

/-- A lifetime copy (Table 09-11). -/
def lifeOctets (l : Life) : Octets :=
  let o := octetsOf 4 l.seq ++ (l.fires.take 4).flatMap (octetsOf 8) ++ octetsOf 8 l.kwLines ++ octetsOf 4 l.poweredMin ++
    octetsOf 2 l.hotStops ++ octetsOf 2 l.quarantines ++ octetsOf 8 0
  o ++ octetsOf 4 (crc32c o)

/-- R266: the copy that counts, 0 or 1, and its figures. -/
def lifeOf (m : Octets) : Option (Nat × Life) :=
  match lifeAt m 0x240, lifeAt m 0x280 with
  | some a, some b => if 0 < signed 32 ((b.seq + (2 ^ 32 - a.seq)) % 2 ^ 32) then some (1, b) else some (0, a)
  | some a, none => some (0, a)
  | none, some b => some (1, b)
  | none, none => none

/-- R266: the lifetime figures a die counts from: its own, those kept in flash, or 0. -/
def State.lifeFrom (s : State) (m : Octets) : Life :=
  match lifeOf m with
  | some x => x.2
  | none =>
    match s.flash.lifetimes.find? fun x => x.1 == identityKey m with
    | some x => (lifeAt x.2 0).getD Life.zero
    | none => Life.zero

/-- `POWERED_MIN` now: minutes with the link UP. -/
def State.poweredMin (s : State) (x : Die) : Nat :=
  x.life.poweredMin + (if x.up then (s.now - x.upAt) / 60000000000 else 0)

/-- The lifetime figures of a die now. -/
def State.lifeNow (s : State) (d : Nat) : Life := { (s.die d).life with poweredMin := s.poweredMin (s.die d) }

/-- Resistance rank of a die. -/
def Die.rank (x : Die) : Nat := memNum x.memory 16 1

/-- Table 09-13 in 0.1 Ω. -/
def rankNominal (r : Nat) : Nat := [1000, 1057, 1114, 1171, 1229, 1286, 1343, 1400].getD r 1000

/-! ### Orders -/

/-- The lowest-numbered lane of a die that has not failed. -/
def Die.lane (x : Die) : Nat := ((List.range 8).find? fun i => !bit x.lanesBad i).getD 0

/-- R254, R505, Table 20-3: the forwarded clocks run from start-up on in every mode, until FCLK or the island 6 PLL is
lost. -/
def State.forwardClocks (s : State) : Bool := !s.sys.inReset && !s.islandLost 6

/-- Sends symbols on a lane as code groups (R255); nothing goes out without its clock. -/
def State.sendSymbols (s : State) (lane : Nat) (syms : List Nat) : State :=
  if s.forwardClocks = false then s
  else
    let (groups, rd) := encodeSymbols (Cells.get (fun _ => 0) s.heads.disparity lane == 1) syms
    (s.withHeads fun h =>
      { h with disparity := Cells.put (fun _ => 0) h.disparity lane (if rd then 1 else 0) }).emit (.headFrame lane groups)

/-- Sends an ORDER frame on a lane (Table 09-4). -/
def State.orderOn (s : State) (lane op arg : Nat) (data : Octets) : State :=
  s.sendSymbols lane (frameSymbols symSOFOrder (octetsOf 1 op ++ octetsOf 2 arg ++ data))

/-- R262: what a lane has sent in the present line period. -/
def State.laneUse (s : State) (lane : Nat) : LaneUse :=
  let u := Cells.get (fun _ => LaneUse.idle) s.heads.uses lane
  if u.line = s.firingLine then u
  else { u with line := s.firingLine, polled := false, resent := false, ordered := false }

/-- Notes what a lane sends. -/
def State.useLane (s : State) (lane : Nat) (f : LaneUse → LaneUse) : State :=
  s.withHeads fun h => { h with uses := Cells.put (fun _ => LaneUse.idle) h.uses lane (f (s.laneUse lane)) }

/-- Sends an order on the lowest-numbered working lane of a die; a poll sent before an ID_WRITE says nothing of it (R267). -/
def State.headOrder (s : State) (d : Nat) (o : Nat × Nat × Octets) : State :=
  let lane := 8 * d + (s.die d).lane
  let s := (s.orderOn lane o.1 o.2.1 o.2.2).useLane lane fun u => { u with ordered := true }
  if o.1 = 0x30 then s.mapDie d fun x => { x with polls := x.polls.map fun q => { q with fresh := false } } else s

/-- R262: the orders of a die that wait go out, in PRINT and PROOF one in a line period. -/
def State.flushOrders (d : Nat) : List (Nat × Nat × Octets) → State → State
  | [], s => s.mapDie d fun x => { x with orders := [] }
  | o :: rest, s =>
    if s.printing = true ∧ (s.laneUse (8 * d + (s.die d).lane)).ordered = true then
      s.mapDie d fun x => { x with orders := o :: rest }
    else State.flushOrders d rest (s.headOrder d o)

/-- Whether a die's link carries polls and orders: UP and RESYNC. -/
def State.carries (s : State) (d : Nat) : Bool := let l := (s.die d).link; l == 2 || l == 3

/-- Sends an order that acts on the whole die, when its turn comes (R262). -/
def State.order (s : State) (d op arg : Nat) (data : Octets := []) : State :=
  if s.carries d then State.flushOrders d ((s.die d).orders ++ [(op, arg, data)]) s else s

/-! ### Link states (Table 09-12) -/

/-- Adds the minutes that the link has been UP, when it leaves UP. -/
def State.leaveUp (s : State) (d : Nat) : State :=
  if (s.die d).up then s.mapDie d fun x => { x with life := { x.life with poweredMin := s.poweredMin x } } else s

/-- The link enters UP: readings start afresh (R538). -/
def State.dieUp (s : State) (d : Nat) : State :=
  s.mapDie d fun x =>
    { x with link := 2, enteredAt := s.now, upAt := s.now, copiedAt := if x.upAt = 0 then s.now else x.copiedAt,
             thermal := { x.thermal with seen := false, soft := false, stale := false, band := 0, since := s.now } }

/-- A row of a die. -/
def State.row (s : State) (d r : Nat) : RowLine := Cells.get (fun _ => RowLine.idle) s.firing.rows (4 * d + r)

/-- Puts a row of a die. -/
def State.setRow (s : State) (d r : Nat) (v : RowLine) : State :=
  { s with firing := { s.firing with rows := Cells.put (fun _ => RowLine.idle) s.firing.rows (4 * d + r) v } }

/-- R269: every row of a die stops at once; each goes on with its next line when the die fires again (R232). The drops of
a line cut short that have not fired are counted in `DROPS_INHIBITED` (R207), and excused (R305). -/
def State.stopRows (s : State) (d : Nat) : State :=
  (List.range 4).foldl (fun s r =>
    let x := s.row d r
    match x.firing with
    | some (l, _) =>
      let left := x.drops.filter fun c => decide (x.bursts ≤ c % 16)
      let s := (s.addReg o3402.DROPS_INHIBITED left.length).excuseColumns l (left.map fun c => 992 * d + c)
      s.setRow d r { x with firing := none, line := l + 1, slot := 0, queue := [], replace := true, sendLine := l + 1,
                            bursts := 0, drops := [] }
    | none => s.setRow d r { x with queue := [], slot := 0 }) s

/-- The link of a die enters a state; polls, orders and what was read before are over. -/
def State.enterLink (s : State) (d st : Nat) : State :=
  s.mapDie d fun x => { x with link := st, enteredAt := s.now, polls := [], again := [], orders := [], reading := [] }

/-- R269: a die's link enters FAILED. -/
def State.dieFails (s : State) (d : Nat) : State :=
  let s := ((s.leaveUp d).enterLink d 5).stopRows d
  let s := (s.setRegBit o3802.LINK_FAILED_MASK d true).setRegBit o3802.QUARANTINE_MASK d true
  s.raise 58 d 1 19

/-- The link enters RETRAIN; the third within 60 s fails. -/
def State.dieRetrain (s : State) (d : Nat) : State :=
  let times := s.now :: (s.die d).retrainAt.filter fun t => decide (s.now < t + 60000000000)
  let s := ((s.leaveUp d).enterLink d 4).mapDie d fun x =>
    { x with retrains := min 255 (x.retrains + 1), retrainAt := times }
  let s := (s.incReg o3800.RETRAINS).raise 57 d 1 19 true
  if 3 ≤ times.length then s.dieFails d else s

/-- The link enters RESYNC on a lane: 16 IDLE go out on it; the third within 1 ms goes to RETRAIN. -/
def State.dieResync (s : State) (lane : Nat) : State :=
  let d := lane / 8
  let times := s.now :: (s.die d).resyncAt.filter fun t => decide (s.now < t + 1000000)
  let s := ((s.leaveUp d).mapDie d fun x => { x with link := 3, enteredAt := s.now, resyncAt := times }).incReg o3800.RESYNCS
  if 3 ≤ times.length then s.dieRetrain d else s.sendSymbols lane (List.replicate 16 symIDLE)

/-- The link enters TRAIN. -/
def State.dieTrain (s : State) (d : Nat) : State :=
  let s := ((s.leaveUp d).enterLink d 1).mapDie d fun x =>
    { x with idOk := false, discardAt := [], resyncAt := [], upAt := 0, thermal := Thermal.unread, idWrites := [] }
  (s.setRegBit o3802.LINK_FAILED_MASK d false).setReg (o3804.DIE_SENSORS + d) 0x8000800080008000

/-- `DIES` is written: dies move into and out of service. -/
def State.fitDies (s : State) (n : Nat) : State :=
  (List.range 64).foldl (fun s d =>
    if d < n then (if (s.die d).link = 0 then s.dieTrain d else s)
    else if (s.die d).link = 0 then s
    else (((s.leaveUp d).enterLink d 0).stopRows d).setRegBit o3802.LINK_FAILED_MASK d false) s

/-- R270: a quarantine mask comes into force. -/
def State.quarantineInForce (s : State) (mask : Nat) : State :=
  let was := s.regN o3802.QUARANTINE_IN_FORCE
  let s := (s.setRegN o3802.QUARANTINE_IN_FORCE mask).withHeads fun h => { h with quarantineOld := was }
  let s := s.setRegN o3802.QUARANTINE_MASK (mask ||| s.regN o3802.LINK_FAILED_MASK)
  (List.range 64).foldl (fun s d =>
    if bit mask d = true ∧ bit was d = false then
      ((s.mapDie d fun x => { x with life := { x.life with quarantines := (x.life.quarantines + 1) % 65536 } }).incReg
        o3802.QUARANTINES).raise 60 d 1 19
    else if bit mask d = false ∧ bit was d = true then s.raise 60 d 0 19 true
    else s) s

/-- Table 17-3, check 5: a fitted die has its link UP and is not quarantined. -/
def State.dieFit (s : State) : Bool :=
  s.fittedDies.any fun d => (s.die d).up && !bit (s.regN o3802.QUARANTINE_IN_FORCE) d

/-- R269: the bits of `QUARANTINE_MASK` that the supervisor has to stage. -/
def State.quarantineDue (s : State) : Bool :=
  let wanted := s.regN o3802.QUARANTINE_MASK
  let carried : Bool := match s.modes.commit with
    | some c => c.entries.any fun e => e.1 == o3802.QUARANTINE_MASK && unsigned 64 e.2 == wanted
    | none => false
  let waits := s.modes.queued.any fun q => q.2.any fun e => e.1 == o3802.QUARANTINE_MASK && unsigned 64 e.2 == wanted
  wanted != s.regN o3802.QUARANTINE_IN_FORCE && !carried && !waits

/-! ### Lifetime figures -/

/-- R267: the next ID_WRITE order of a die's lifetime copy goes out, after a reply has shown `ID_BUSY` clear; with the last
one the copy written counts. -/
def State.sendIdWrite (s : State) (d : Nat) : State :=
  let x := s.die d
  match x.idWrites with
  | [] => s
  | (at_, o) :: rest =>
    if x.orders.any fun q => q.1 == 0x30 then s
    else
      (s.mapDie d fun x => { x with idWrites := rest, copy := if rest.isEmpty then 1 - x.copy else x.copy }).order d 0x30 at_ o

/-- R267: the figures of a die are kept in flash, and the other lifetime copy is written by four orders where its link
carries them. -/
def State.writeLifetime (s : State) (d : Nat) : State :=
  let x := s.die d
  if x.idOk = false then s
  else
    let life := { s.lifeNow d with seq := (x.life.seq + 1) % 2 ^ 32 }
    let o := lifeOctets life
    let at_ := if x.copy = 0 then 0x280 else 0x240
    let key := identityKey x.memory
    let s := { s with flash := { s.flash with lifetimes := (key, o) :: s.flash.lifetimes.filter fun y => y.1 != key } }
    if x.up = false then s.mapDie d fun x => { x with copiedAt := s.now }
    else
      let parts := (List.range 4).map fun i => (at_ + 16 * i, (o.drop (16 * i)).take 16)
      s.mapDie d fun x =>
        { x with life := life, upAt := s.now - (s.now - x.upAt) % 60000000000, idWrites := parts, copiedAt := s.now }

/-- R267: on each entry to CAPPED the copies of every die are written. -/
def State.writeLifetimes (s : State) : State := s.fittedDies.foldl State.writeLifetime s

end Sys2Proof.Machine
end

