-- ==== Sys2Proof/Machine/Streams.lean ====
section
/-! DEFINITION. Machine/Streams.lean: chapter 06, line delays, polders and their streams, lane FIFOs, and what the sluice
admits. -/
namespace Sys2Proof.Machine

/-- Changes the state of chapter 06. -/
def State.withPolders (s : State) (f : Polders → Polders) : State := { s with polders := f s.polders }

/-- Units of 1/256 line of the current pitch in 1/16 line at 1200 lpi (R177). -/
def State.pitchUnits (s : State) : Int := if s.regN o3100.LINE_PITCH = 600 then 8 else 16

/-- A number moved towards a target by at most n. -/
def towards (from_ last_ : Int) (n : Nat) : Int := clamp (from_ - n) (from_ + n) last_

/-- R180: the trim position of a die for web line L by the ramps, newest first; `rest` is the value before them all. -/
def rampAt (die : Nat) (line rest : Int) : List Ramp → Int
  | [] => rest
  | r :: more =>
    if r.die = die ∧ r.line ≤ line then towards r.old r.new ((line - r.line).toNat + 1)
    else if r.die = die then (if more.any fun q => q.die == die then rampAt die line rest more else r.old)
    else rampAt die line rest more

/-- R177, R180: the trim position of a die for web line L, in 1/256 line of the current pitch. -/
def State.trimAt (s : State) (die : Nat) (line : Int) : Int :=
  let k := o3000.DIE_TRIM + die
  let now := s.pitchUnits * s.reg k
  let settled (l : Int) : Int := rampAt die l now s.polders.ramps
  match s.modes.commit with
  | some c =>
    if c.stage = .settled ∧ s.printing ∧ c.line ≤ line then
      match c.entries.find? fun e => e.1 == k with
      | some e => towards (settled (c.line - 1)) (s.pitchUnits * e.2) ((line - c.line).toNat + 1)
      | none => settled line
    else settled line
  | none => settled line

/-- A ramp begins as a `DIE_TRIM` comes into force at its tide line (R180); outside PRINT and PROOF it is complete at once
(log entry 19). -/
def State.startRamp (s : State) (die : Nat) (line value : Int) : State :=
  let k := o3000.DIE_TRIM + die
  if s.printing then
    let old := rampAt die (line - 1) (s.pitchUnits * s.reg k) s.polders.ramps
    let r : Ramp := { die := die, line := line, old := old, new := s.pitchUnits * value }
    (s.setReg k value).withPolders fun p => { p with ramps := r :: p.ramps }
  else (s.setReg k value).withPolders fun p => { p with ramps := p.ramps.filter fun r => r.die != die }

/-- rank(d) + `ROW_OFFSET`(r), in 1/16 line at 1200 lpi (R177). -/
def State.rowDelay (s : State) (die row : Nat) : Int :=
  (if die % 2 = 1 then s.reg o3000.RANK_OFFSET else 0) + s.reg (o3001.ROW_OFFSET + row)

/-- R177: the firing position of row r of die d for web line L, in 1/256 line. -/
def State.rowPosition (s : State) (die row : Nat) (line : Int) : Int :=
  256 * line + s.pitchUnits * s.rowDelay die row + s.trimAt die line

/-- R178: the firing line that a row entry belongs to. -/
def State.rowLine (s : State) (die row : Nat) (line : Int) : Int := s.rowPosition die row line / 256

/-- The largest of a list of numbers, or a floor below it. -/
def largest (floor_ : Int) (l : List Int) : Int := l.foldl max floor_

/-- The delays of some dies in 1/16 line at 1200 lpi, by the trims in force (R177). -/
def State.delaysOf (s : State) (dies : List Nat) : List Int :=
  dies.flatMap fun d => (List.range 4).map fun r => s.rowDelay d r + s.reg (o3000.DIE_TRIM + d)

/-- Lines of the current pitch in n sixteenths of a line at 1200 lpi, rounded up (R176, R179). -/
def State.linesUp (s : State) (n : Int) : Int :=
  let d : Int := if s.regN o3100.LINE_PITCH = 600 then 32 else 16
  (n + d - 1) / d

/-- R179: D. -/
def State.computeDelay (s : State) : Int :=
  max 0 (s.linesUp (largest (-100000) (s.delaysOf (List.range (s.regN o3000.DIES)))))

/-- D and the width of the bar follow their inputs (R15, R179). -/
def State.refreshGeometry (s : State) : State :=
  (s.setReg o3000.LARGEST_DELAY s.computeDelay).setRegN o3000.PRINT_COLUMNS s.printColumns

/-! ### Polders -/

/-- The fitted dies of stream k (0 even, 1 odd) of polder p (R172). -/
def State.streamDies (s : State) (p k : Nat) : List Nat :=
  [4 * p + k, 4 * p + k + 2].filter fun d => decide (d < s.regN o3000.DIES)

/-- Whether a polder serves a fitted die. -/
def State.polderFitted (s : State) (p : Nat) : Bool := decide (4 * p < s.regN o3000.DIES)

/-- Polder p, or with 16 polder S. -/
def State.polder (s : State) (p : Nat) : Polder :=
  if p = 16 then s.polders.spare else s.polders.units.getD p { state := 0, faults := 0, cause := 0 }

/-- Changes polder p, or with 16 polder S. -/
def State.mapPolder (s : State) (p : Nat) (f : Polder → Polder) : State :=
  s.withPolders fun q =>
    if p = 16 then { q with spare := f q.spare } else { q with units := q.units.set p (f (s.polder p)) }

/-- Sets the state of a polder (Table 06-9). -/
def State.setPolder (s : State) (p st : Nat) : State := s.mapPolder p fun q => { q with state := st }

/-- The stream k of polder p. -/
def State.streamOf (s : State) (p k : Nat) : Stream := s.polders.streams.getD (2 * p + k) Stream.idle

/-- Changes the stream k of polder p. -/
def State.mapStream (s : State) (p k : Nat) (f : Stream → Stream) : State :=
  s.withPolders fun q => { q with streams := q.streams.set (2 * p + k) (f (s.streamOf p k)) }

/-- The next web line of the lanes of die d (R172, R185). -/
def State.dieNext (s : State) (d : Nat) : Int :=
  let x := s.streamOf (d / 4) (d % 2)
  if d % 4 < 2 then x.next.1 else x.next.2

/-- The smallest of a list of numbers, or a default for none. -/
def smallest (default_ : Int) : List Int → Int
  | [] => default_
  | x :: rest => rest.foldl min x

/-- The lowest web line that a lane of a stream has still to take. -/
def State.streamNext (s : State) (p k : Nat) : Int := smallest 0 ((s.streamDies p k).map s.dieNext)

/-- Whether a stream of polder p has composed every web line before L; one without fitted dies composes none. -/
def State.streamPast (s : State) (p k : Nat) (line : Int) : Bool :=
  (s.streamDies p k).isEmpty || decide (line ≤ s.streamNext p k)

/-- R192, R197: whether the streams of polder p are composed by anyone now. -/
def State.composes (s : State) (p : Nat) : Bool :=
  s.printing && s.polderFitted p &&
    (((s.polder p).state == 1) || (s.polders.serving == some p && s.polders.connected))

/-- R458: the polders in ACTIVE and RETURNING, polder S while it serves or shadows, and the firing edge. -/
def State.participants (s : State) : List Nat :=
  ((List.range 16).filter fun p => (s.polder p).state == 1 || (s.polder p).state == 4) ++
    (if s.polders.spare.state = 9 ∨ s.polders.spare.state = 10 then [16] else []) ++ [19]

/-- Whether polder S shadows (1), or not (0) (R458). -/
def State.spareState (s : State) : Nat := if s.polders.spare.state = 9 then 1 else 0

/-- R458: polder S leaves SHADOWING for STANDBY; the shadowing goes on with the polder it left. -/
def State.spareLeaves (s : State) : State :=
  s.withPolders fun q => { q with spare := { q.spare with state := 8 }, resume := q.shadowed, shadowed := none }

/-- Table 06-4: a polder in RETURNING whose commit is abandoned goes back to ISOLATED. -/
def State.returnAborted (s : State) : State :=
  match s.polders.serving with
  | some p => if (s.polder p).state = 4 then (s.setPolder p 2).withPolders fun q => { q with returnAt := none } else s
  | none => s

/-- R197: a polder has returned, and polder S stands by. -/
def State.finishReturn (s : State) (p : Nat) : State :=
  let s := s.setPolder p 1
  let s := if s.polders.serving = some p then
      (s.setPolder 16 8).withPolders fun q => { q with serving := none, connected := false, returnAt := none }
    else s
  s.raise 42 p 0 p

/-- 3020h:01–11h: status word of polder p or S (Table 06-9). -/
def statusWord (q : Polder) (level : Nat) : Nat := place q.cause 31 28 + place level 24 16 + place q.faults 15 8 + place q.state 3 0

/-! ### Lane FIFOs -/

/-- R186: the level of the lane FIFOs of a die: the firing lines from the current one on that come before the firing line of
the next entry of any row. The lanes of a die have the same row positions, and are written together (log entry 20). -/
def State.dieLevel (s : State) (d : Nat) : Nat :=
  let first := smallest 0 ((List.range 4).map fun r => s.rowLine d r (s.dieNext d))
  min 256 (first - s.firingLine).toNat

/-- R186: the level of the lowest lane FIFO of a stream. -/
def State.fifoLevel (s : State) (p k : Nat) : Nat := ((s.streamDies p k).map s.dieLevel).foldl min 256

/-- The lowest level of a polder's lanes. -/
def State.polderLevel (s : State) (p : Nat) : Nat :=
  if s.printing = false ∨ s.polderFitted p = false then 0 else min (s.fifoLevel p 0) (s.fifoLevel p 1)

/-- R125: the level of the shortest lane FIFO among the polders in service. -/
def State.shortestFifo (s : State) : Nat :=
  (((List.range 16).filter s.composes).map s.polderLevel).foldl min 256

/-- R453: every lane FIFO of every fitted polder holds 256 lines. -/
def State.lanesFilled (s : State) : Bool :=
  (List.range 16).all fun p => !s.polderFitted p || decide (256 ≤ min (s.fifoLevel p 0) (s.fifoLevel p 1))

/-- What a die's lanes hold for a web line: the mask of each of its columns. -/
def Stream.masksAt (x : Stream) (die : Nat) (line : Int) : Option (List Nat) :=
  (x.lines.filter fun l => l.line == line).findSome? fun l => (l.dies.find? fun d => d.1 == die).map Prod.snd

/-- The nozzles of a row of a die that the entry of web line L fires: one Bool per column. -/
def State.rowEntry (s : State) (die row : Nat) (line : Int) : Option (List Bool) :=
  ((s.streamOf (die / 4) (die % 2)).masksAt die line).map fun masks =>
    (List.range 1024).zip masks |>.map fun kv => bit kv.2 (if die ≠ 0 ∧ kv.1 < 32 then 4 + row else row)

/-- R176, R220: the streams start at an entry, with empty history, buffers and lane FIFOs. -/
def State.startStreams (s : State) (entry : Int) : State :=
  let start (n : Nat) : Stream :=
    let ds := s.streamDies (n / 2) (n % 2)
    let at_ := match s.delaysOf ds with
      | [] => entry
      | x :: rest => entry - s.linesUp (largest x rest)
    { Stream.idle with next := (at_, at_) }
  (s.withPolders fun q => { q with streams := (List.range 32).map start, ramps := [], underrun := [] }).enterFreeboard entry

/-- R454: the sluice stops, and the lane FIFOs empty; a return whose commit has settled is complete (R464), and
shadowing ends. -/
def State.stopStreams (s : State) : State :=
  let s := s.withPolders fun q => { q with streams := List.replicate 32 Stream.idle, ramps := [] }
  let s := if s.polders.spare.state = 9 then s.spareLeaves else s
  match s.polders.serving, s.polders.returnAt with
  | some p, some _ => if (s.polder p).state = 4 then s.finishReturn p else s
  | _, _ => s

/-! ### The sluice -/

/-- Block columns that cover the columns of a stream's dies (R173). -/
def State.streamColumns (s : State) (p k : Nat) : List Nat :=
  ((s.streamDies p k).flatMap fun d =>
    (List.range (s.blockColumns)).filter fun j => decide (256 * j < 992 * d + 1024 ∧ 992 * d < 256 * j + 256)).eraseDups

/-- The chunk that holds web line L of a stream. -/
def Stream.chunkAt (x : Stream) (line : Int) : Option Chunk :=
  x.bufs.find? fun c => decide (c.first ≤ line ∧ line ≤ c.last)

/-- Whether a stream has a band buffer for a band that begins at `base` (R173). -/
def Stream.hasRoom (x : Stream) (base : Int) : Bool :=
  let bases := (x.bufs.map fun c => c.base).eraseDups
  bases.contains base || decide (bases.length < 2)

/-- Whether web line L fires on no row because its page was aborted while firing (Table 04-5). -/
def State.abortedAt (s : State) (line : Int) : Bool :=
  match s.pageAt line with
  | some p =>
    match p.abortAt with
    | some a => decide ((a : Int) ≤ line)
    | none => false
  | none => false

/-- The page and band that hold web line L: the page, the band's number and its first and last web line; none where no
page holds it or it has been aborted. -/
def State.bandAt (s : State) (line : Int) : Option (Page × Nat × Int × Int) :=
  if s.abortedAt line then none else
  match s.pageAt line with
  | none => none
  | some p =>
    let b := (line - p.start).toNat / 64
    let base : Int := p.start + 64 * b
    some (p, b, base, min (base + 63) ((p.endLine : Int) - 1))

/-- R159, R124: the pixels of one block as a stream takes them: none where it is admitted blank. `faults` names the block
columns whose decode fails, and whether a mirror copy decodes. -/
def State.admitBlock (s : State) (p : Page) (b j : Nat) (faults : List (Nat × Bool)) (polder : Nat) (lines : List Int) :
    Option (Nat × List Nat) × State :=
  match p.resident (b * p.columns + j) with
  | none => (none, s)
  | some x =>
    let blank (s : State) : State := lines.foldl (fun s l => (s.blankLine l 6).2) s
    if x.lost then (none, blank s)
    else
      let pixels := match decodeBlock x.data with
        | .inr px => px
        | .inl _ => []
      match faults.find? fun f => f.1 == j with
      | none => (some (j, pixels), s)
      | some f =>
        if x.mirrored && f.2 then (some (j, pixels), s.raise 33 polder 0 polder)
        else (none, (blank s).raise 33 polder 1 polder)

/-- R197: from its tide line on, web lines are a returning polder's again. -/
def State.hasReturned (s : State) (line : Int) : Bool :=
  match s.polders.returnAt with
  | some l => decide (l ≤ line)
  | none => false

/-- Admits web lines first to last of a band to a stream with the blocks it can read; the expected-image builder reads them
too (R303), and the columns of a block that cannot be read are excused (R305). -/
def State.admitLines (s : State) (polder k : Nat) (p : Page) (b : Nat) (base first last : Int) (faults : List (Nat × Bool)) :
    State :=
  let who := if s.polders.serving = some polder ∧ s.hasReturned first = false then 16 else polder
  let lines := (List.range ((last - first).toNat + 1)).map fun (i : Nat) => first + (i : Int)
  let (tiles, s) := (s.streamColumns polder k).foldl (fun (acc : List (Nat × List Nat) × State) j =>
    let (t, s) := State.admitBlock acc.2 p b j faults who lines
    (match t with
      | some t => t :: acc.1
      | none => acc.1, s)) ([], s)
  let blanks := (s.streamColumns polder k).filter fun j => !(tiles.any fun t => t.1 == j)
  let s := blanks.foldl (fun s j => lines.foldl (fun s l => s.excuse l (256 * j) (256 * j + 255)) s) s
  let s := s.expectTiles base (min (base + 63) ((p.endLine : Int) - 1)) tiles
  s.mapStream polder k fun x =>
    { x with bufs := x.bufs ++ [{ base := base, first := first, last := last, tiles := tiles }] }

/-- The bar columns of a stream's dies on a web line are excused, because the line fires blank there (R305). -/
def State.excuseStream (s : State) (polder k : Nat) (line : Int) : State :=
  (s.streamDies polder k).foldl (fun s d => s.excuse line (992 * d) (992 * d + 1023)) s

/-- Whether every block of a band that covers a stream's columns is resident, on a committed page (R173). -/
def State.bandReady (s : State) (polder k : Nat) (p : Page) (b : Nat) : Bool :=
  p.committed && (s.streamColumns polder k).all fun j => (p.resident (b * p.columns + j)).isSome

/-- R173, R175: the next web line that a stream has still to be admitted: the lowest one that lies in a page, that no band
buffer holds and that no lane has taken; lines in no page come in between without admission. -/
def State.admitNext (s : State) (polder k : Nat) : Option Int :=
  let x := s.streamOf polder k
  let from_ := s.streamNext polder k
  let starts := from_ :: (x.bufs.map fun c => c.last + 1) ++ s.pageStore.pages.map fun p => (p.start : Int)
  let able := starts.filter fun l =>
    decide (from_ ≤ l) && (x.bufs.all fun c => decide (l < c.first ∨ c.last < l)) && (s.bandAt l).isSome
  match able with
  | [] => none
  | l :: rest => some (smallest l (l :: rest))

/-- SLUICE_ADMIT_BAND (R173, R175): the rest of the band that holds the stream's next line. -/
def State.admitBand (polder k : Nat) (faults : List (Nat × Bool)) (s : State) : State :=
  if 16 ≤ polder ∨ 2 ≤ k ∨ s.composes polder = false then s
  else
    let x := s.streamOf polder k
    match s.admitNext polder k with
    | none => s
    | some at_ =>
      match s.bandAt at_ with
      | none => s
      | some (p, b, base, last) =>
        if x.hasRoom base ∧ s.bandReady polder k p b then s.admitLines polder k p b base at_ last faults else s

/-- SLUICE_STARVE_LINE (R124, R175): one line admitted blank where data is missing; a block that is resident is decoded by R159. -/
def State.starve (polder k : Nat) (faults : List (Nat × Bool)) (s : State) : State :=
  if 16 ≤ polder ∨ 2 ≤ k ∨ s.composes polder = false then s
  else
    let x := s.streamOf polder k
    let at_ := s.streamNext polder k
    match s.bandAt at_ with
    | none => s
    | some (p, b, base, _) =>
      if (x.chunkAt at_).isSome ∨ s.bandReady polder k p b ∨ 32 < s.fifoLevel polder k ∨ x.hasRoom base = false then s
      else
        let s := s.starveLine at_
        if p.committed then s.admitLines polder k p b base at_ at_ faults
        else (s.excuseStream polder k at_).mapStream polder k fun x =>
          { x with bufs := x.bufs ++ [{ base := base, first := at_, last := at_, tiles := [] }] }

/-- The pixel of a bar column on web line L of a chunk. -/
def Chunk.pixel (c : Chunk) (line : Int) (col : Nat) : Nat :=
  match c.tiles.find? fun t => t.1 == col / 256 with
  | some t => t.2.getD (256 * (line - c.base).toNat + col % 256) 0
  | none => 0

end Sys2Proof.Machine
end

