-- ==== Sys2Proof/Machine/Energy.lean ====
section
/-! DEFINITION. Machine/Energy.lean: chapter 08, pulse entries and bursts, the fit check and current budget, and the
temperatures of the dies with what they lead to. -/
namespace Sys2Proof.Machine

/-- φ(d) of R227 by a stagger mode. -/
def phaseOf (stagger d : Nat) : Nat := if stagger = 1 then d % 8 else 0

/-! ### Pulse entries (Table 08-3) -/

/-- The fields of a pulse entry with a trim on its main pulse. -/
def entryBurst (e : Nat) (trim : Int) : Burst :=
  { preCount := bits e 63 62, preWidth := bits e 61 52, preGap := bits e 51 42,
    main := ((bits e 41 30 : Nat) + trim).toNat, kwWidth := bits e 29 20, kwCount := bits e 19 18 }

/-- Class of a die energy word (Table 08-10). -/
def energyClass (w : Nat) : Nat := bits w 15 13

/-- `MAIN_TRIM` of a die energy word. -/
def energyTrim (w : Nat) : Int := signed 8 (bits w 7 0)

/-- R234 to R237, R248: the pulse entry that a slot of row r of die d takes for web line L now. -/
def State.burstFor (s : State) (d r : Nat) (line : Int) : Burst :=
  let x := (s.die d).thermal
  let w := unsigned 16 (s.regAt (o3602.DIE_ENERGY + d) line)
  let e := unsigned 64 (s.regAt (o3601.PULSE_ENTRY + 8 * energyClass w + x.band) line)
  let b := entryBurst e (energyTrim w + s.regAt (o3603.ROW_TRIM + r) line)
  if x.soft ∨ x.stale ∨ x.hot ∨ x.seen = false then { b with preCount := 0 } else b

/-- Length of a print burst (Table 08-2). -/
def Burst.printSpan (b : Burst) : Nat := b.preCount * (b.preWidth + b.preGap) + b.main

/-- Length of a keep-warm burst (R239). -/
def Burst.warmSpan (b : Burst) : Nat := b.kwCount * b.kwWidth + (b.kwCount - 1) * b.preGap

/-- The pulses of a print burst: rise after the slot start, and width. -/
def Burst.printPulses (b : Burst) : List (Nat × Nat) :=
  ((List.range b.preCount).map fun (i : Nat) => (i * (b.preWidth + b.preGap), b.preWidth)) ++
    [(b.preCount * (b.preWidth + b.preGap), b.main)]

/-- The pulses of a keep-warm burst. -/
def Burst.warmPulses (b : Burst) : List (Nat × Nat) :=
  (List.range b.kwCount).map fun (j : Nat) => (j * (b.kwWidth + b.preGap), b.kwWidth)

/-! ### Fit check and current budget (R238 to R241); `look` gives a subindex its value after the write -/

/-- R238: the fit slot for a `MAX_LINE_RATE`. -/
def fitSlotFor (rate : Nat) : Nat := 255 * 1000000000 * 1000000 / (256 * 16 * rate * 78125)

/-- `FIT_SLOT` now. -/
def State.fitSlot (s : State) : Nat := fitSlotFor (max 1 (s.regN o3100.MAX_LINE_RATE))

/-- The entries of class c, bands 0 to 7. -/
def entriesOf (look : Nat → Int) (c : Nat) : List Nat :=
  (List.range 8).map fun b => unsigned 64 (look (o3601.PULSE_ENTRY + 8 * c + b))

/-- The bursts of every entry in use by a die, with its trims on every row. -/
def burstsOf (look : Nat → Int) (d : Nat) : List Burst :=
  let w := unsigned 16 (look (o3602.DIE_ENERGY + d))
  (entriesOf look (energyClass w)).flatMap fun e =>
    (List.range 4).map fun r => entryBurst e (energyTrim w + look (o3603.ROW_TRIM + r))

/-- Fields of a pulse entry in their ranges (Table 08-3). -/
def entryRanges (e : Nat) : Bool :=
  let pw := bits e 61 52
  let pg := bits e 51 42
  let mw := bits e 41 30
  let kw := bits e 29 20
  decide (192 ≤ pw ∧ pw ≤ 512 ∧ 256 ≤ pg ∧ pg ≤ 384 ∧ 1280 ≤ mw ∧ mw ≤ 2816 ∧ 192 ≤ kw ∧ kw ≤ 512) && bits e 17 0 == 0

/-- R234: every entry of the tables keeps its main width in range with the trims of every fitted die and every row. -/
def mainsOk (look : Nat → Int) (dies : Nat) : Bool :=
  let mains := ((List.range 64).map fun i => bits (unsigned 64 (look (o3601.PULSE_ENTRY + i))) 41 30).eraseDups
  let trims := ((List.range dies).map fun d => energyTrim (unsigned 16 (look (o3602.DIE_ENERGY + d)))).eraseDups
  let rows := ((List.range 4).map fun r => look (o3603.ROW_TRIM + r)).eraseDups
  mains.all fun w => trims.all fun t => rows.all fun r => decide (1280 ≤ w + t + r ∧ w + t + r ≤ 2816)

/-- R239: what a burst set leaves of the fit slot, the print and keep-warm bursts of each entry. -/
def spareOf (fit : Nat) (b : Burst) : List Int :=
  ((fit : Int) - b.printSpan - 512) :: (if b.kwCount = 0 then [] else [(fit : Int) - b.warmSpan - 512])

/-- `FIT_SPARE`: the smallest spare over all entries in use, dies and rows. -/
def fitSpare (look : Nat → Int) (dies : Nat) : Int :=
  let fit := fitSlotFor (max 1 (look o3100.MAX_LINE_RATE).toNat)
  let l := (List.range dies).flatMap fun d => (burstsOf look d).flatMap (spareOf fit)
  l.foldl min fit

/-- R241: the pulses of every burst of a die's class over all bands, offset by its phase, as (rise, width). -/
def diePulses (look : Nat → Int) (fit d : Nat) : List (Nat × Nat) :=
  let off := (divOpen 241 ((phaseOf (look o3600.STAGGER_MODE).toNat d * fit : Nat) : Int) 8).toNat
  (burstsOf look d).flatMap fun b => (b.printPulses ++ b.warmPulses).map fun (p : Nat × Nat) => (p.1 + off, p.2)

/-- Whether a die conducts at a step of the fit slot; the phases repeat from slot to slot. -/
def highAt (fit step : Nat) (l : List (Nat × Nat)) : Bool :=
  l.any fun p => decide ((step + fit - p.1 % fit) % fit < p.2)

/-- R241: the largest sum, as (heaters, current in 0.1 A as numerator, denominator): each die that conducts counts 256
heaters of its rank's nominal resistance. Only a rise of some pulse, or step 0, can begin a largest sum. -/
def peakOf (look : Nat → Int) (fit : Nat) (dies : List (Nat × Nat)) : Nat × Nat × Nat :=
  let pulses := dies.map fun (d : Nat × Nat) => (d.2, (diePulses look fit d.1).eraseDups)
  let steps := (0 :: pulses.flatMap fun (p : Nat × List (Nat × Nat)) => p.2.map fun q => q.1 % fit).eraseDups
  let volts := (look o3600.HEAD_VOLTAGE_MV).toNat
  let product := (List.range 8).foldl (fun n r => n * rankNominal r) 1
  let at_ (step : Nat) : Nat × Nat :=
    pulses.foldl (fun (a : Nat × Nat) p =>
      if highAt fit step p.2 then (a.1 + 256, a.2 + 256 * volts * (product / rankNominal p.1)) else a) (0, 0)
  let best := steps.foldl (fun (a : Nat × Nat) step =>
    let b := at_ step
    if a.2 < b.2 then b else a) (0, 0)
  (best.1, best.2, 10 * product)

/-- R241: the fitted dies that can draw current, with their ranks: those whose identity is good (R265). -/
def State.drawing (s : State) : List (Nat × Nat) :=
  s.fittedDies.filterMap fun d => if (s.die d).idOk then some (d, (s.die d).rank) else none

/-- R239, R241: the answer to a write after which subindexes have the values of `look`; 0 when the set fits. -/
def State.fitCode (s : State) (look : Nat → Int) : Nat :=
  let dies := (look o3000.DIES).toNat
  let entries := (List.range 64).all fun i => entryRanges (unsigned 64 (look (o3601.PULSE_ENTRY + i)))
  if entries = false ∨ mainsOk look dies = false then 0x04000602
  else if fitSpare look dies < 0 then 0x04000601
  else
    let budget := (look o3600.CURRENT_BUDGET).toNat
    if budget = 0 then 0
    else
      let p := peakOf look (fitSlotFor (max 1 (look o3100.MAX_LINE_RATE).toNat)) s.drawing
      if budget * p.2.2 < p.2.1 then 0x04000603 else 0

/-- Whether a write of a subindex runs the fit check (R239). -/
def fitChecked (k : Nat) : Bool :=
  let i := k / 256
  i == 0x3601 || i == 0x3602 || i == 0x3603 || k == o3600.STAGGER_MODE || k == o3100.MAX_LINE_RATE ||
    k == o3600.CURRENT_BUDGET || k == o3600.HEAD_VOLTAGE_MV

/-! ### Temperatures -/

/-- The valid sensors of a die. -/
def Thermal.valid (x : Thermal) : List Int := x.sensors.filterMap fun v => v

/-- Highest valid sensor. -/
def Thermal.highest (x : Thermal) : Option Int :=
  match x.valid with
  | [] => none
  | v :: rest => some (rest.foldl max v)

/-- Whether the mean of the valid sensors is below a temperature; false when none is valid. -/
def Thermal.meanBelow (x : Thermal) (t : Int) : Bool :=
  let l := x.valid
  !l.isEmpty && decide (l.foldl (· + ·) 0 < t * l.length)

/-- Whether the mean of the valid sensors is at or below a temperature. -/
def Thermal.meanAtMost (x : Thermal) (t : Int) : Bool :=
  let l := x.valid
  !l.isEmpty && decide (l.foldl (· + ·) 0 ≤ t * l.length)

/-- R247: a limit in force for a die: the lower of the table's and its own. -/
def limitOf (table own : Int) : Int := if own = 0 then table else min table own

/-- `SOFT_LIMIT` in force for a die. -/
def State.softLimit (s : State) (x : Die) : Int :=
  limitOf (s.reg o3610.SOFT_LIMIT) (signed 16 (memNum x.memory 18 2))

/-- `HARD_LIMIT` in force for a die. -/
def State.hardLimit (s : State) (x : Die) : Int :=
  limitOf (s.reg o3610.HARD_LIMIT) (signed 16 (memNum x.memory 20 2))

/-- R236: the band after a reading, from a band, by the seven edges, lowest first. -/
def bandFrom (edges : List Int) (x : Thermal) : Nat → Nat → Nat
  | 0, b => b
  | fuel + 1, b =>
    if b < 7 ∧ x.meanBelow (edges.getD b 0) = false ∧ x.valid ≠ [] then bandFrom edges x fuel (b + 1)
    else if 0 < b ∧ x.meanAtMost (edges.getD (b - 1) 0 - 5) then bandFrom edges x fuel (b - 1)
    else b

/-- R263: which readings of one reply are valid; `flags` are the die's own. -/
def validReadings (values : List Int) (flags : Nat) : List (Option Int) :=
  let first := (values.zipIdx).map fun (p : Int × Nat) =>
    if bit flags (3 - p.2) = true ∧ -400 ≤ p.1 ∧ p.1 ≤ 1500 then some p.1 else none
  (first.zipIdx).map fun (p : Option Int × Nat) =>
    match p.1 with
    | none => none
    | some v =>
      let others := (first.zipIdx).filterMap fun (q : Option Int × Nat) => if q.2 = p.2 then none else q.1
      if 2 ≤ others.length then
        let n : Int := others.length
        let sum := others.foldl (· + ·) 0
        if ((v * n - sum).natAbs : Int) ≤ 100 * n then some v else none
      else some v

/-- R248: above the soft limit, or no longer. -/
def State.judgeSoft (s : State) (d : Nat) : State :=
  let x := s.die d
  match x.thermal.highest with
  | none => s
  | some v =>
    let limit := s.softLimit x
    if x.thermal.soft = false ∧ limit ≤ v then
      (s.mapDie d fun x => { x with thermal := { x.thermal with soft := true } }).raise 52 d 0 19
    else if x.thermal.soft = true ∧ v < limit - s.reg o3610.SOFT_HYST then
      s.mapDie d fun x => { x with thermal := { x.thermal with soft := false } }
    else s

/-- R249, R251: the hard limit stops a die, and releases it. -/
def State.judgeHard (s : State) (d : Nat) : State :=
  let x := s.die d
  match x.thermal.highest with
  | none => s
  | some v =>
    let limit := s.hardLimit x
    if x.thermal.hot = false ∧ limit ≤ v then
      let s := s.mapDie d fun x =>
        { x with thermal := { x.thermal with hot := true },
                 life := { x.life with hotStops := (x.life.hotStops + 1) % 65536 } }
      (s.incReg o3610.HOT_STOPS).raise 53 d 1 19
    else if x.thermal.hot = true ∧ v ≤ limit - s.reg o3610.HARD_RELEASE then
      (s.mapDie d fun x => { x with thermal := { x.thermal with hot := false } }).raise 53 d 0 19 true
    else s

/-- The word of 3804h for a die. -/
def sensorWord (l : List (Option Int)) : Nat :=
  l.foldl (fun n v => n * 65536 + match v with
    | some x => unsigned 16 x
    | none => 0x8000) 0

/-- R236, R247 to R251, R263: a die's sensors are read. -/
def State.takeSensors (s : State) (d : Nat) (values : List Int) (flags : Nat) : State :=
  let read := validReadings values flags
  let s := (s.mapDie d fun x => { x with thermal := { x.thermal with sensors := read } }).setRegN (o3804.DIE_SENSORS + d)
    (sensorWord read)
  if read.all fun v => v.isNone then s
  else
    let edges := (List.range 7).map fun i => s.reg (o3603.BAND_EDGE + i)
    let s := s.mapDie d fun x =>
      let t := { x.thermal with seen := true, stale := false, since := s.now }
      { x with thermal := { t with band := bandFrom edges t 8 t.band } }
    (s.judgeSoft d).judgeHard d

/-- R247, R538: no valid reading for `STALE_MS` since the last one, or since the link entered UP. -/
def State.tempStale (d : Nat) (s : State) : State :=
  let x := s.die d
  if 64 ≤ d ∨ x.link < 2 ∨ x.upAt = 0 ∨ x.thermal.stale = true then s
  else if x.thermal.since + s.regN o3610.STALE_MS * 1000000 ≤ s.now then
    (s.mapDie d fun x => { x with thermal := { x.thermal with stale := true } }).raise 54 d 1 19
  else s

/-- The temperature conditions of R244 for a keep-warm line on a die. -/
def State.warmable (s : State) (d : Nat) : Bool :=
  let x := (s.die d).thermal
  s.flag o3610.KW_ENABLE && x.seen && !x.soft && !x.stale && !x.hot && x.meanBelow (s.reg o3610.KW_TARGET)

/-- R233: whether the firing edge clears the fire bit of a nozzle on web line L; `mask` the dies in quarantine. -/
def State.barred (s : State) (m : List (Nat × Nat)) (mask : Nat) (line : Int) (d col row : Nat) : Bool :=
  let n := nozzle d col row
  let st := stateIn m n
  bit mask d || s.health.inhibited.contains n || st == 3 ||
    (st == 2 && s.probeRow line (992 * d + col) != some row)

/-- R207: the quarantine mask that a row line is fired by: that of its own generation, and from the tide line on also for
the lines before it (log entry 21). -/
def State.firingQuarantine (s : State) (d r : Nat) (line : Int) : Nat := s.quarantineAt (max line (s.rowLine d r line))

/-- R243: the keep-warm set of a row of a die on web line L, one Bool per column. -/
def State.warmSet (s : State) (d row : Nat) (line : Int) : List Bool :=
  let m := s.healthAt line
  let mask := s.firingQuarantine d row line
  (List.range 1024).map fun c =>
    let n := nozzle d c row
    !(bit mask d || s.health.inhibited.contains n || stateIn m n == 3)

/-- 3611h: the thermal word of a die (Table 08-14). `SOFT` also reads 1 while R247 or R538 treats the die as above its soft
limit (log entry 32). -/
def State.thermalWord (s : State) (d : Nat) : Nat :=
  let x := (s.die d).thermal
  let soft := x.soft || x.stale || ((s.die d).up && !x.seen)
  let high := match x.highest with
    | some v => unsigned 16 v
    | none => 0x8000
  let warm := match x.warmed with
    | some t => decide (s.now ≤ t + s.regN o3610.KW_PERIOD_US * 1000)
    | none => false
  let b (on : Bool) (n : Nat) : Nat := if on then 2 ^ n else 0
  place high 31 16 + place x.band 15 13 + b x.stale 3 + b x.hot 2 + b soft 1 + b warm 0

/-- 3610h:0C and 0D: the die with the highest sensor now, and that temperature. -/
def State.hottest (s : State) : Option (Nat × Int) :=
  s.fittedDies.foldl (fun (b : Option (Nat × Int)) d =>
    match (s.die d).thermal.highest, b with
    | some v, some y => if y.2 < v then some (d, v) else b
    | some v, none => some (d, v)
    | none, _ => b) none

end Sys2Proof.Machine
end

