-- ==== Sys2Proof/Machine/Firing.lean ====
section
/-! DEFINITION. Machine/Firing.lean: chapters 02, 08 and 09, the pulse scheduler: slots predicted, committed and started,
row lines decided at their boundaries, keep-warm lines and FIRE frames. -/
namespace Sys2Proof.Machine

/-- R227: the firing position of slot g of row r of die d for web line L, in 1/256 line of the current pitch. -/
def State.slotPosition (s : State) (d r : Nat) (line : Int) (g : Nat) : Int :=
  s.rowPosition d r line + 16 * g + 2 * phaseOf (s.regN o3600.STAGGER_MODE) d

/-! ### Row lines -/

/-- The web line that a row fires or fires next. -/
def RowLine.current (x : RowLine) : Int :=
  match x.firing with
  | some (l, _) => l
  | none =>
    match x.queue with
    | h :: _ => h.line
    | [] => x.line

/-- The columns that the entry of a row for web line L fires; none of an aborted page (Table 04-5). -/
def State.dropsOf (s : State) (d r : Nat) (line : Int) : Option (List Nat) :=
  match s.rowEntry d r line with
  | none => none
  | some e => some (if s.abortedAt line then [] else (List.range 1024).filter fun c => e.getD c false)

/-- R233: the columns that stay of a row line. -/
def State.keptDrops (s : State) (d r : Nat) (line : Int) (drops : List Nat) : List Nat :=
  if drops.isEmpty then []
  else
    let m := s.healthAt line
    let mask := s.firingQuarantine d r line
    drops.filter fun c => !s.barred m mask line d c r

/-- Drops of a row line that count in `DROPS_INHIBITED` (R204, R207). -/
def State.inhibitedDrops (s : State) (d r : Nat) (line : Int) (drops : List Nat) : Nat :=
  let mask := s.firingQuarantine d r line
  (drops.filter fun c => bit mask d || s.health.inhibited.contains (nozzle d c r)).length

/-- A row line that fires no slot (R232): the row goes on with its next web line. -/
def State.dropLine (s : State) (d r : Nat) (line : Int) : State :=
  let x := s.row d r
  let x := { x with queue := x.queue.filter (fun q => q.line != line), firing := none, bursts := 0, drops := [],
                    ended := none, replace := true, sendLine := line + 1 }
  s.setRow d r (if x.line ≤ line then { x with line := line + 1, slot := 0, sendLine := line + 1 } else x)

/-- R187: a row has no entry for the firing line of web line L. -/
def State.uncoverLine (s : State) (d r : Nat) (line : Int) : State :=
  let f := s.rowLine d r line
  let filling := decide (s.regN o2001.PHASE = 1)
  match s.pageAt line with
  | none =>
    if filling ∨ s.firing.uncovered.contains f then s
    else { (s.incReg o3020.LINES_UNCOVERED) with
             firing := { s.firing with uncovered := (f :: s.firing.uncovered).take 64 } }
  | some p =>
    let s := if s.firing.uncovered.contains f then s else
      { (s.incReg o3020.LINES_UNCOVERED) with firing := { s.firing with uncovered := (f :: s.firing.uncovered).take 64 } }
    let s := (s.blankLine line 4).2
    if s.polders.underrun.contains (p.stream, p.tag) then s
    else
      (s.withPolders fun q => { q with underrun := (p.stream, p.tag) :: q.underrun }).raise 43 (8 * d) 1 19

/-- Whether a measurement runs on the sense input of die d (R246). -/
def State.senseBusy (s : State) (d : Nat) : Bool :=
  (s.die d).meter.task.isSome || (s.die (d + 1 - 2 * (d % 2))).meter.task.isSome

/-- R244, R246: whether a row line without drops becomes a keep-warm line at its line boundary, at time `at_` in ns. -/
def State.warmLine (s : State) (d r : Nat) (b : Burst) (at_ : Nat) : Bool :=
  let due : Bool := match (s.row d r).began with
    | some t => decide (t + s.regN o3610.KW_PERIOD_US * 1000 ≤ at_)
    | none => true
  s.printing && s.warmable d && due && b.kwCount != 0 && !s.senseBusy d

/-- R246: whether a keep-warm line runs on a die. -/
def State.warming (s : State) (d : Nat) : Bool :=
  (List.range 4).any fun r =>
    let x := s.row d r
    let riding : Bool := match x.firing with
      | some (_, kw) => kw
      | none => false
    let timed : Bool := match x.warmRun with
      | some (from_, slot, span) => decide (fireTime s.now < from_ + 15 * slot + span)
      | none => false
    riding || timed

/-- A keep-warm line of a die is counted (R243, Table 09-11). -/
def State.countWarm (s : State) (d : Nat) (heaters : Nat) : State :=
  (s.mapDie d fun x =>
    { x with life := { x.life with kwLines := (x.life.kwLines + heaters) % 2 ^ 64 },
             thermal := { x.thermal with warmed := some s.now } }).incReg o3610.KW_LINES

/-- R305: columns of a die on a web line print otherwise than the raster asks. -/
def State.excuseDie (s : State) (d : Nat) (line : Int) (cols : List Nat) : State :=
  s.excuseColumns line (cols.map fun c => 992 * d + c)

/-- What a row does at a line boundary (R66, R187, R231 to R233, R244, R250, R269, R271): the new state, in which a line
that fires is in progress. -/
def State.beginLine (s : State) (d r : Nat) (h : Slot) : State :=
  let x := s.row d r
  let line := h.line
  if h.due < x.guardEnd then ((s.incReg o6402.LINES_SKIPPED).skipLine line).dropLine d r line
  else
    match s.dropsOf d r line with
    | none => ((s.uncoverLine d r line).excuse line (992 * d) (992 * d + 1023)).dropLine d r line
    | some drops =>
      let link := (s.die d).link
      if (s.die d).thermal.hot then
        ((((s.excuseDie d line drops).incReg o3610.HOT_LINES).addReg o3610.HOT_DROPS drops.length).flagLine line 5).dropLine d r line
      else if link = 4 then (((s.excuseDie d line drops).incReg o3800.LINES_MISSED).flagLine line 4).dropLine d r line
      else if link ≠ 2 ∧ link ≠ 3 then
        ((s.excuseDie d line drops).addReg o3402.DROPS_INHIBITED drops.length).dropLine d r line
      else
        let kept := s.keptDrops d r line drops
        let s := s.addReg o3402.DROPS_INHIBITED (s.inhibitedDrops d r line drops)
        let s := s.excuseDie d line (drops.filter fun c => !kept.contains c)
        if kept.isEmpty = false then
          let s := s.mapDie d fun y =>
            { y with life := { y.life with fires := y.life.fires.modify r fun n => (n + kept.length) % 2 ^ 64 } }
          s.setRow d r { x with firing := some (line, false), bursts := 0, began := some s.now, drops := kept, warmRun := none }
        else if drops.isEmpty = true ∧ x.warmSent = some line ∧ s.warmLine d r h.burst s.now = true then
          (s.countWarm d ((s.warmSet d r line).filter id).length).setRow d r
            { x with firing := some (line, true), bursts := 0, began := some s.now, drops := [], warmRun := none }
        else s.dropLine d r line

/-- One burst of a line in progress (R229). -/
def State.fireBurst (s : State) (d r : Nat) (h : Slot) (kw : Bool) : State :=
  let x := s.row d r
  let first := max h.due (fireTime (h.setAt + 40))
  let start := max first x.guardEnd
  let s := (s.incReg o3600.SLOTS_FIRED)
  let s := if first < x.guardEnd then s.incReg o3600.SLOTS_DELAYED else s
  let span := if kw then h.burst.warmSpan else h.burst.printSpan
  let s := s.emit (.burst d r start (if kw then h.burst.warmPulses else h.burst.printPulses))
  let s := if kw then s else s.mapDie d fun y => { y with lastBurst := some s.now }
  s.setRow d r { x with queue := x.queue.drop 1, guardEnd := start + span + 512, bursts := x.bursts + 1,
                        firing := if h.index = 15 then none else x.firing,
                        ended := if h.index = 15 then some (h.line, start + span) else x.ended }

/-- SLOT_START: the committed slot of a row that is first in position order begins (R58, R229 to R240). -/
def State.slotStart (d r : Nat) (s : State) : State :=
  if s.regN o3000.DIES ≤ d ∨ 4 ≤ r then s
  else
    let x := s.row d r
    match x.queue with
    | [] => s
    | h :: rest =>
      let start := max (max h.due (fireTime (h.setAt + 40))) (if h.index = 0 then 0 else x.guardEnd)
      let late : Bool := match s.firing.cutoff with
        | some c => decide (fireTime c < start)
        | none => false
      if s.now < start * 5 / 64 then s
      else if late then s.setRow d r { x with queue := rest }
      else if h.index = 0 then
        let s := s.beginLine d r h
        match (s.row d r).firing with
        | some (_, kw) => s.fireBurst d r h kw
        | none => s
      else
        match x.firing with
        | some (l, kw) => if l = h.line then s.fireBurst d r h kw else s.setRow d r { x with queue := rest }
        | none => s.setRow d r { x with queue := rest }

/-! ### The sense input (R273 to R275) -/

/-- The partner of a die on its HSENSE input. -/
def partnerOf (d : Nat) : Nat := d + 1 - 2 * (d % 2)

/-- Whether the meter runs now (R273). -/
def State.meterOn (s : State) : Bool :=
  s.flag o3805.METER_ENABLE && decide (1 ≤ s.mode ∧ s.mode ≤ 5)

/-- Whether the meter may measure a die now. -/
def State.measurable (s : State) (d : Nat) : Bool :=
  (s.die d).meter.idle && !bit (s.regN o3805.SENSE_FAULTS) d && s.meterOn

/-- R274, R275: the next measurement of a die begins: its reference when due, then a confirmation, then its sweep place. -/
def State.startMeasure (s : State) (d : Nat) : State :=
  let m := (s.die d).meter
  let n := if 64 ≤ m.since then 4096 else
    match m.confirm with
    | some (n, _) => n
    | none => 1024 * (m.sweep % 4) + m.sweep / 4
  (s.mapDie d fun x => { x with meter := { x.meter with task := some n } }).order d 0x20 n

/-- R246, R274: the sense input of die d goes on, with the other die when both are idle; never beside a keep-warm line on
either of them. -/
def State.nextMeasure (s : State) (d : Nat) : State :=
  let p := partnerOf d
  if s.senseBusy d || s.warming d || s.warming p then s
  else if s.measurable p then s.startMeasure p
  else if s.measurable d then s.startMeasure d else s

/-- R273: a print burst of a die is committed, so its idle window ends and a measurement is discarded. -/
def State.endIdle (s : State) (d : Nat) : State :=
  let m := (s.die d).meter
  if m.idle = false then s
  else
    let s := s.mapDie d fun x =>
      { x with meter := { x.meter with idle := false, task := none }, thermal := { x.thermal with warmDue := false } }
    if m.task.isSome then ((s.order d 0x21 0).incReg o3805.ABORTED).nextMeasure d else s

/-- Whether the row line that a slot belongs to carries print bursts. -/
def State.printsLine (s : State) (d r : Nat) (line : Int) : Bool :=
  match (s.row d r).firing with
  | some (l, kw) => if l = line then !kw else !(s.keptDrops d r line ((s.dropsOf d r line).getD [])).isEmpty
  | none => !(s.keptDrops d r line ((s.dropsOf d r line).getD [])).isEmpty

/-- SLOT_COMMIT: a row's next slot is committed 200 ns before its predicted time, or at once when that is nearer (R58); a
line in progress outside PRINT and PROOF goes on by its own estimate (R71, log entry 22). -/
def State.slotCommit (d r : Nat) (s : State) : State :=
  if s.regN o3000.DIES ≤ d ∨ 4 ≤ r then s
  else
    let x := s.row d r
    let going : Bool := match x.firing with
      | some (l, _) => l == x.line
      | none => false
    if s.printing = false ∧ going = false then s
    else
      let p := s.slotPosition d r x.line x.slot * 256
      let due : Option Nat :=
        if s.printing then s.reachTime p
        else
          match s.reachTimeBy none p with
          | some t => some t
          | none => some (fireTime s.now + 2560)
      match due with
      | none => s
      | some at_ =>
        if fireTime s.now + 2560 < at_ then s
        else
          let slot : Slot := { line := x.line, index := x.slot, due := at_, setAt := s.now, burst := s.burstFor d r x.line }
          let next := if x.slot = 15 then { x with line := x.line + 1, slot := 0 } else { x with slot := x.slot + 1 }
          let s := if s.printsLine d r x.line then s.endIdle d else s
          s.setRow d r { next with queue := x.queue ++ [slot] }

/-! ### Entry, leave and stop -/

/-- R65, R258, R453: at an entry each row begins with the first web line whose boundary the mark has not passed. -/
def State.rowsStart (s : State) : State :=
  let p := s.firingPos / 256
  let s := { s with firing := { s.firing with uncovered := [], missed := [] } }
  s.fittedDies.foldl (fun s d => (List.range 4).foldl (fun s r =>
    let zero := s.slotPosition d r 0 0
    let line := -((zero - p) / 256)
    s.setRow d r { RowLine.idle with line := line, sendLine := line, tag := (s.row d r).tag,
                                     guardEnd := (s.row d r).guardEnd, began := (s.row d r).began,
                                     warmRun := (s.row d r).warmRun }) s) s

/-- R71, R454: each row finishes the line it is firing, and begins no other. -/
def State.rowsFinish (s : State) : State :=
  let keep (x : RowLine) : RowLine :=
    match x.firing with
    | some (l, _) => { x with queue := x.queue.filter fun q => q.line == l }
    | none => { x with queue := [], slot := 0 }
  (List.range 256).foldl (fun s i => s.setRow (i / 4) (i % 4) (keep (s.row (i / 4) (i % 4)))) s

/-- R503: at a sag, slots of lines in progress start for another 200 µs. -/
def State.rowsSag (s : State) : State :=
  let s := s.rowsFinish
  { s with firing := { s.firing with cutoff := some (s.now + 200000) } }

/-- R480: every strobe goes low. -/
def State.strobesLow (s : State) : State := { s with firing := { s.firing with rows := [] } }

/-! ### FIRE frames -/

/-- R256, Table 09-3: the content of a FIRE frame of one lane. -/
def fireFrame (row : Nat) (replace kw : Bool) (tag : Nat) (segment : List Bool) : Octets :=
  let head := place row 7 6 + (if replace then 32 else 0) + (if kw then 16 else 0) + place tag 3 0
  octetsOf 1 head ++ packBits 16 segment

/-- Sends the FIRE frames of a row line on the die's lanes. -/
def State.sendFire (s : State) (d r : Nat) (replace kw : Bool) (tag : Nat) (fire : List Bool) (lanes : List Nat) : State :=
  lanes.foldl (fun s i =>
    s.sendSymbols (8 * d + i) (frameSymbols symSOFFire (fireFrame r replace kw tag ((fire.drop (128 * i)).take 128)))) s

/-- Firing time at which n symbols that begin now have gone out, of 25 ns each (log entry 71). -/
def State.afterSymbols (s : State) (n : Nat) : Nat := fireTime s.now + 320 * n

/-- Length of the burst that a committed slot of a row carries. -/
def RowLine.spanOf (x : RowLine) (q : Slot) : Nat :=
  if x.firing = some (q.line, true) then q.burst.warmSpan else q.burst.printSpan

/-- R230, R257: the bursts of the current line that a die has counted on a row at a firing time: a burst is counted when its
strobe has been low for 35 ns. -/
def State.countAt (s : State) (d r ft : Nat) : Nat :=
  let x := s.row d r
  match x.warmRun with
  | some (from_, slot, span) => ((List.range 16).filter fun g => decide (from_ + slot * g + span + 448 ≤ ft)).length % 16
  | none =>
    let open_ := if ft + 64 < x.guardEnd then 1 else 0
    let more := x.queue.filter fun q => decide (q.due + x.spanOf q + 448 ≤ ft)
    (x.bursts - open_ + more.length) % 16

/-- R257: the web line that is current on the die at row r of die d now: a line is over when its 16th burst is counted. -/
def State.lineOnDie (s : State) (d r : Nat) : Int :=
  let x := s.row d r
  match x.firing, x.ended with
  | none, some (l, e) => if fireTime s.now < e + 448 then l else x.current
  | _, _ => x.current

/-- R258: whether a frame that goes out now with `TARGET` 0 ends at the die 100 ns before the end of the 16th burst of the
line current there. -/
def State.nextInTime (s : State) (d r : Nat) : Bool :=
  let x := s.row d r
  let done := s.afterSymbols 22 + 1280
  let cur := s.lineOnDie d r
  match x.firing, x.ended with
  | none, some (l, e) => l != cur || decide (done ≤ e)
  | _, _ =>
    match x.queue.find? fun q => q.line == cur && q.index == 15 with
    | some q => decide (done ≤ q.due + x.spanOf q)
    | none => true

/-- R258: whether a frame with `TARGET` 1 that goes out now finds the row's count at 0. -/
def State.currentInTime (s : State) (d r : Nat) : Bool :=
  let x := s.row d r
  x.firing.isNone && s.countAt d r (s.afterSymbols 22) == 0 &&
    (match x.queue.find? fun q => q.index == 0 with
      | some q => decide (s.afterSymbols 22 ≤ q.due)
      | none => true)

/-- The fire bits of a row line, and whether it goes out as a keep-warm line, by the predicted time of its boundary. -/
def State.lineBits (s : State) (d r : Nat) (line : Int) : Option (Bool × List Bool) :=
  match s.dropsOf d r line with
  | none => none
  | some drops =>
    let kept := s.keptDrops d r line drops
    let at_ := match s.reachTime (s.slotPosition d r line 0 * 256) with
      | some f => f * 5 / 64
      | none => s.now
    if drops.isEmpty ∧ s.warmLine d r (s.burstFor d r line) at_ = true then some (true, s.warmSet d r line)
    else some (false, (List.range 1024).map fun c => kept.contains c)

/-- R259: a row line has no frame on a lane in time: it fires blank on the lane's columns. -/
def State.lineMissed (d r : Nat) (line : Int) (s : State) (lane : Nat) : State :=
  let x := s.row d r
  let s := s.excuse line (992 * d + 128 * lane) (992 * d + 128 * lane + 127)
  let s := if x.missed = some line then s else (s.incReg o3800.LINES_MISSED).setRow d r { x with missed := some line }
  match s.pageAt line with
  | none => s
  | some p =>
    let s := (s.blankLine line 4).2
    if s.firing.missed.contains (p.stream, p.tag) then s
    else ({ s with firing := { s.firing with missed := (p.stream, p.tag) :: s.firing.missed } }).raise 55 d 1 19

/-- HEAD_FIRE_FRAME_SEND (R258): the FIRE frame of the next row line, once the move before it has come; a frame that can no
longer come in time is not sent (R259). -/
def State.fireFrameSend (d r : Nat) (s : State) : State :=
  let x := s.row d r
  let cur := s.lineOnDie d r
  if s.regN o3000.DIES ≤ d ∨ 4 ≤ r ∨ s.printing = false ∨ s.carries d = false ∨ cur + 1 < x.sendLine ∨
      (x.replace = true ∧ cur < x.sendLine) then s
  else
    match s.lineBits d r x.sendLine with
    | none => s
    | some (kw, fire) =>
      let inTime : Bool := if x.replace then x.sendLine == cur && s.currentInTime d r
        else x.sendLine == cur + 1 && s.nextInTime d r
      let s := if inTime then s.sendFire d r x.replace kw x.tag fire (List.range 8)
        else (List.range 8).foldl (State.lineMissed d r x.sendLine) s
      let y := s.row d r
      State.flushOrders d (s.die d).orders (s.setRow d r
        { y with sendLine := x.sendLine + 1, replace := false, tag := if inTime then (x.tag + 1) % 16 else x.tag,
                 warmSent := if inTime ∧ kw = true then some x.sendLine else y.warmSent })

/-! ### Keep-warm in READY -/

/-- R245: one keep-warm line on each row of a die that has ended its line before (log entry 66). -/
def State.warmDie (s : State) (d : Nat) : State :=
  let line := s.firingLine
  let fit := s.fitSlot
  let off := (divOpen 245 (phaseOf (s.regN o3600.STAGGER_MODE) d * fit : Nat) 8).toNat
  let from_ := fireTime s.now + off
  let s := s.mapDie d fun x => { x with thermal := { x.thermal with warmDue := false } }
  (List.range 4).foldl (fun s r =>
    let b := s.burstFor d r line
    let x := s.row d r
    if b.kwCount = 0 ∨ x.firing.isSome = true ∨ from_ < x.guardEnd then s
    else
      let set := s.warmSet d r line
      let s := s.sendFire d r true true x.tag set (List.range 8)
      let s := (List.range 16).foldl (fun s g => s.emit (.burst d r (from_ + g * fit) b.warmPulses)) s
      let s := (s.countWarm d (set.filter id).length).addReg o3600.SLOTS_FIRED 16
      s.setRow d r { x with tag := (x.tag + 1) % 16, began := some s.now, warmRun := some (from_, fit, b.warmSpan),
                            guardEnd := from_ + 15 * fit + b.warmSpan + 512 }) s

/-- R246: a keep-warm line of READY that waits for a measurement on its sense input goes out. -/
def State.warmWaiting (s : State) (d : Nat) : State :=
  if (s.die d).thermal.warmDue = false then s
  else if s.mode = 3 ∧ (s.die d).up = true ∧ s.warmable d = true then s.warmDie d
  else s.mapDie d fun x => { x with thermal := { x.thermal with warmDue := false } }

/-- KEEP_WARM_TIMER (R245, R246). -/
def State.keepWarm (s : State) : State :=
  if s.mode ≠ 3 ∨ s.now < s.firing.warmAt + s.regN o3610.KW_PERIOD_US * 1000 then s
  else
    let s := { s with firing := { s.firing with warmAt := s.now } }
    s.fittedDies.foldl (fun s d =>
      if (s.die d).up = false ∨ s.warmable d = false then s
      else if s.senseBusy d then s.mapDie d fun x => { x with thermal := { x.thermal with warmDue := true } }
      else s.warmDie d) s

/-- SLOT_COMMIT (R58). A slot is committed in SAFE-HOLD only for a line that a sag lets finish (R503). -/
def execSlotCommit (t die row : Nat) (s : State) : Host.Outcome State Fault Refusal :=
  s.run t (State.slotCommit die row)

/-- SLOT_START (R229). -/
def execSlotStart (t die row : Nat) (s : State) : Host.Outcome State Fault Refusal :=
  s.run t (State.slotStart die row)

/-- KEEP_WARM_TIMER (R245). -/
def execKeepWarmTimer (t : Nat) (s : State) : Host.Outcome State Fault Refusal := s.runOn t State.keepWarm

/-- DIE_TEMP_STALE (R247). -/
def execDieTempStale (t die : Nat) (s : State) : Host.Outcome State Fault Refusal := s.runOn t (State.tempStale die)

end Sys2Proof.Machine
end

