-- ==== Sys2Proof/Machine/Generations.lean ====
section
/-! DEFINITION. Machine/Generations.lean: what the entries of a tide-line commit do beside setting a value: at hand-over,
at settlement, when it is abandoned and when it comes into force. -/
namespace Sys2Proof.Machine

/-- R197, R222: entries at hand-over: a polder begins to return, and a probe takes its values. -/
def State.entryHanded (s : State) (e : Nat × Int) : State :=
  if e.1 = o3020.RETURN_POLDER then
    if (s.polder e.2.toNat).state = 3 then s.setPolder e.2.toNat 4 else s
  else if e.1 = o3404.PROBE_ARM ∧ e.2 = 1 ∧ s.regN o3404.PROBE_STATE = 0 then
    (s.setRegN o3404.PROBE_STATE 1).withHealth fun h =>
      { h with probe := some { first := s.regN o3404.PROBE_FIRST, last := s.regN o3404.PROBE_LAST,
                               odd := s.regN o3404.PROBE_ODD_ROW, even := s.regN o3404.PROBE_EVEN_ROW,
                               lines := s.regN o3404.PROBE_LINES, start := none } }
  else s

/-- R197: a commit that returns a polder has settled at tide line T. -/
def State.entrySettled (line : Int) (s : State) (e : Nat × Int) : State :=
  if e.1 = o3020.RETURN_POLDER ∧ (s.polder e.2.toNat).state = 4 then
    s.withPolders fun q => { q with returnAt := some line }
  else s

/-- R222, R321: a probe whose commit is abandoned is not run, and a correction is not made. -/
def State.entryDropped (s : State) (e : Nat × Int) : State :=
  if e.1 = o3404.PROBE_ARM ∧ s.regN o3404.PROBE_STATE = 1 then
    ((s.setRegN o3404.PROBE_STATE 0).withHealth fun h => { h with probe := none }).probeLost
  else if o3000.DIE_TRIM ≤ e.1 ∧ e.1 ≤ o3000.DIE_TRIM + 63 then s.trimDropped (e.1 - o3000.DIE_TRIM)
  else s

/-- R235: a die energy word with `OVERRIDE` is kept with the die's identity; one without deletes what is kept. -/
def State.keepEnergy (s : State) (d : Nat) (v : Int) : State :=
  let x := s.die d
  if x.idOk then
    let id := identityKey x.memory
    let rest := s.flash.energies.filter fun e => e.1 != id
    { s with flash := { s.flash with energies := if bit v.toNat 12 then (id, v) :: rest else rest } }
  else s

/-- One entry of a commit comes into force at tide line T (R180, R197, R222, R270). -/
def State.entryInForce (line : Int) (s : State) (e : Nat × Int) : State :=
  if o3000.DIE_TRIM ≤ e.1 ∧ e.1 ≤ o3000.DIE_TRIM + 63 then ((s.startRamp (e.1 - o3000.DIE_TRIM) line e.2).refreshGeometry).trimInForce (e.1 - o3000.DIE_TRIM) line
  else if e.1 = o3404.PROBE_ARM then
    if e.2 = 1 ∧ s.regN o3404.PROBE_STATE = 1 then
      let s := ((s.setRegN o3404.PROBE_STATE 2).setReg o3404.PROBE_START (unsigned 64 line)).withHealth fun h =>
        { h with probe := h.probe.map fun p => { p with start := some line } }
      match s.health.probe with
      | some p => s.probeSet line p.lines
      | none => s
    else s
  else if e.1 = o3020.RETURN_POLDER then
    if s.printing = false ∧ (s.polder e.2.toNat).state = 4 then s.finishReturn e.2.toNat else s
  else if e.1 = o3802.QUARANTINE_MASK then s.quarantineInForce (unsigned 64 e.2)
  else if o3602.DIE_ENERGY ≤ e.1 ∧ e.1 ≤ o3602.DIE_ENERGY + 63 then (s.setReg e.1 e.2).keepEnergy (e.1 - o3602.DIE_ENERGY) e.2
  else s.setReg e.1 e.2

end Sys2Proof.Machine
end

