-- ==== Sys2Proof/Machine/Saving.lean ====
section
/-! DEFINITION. Machine/Saving.lean: chapter 19, what a hold-up save gathers (R506), and a calibration verify run that
SAFE-HOLD interrupts (R511). -/
namespace Sys2Proof.Machine

/-- R518: the number of the calibration set nearest to T. -/
def State.nearestSet (s : State) : Nat :=
  let temp := s.reg o7800.JUNCTION_MEAN
  (([(0, -400), (1, 0), (2, 400), (3, 800), (4, 1150)] : List (Nat × Int)).foldl (fun (b : Nat × Nat) x =>
    let d := (temp - x.2).natAbs
    if d < b.2 then (x.1, d) else b) (0, 100000)).1

/-- R511: a verify run ends rejected, with `VERIFY_REASON` 4. -/
def State.verifyAbort (s : State) : State :=
  match s.power.verifyItem with
  | none => s
  | some _ =>
    let s := { s with power := { s.power with verifyItem := none } }
    let s := ((s.setRegN o7801.VERIFY_STATE 3).setRegN o7801.VERIFY_QUALITY 0).setRegN o7801.VERIFY_REASON 4
    s.raise 124 s.nearestSet 0 23 true

/-- R208: the health map that start-up loads for a die's identity memory, and keyed as die 0: the saved one, or the
factory list. -/
def State.startMap (s : State) (m : Octets) : List (Nat × Nat) :=
  match s.savedMap (identityKey m) with
  | some saved => saved
  | none => (deadList m).foldl (fun l p => mapPut l (nozzle 0 p.2 p.1) (3 + 4 * 1)) []

/-- The fitted dies whose identity is known. -/
def State.knownDies (s : State) : List Nat := s.fittedDies.filter fun d => (s.die d).idOk

/-- R506: the columns of a die whose states or causes in force differ from flash, as 1024·die + column with both octets of
Table 19-5. -/
def State.dirtyColumns (s : State) (d : Nat) : List (Nat × Nat) :=
  let saved := s.startMap (s.die d).memory
  let own := s.health.inForce
  (List.range 1024).filterMap fun c =>
    let st := columnByte own d c false
    let ca := columnByte own d c true
    if st = columnByte saved 0 c false ∧ ca = columnByte saved 0 c true then none else some (1024 * d + c, 256 * st + ca)

/-- Table 19-4: the `PAGE` word of a firing page: the lines that every row of every fitted die has completed. -/
def State.pageWord (s : State) (p : Page) : Nat :=
  let done := clamp 0 p.lines (s.firingLine - s.largestDelay - p.start)
  place p.tag 63 32 + place 1 31 31 + place p.stream 30 30 + min done.toNat 0x3FFFFFFF

/-- R506: the record as detection finds it, without the records of journal and audit. -/
def State.saveContent (s : State) (cause region mode : Nat) : SaveRecord :=
  let firing := s.pageStore.pages.filter s.isFiring
  let health := s.knownDies.flatMap s.dirtyColumns
  { count := (s.flash.saves + 1) % 2 ^ 32, time := s.localTime s.now, mode := mode, cause := cause, region := region,
    flags := (if 4 < firing.length then 8 else 0) + (if 2048 < health.length then 2 else 0) + if s.timeValid then 1 else 0,
    line := unsigned 64 s.firingLine, hwm := s.regN o6402.HWM_COUNT, origin := s.regN o6402.LINE_ORIGIN,
    counts := [s.countOf 0, s.countOf 1], pages := (firing.take 4).map s.pageWord, health := health.take 2048,
    lifetimes := s.fittedDies.map fun d =>
      (d, if (s.die d).idOk then identityKey (s.die d).memory else [], lifeOctets (s.lifeNow d)),
    journal := [], audit := [] }

/-- R506: the oldest journal and audit records not yet in flash join the record. -/
def State.saveRecords (s : State) (r : SaveRecord) : SaveRecord :=
  let j := s.events.journal
  let a := s.aqlet.unwritten
  let lost := decide (1024 < j.length ∨ 256 < a.length)
  { r with journal := j.drop (j.length - 1024), audit := a.drop (a.length - 256),
           flags := setBit r.flags 2 lost }

/-- One section of a save record (Table 19-5): its header and its entries. -/
def saveSection (kind : Nat) (entries : List Octets) : Octets :=
  octetsOf 8 (place kind 63 56 + place entries.length 31 0) ++ entries.flatten

/-- The save record as Tables 19-4 and 19-5 lay it out, closed with its CRC-32C (R506). -/
def SaveRecord.octets (r : SaveRecord) : Octets :=
  let sections :=
    saveSection 1 (r.health.map fun e => octetsOf 4 (e.1 * 65536 + e.2)) ++ saveSection 2 (r.lifetimes.map fun l => l.2.2) ++
    saveSection 3 (r.journal.reverse.map fun j => octetsOfWords j.words) ++
    saveSection 4 (r.audit.reverse.map fun a => octetsOfWords a.words)
  let header := octetsOfWords
    ([place r.count 63 32 + (96 + sections.length + 4), r.time,
      place r.mode 63 56 + place r.cause 55 48 + place r.region 47 40 + place r.flags 39 32, r.line, r.hwm % 2 ^ 48, r.origin] ++
      [0, 1].map (fun i => r.counts.getD i 0 % 2 ^ 48) ++ [0, 1, 2, 3].map fun i => r.pages.getD i 0)
  let o := header ++ sections
  o ++ octetsOf 4 (crc32c o)

end Sys2Proof.Machine
end

