-- ==== Sys2Proof/Machine/Tide.lean ====
section
/-! DEFINITION. Machine/Tide.lean: chapter 17, tide-line commits: hand-over, settlement, abandonment, coming into force
and retirement (R458 to R464). -/
namespace Sys2Proof.Machine

/-- Changes the commit in progress. -/
def State.setCommit (s : State) (c : Option Commit) : State := { s with modes := { s.modes with commit := c } }

/-- R459: the tide line of a commit handed over now with lead λ. -/
def State.placeLine (s : State) (source : CommitSource) (lead : Nat) : Int :=
  let f := s.firingLine
  if s.printing then
    let t := f + lead
    if s.flag o2002.PAGE_ALIGN ∧ source ≠ .health then
      match s.queuedStarts.find? fun p => decide (t ≤ p) with
      | some p => p
      | none => t
    else t
  else f

/-- R458, R459: hands a set over and stages it to every participant; a lead of 0 stands for `TIDE_LEAD`. -/
def State.handOver (s : State) (source : CommitSource) (entries : List (Nat × Int)) (lead : Nat) : State :=
  let lead := if lead = 0 then s.regN o2002.TIDE_LEAD else lead
  let c : Commit :=
    { source := source, stage := .staging, entries := entries, old := entries.map fun e => (e.1, s.reg e.1),
      lead := lead, line := s.placeLine source lead, waiting := [], since := s.now }
  let s := (s.setRegN o2002.TIDE_STATE 2).setCommit (some c)
  let s := if source = .health then s.takeHealth else s
  let s := entries.foldl State.entryHanded s
  s.setCommit (some { c with waiting := s.participants })

/-- R460: a commit of a session is held while `COMMIT_AT` is not 0 and not past; trigger 6 is armed for that time. -/
def State.beginCommit (s : State) (source : CommitSource) (entries : List (Nat × Int)) (lead : Nat) : State :=
  let at_ := s.regN o2002.COMMIT_AT
  let fromSession : Bool := match source with
    | .session _ => true
    | _ => false
  if fromSession ∧ at_ ≠ 0 then
    let s := s.armTrigger 6 at_ (2 ^ 31)
    if at_ ≤ s.localTime s.now then
      (((s.setRegN (o7003.TRIGGER_CTRL + 6) 0).incReg o7003.LATE_TRIGGERS).setRegN o2002.COMMIT_AT 0).handOver source
        entries lead
    else
      (s.setRegN o2002.TIDE_STATE 1).setCommit
        (some { source := source, stage := .held, entries := entries, old := [], lead := lead, line := 0,
                waiting := [], since := s.now })
  else s.handOver source entries lead

/-- R462: the supervisor's next commit that has waited its turn. -/
def State.nextCommit (s : State) : State :=
  match s.modes.queued with
  | [] => s
  | (source, entries) :: rest =>
    let s := { s with modes := { s.modes with queued := rest } }
    s.handOver source entries 0

/-- R462: a commit of the supervisor, which waits its turn. -/
def State.supervisorCommit (s : State) (source : CommitSource) (entries : List (Nat × Int)) : State :=
  if s.modes.commit.isNone then s.handOver source entries 0
  else { s with modes := { s.modes with queued := s.modes.queued ++ [(source, entries)] } }

/-- R460: trigger 6 fires, and the held commit is handed over. -/
def State.commitTime (s : State) : State :=
  match s.modes.commit with
  | some c =>
    if c.stage = .held then (s.setRegN o2002.COMMIT_AT 0).handOver c.source c.entries c.lead else s
  | none => s

/-- R418: the answer to the COMMIT or WRITE of a commit, when its session is still open; an abandoned commit is counted and
recorded as a refusal either way (R424). -/
def State.answerCommit (s : State) (c : Commit) (abort : Nat) : State :=
  match c.source with
  | .session a =>
    let key := if a.op = 6 then 0 else (c.entries.map Prod.fst).headD 0
    let s := if abort = 0 then s else
      (s.incReg o2100.REQUESTS_REFUSED).audit
        { kind := 2, master := a.master, role := a.role, reqId := a.reqId, index := key / 256, sub := key % 256,
          op := a.op, abort := abort, session := a.id }
    match s.sessionById a.id with
    | some x =>
      match x.running.find? fun r => r.seq == a.seq with
      | some r =>
        let rp : Reply1 := { path := x.path, dst := x.src, vlan := r.vlan, op := r.op, reqId := r.reqId, sess := x.id,
                             seq := r.seq, ts := r.ts }
        let line := octetsOf 8 (unsigned 64 c.line)
        let data :=
          if a.op = 6 then line ++ octetsOf 8 (place c.entries.length 63 48) else if a.op = 2 then line else []
        s.answerSession x rp abort data false
      | none => s
    | none => s
  | _ => s

/-- `VALUE` of an accepted write (Table 15-8) of n octets. -/
def auditValue (n : Nat) (v : Int) : Nat :=
  if n ≤ 4 then unsigned (8 * n) v else crc32c (octetsOf n (unsigned (8 * n) v))

/-- R424: each entry of a settled commit of an installer or maker session is recorded. -/
def State.auditCommit (s : State) (c : Commit) : State :=
  match c.source with
  | .session a =>
    if a.role < 2 then s
    else c.entries.foldl (fun s e =>
      let n := match rowOf e.1 with
        | some r => r.len
        | none => 4
      s.audit { kind := 1, master := a.master, role := a.role, reqId := a.reqId, index := e.1 / 256, sub := e.1 % 256,
                op := a.op, session := a.id, value := auditValue n e.2 }) s
  | _ => s

/-- R36, R466, R486: a firmware pair restarts from its image; its epoch rises. -/
def State.restartPair (s : State) (p : PairId) : State :=
  (s.setPair p { s.pair p with state := .restarting }).raiseEpoch (identityOf p)

/-- R466: the next pair of a swap restarts; the supervisor only while no commit is staging and no request executes. -/
def State.swapKick (s : State) : State :=
  match s.modes.swapPairs with
  | [] => s
  | p :: _ =>
    let staging : Bool := match s.modes.commit with
      | some c => decide (c.stage = .staging)
      | none => false
    let busy := staging || s.aqlet.sessions.any fun x => !x.running.isEmpty
    if s.regN o7E02.SWAP_STATE ≠ 1 ∨ (s.pair p).state ≠ .running ∨ (p = .supervisor ∧ busy = true) then s
    else s.restartPair p

/-- R461: the commit is abandoned for a cause; a polder in RETURNING goes back to ISOLATED. -/
def State.abandon (s : State) (cause : Nat) : State :=
  match s.modes.commit with
  | none => s
  | some c =>
    let who := if c.stage = .held then 0xFF else c.waiting.headD 0xFF
    let code := cause * 256 + who
    let s := if c.stage = .held then s.setRegN (o7003.TRIGGER_CTRL + 6) 0 else s
    let s := ((s.incReg o2002.ABANDONED).setRegN o2002.LAST_ABANDON code).setRegN o2002.TIDE_STATE 0
    let s := c.entries.foldl State.entryDropped ((s.setCommit none).raise 44 code 0 23)
    let again := decide (c.source = .health ∧ cause ≠ 3)
    let s := if again then { s with modes := { s.modes with queued := s.modes.queued ++ [(.health, [])] } } else s
    (s.answerCommit c 0x06000001).returnAborted.nextCommit.swapKick

/-- The values of a set come into force, and a health commit's map with them. -/
def State.comeIntoForce (s : State) (c : Commit) : State :=
  let s := s.incReg o2002.GENERATION
  let s := c.entries.foldl (State.entryInForce c.line) s
  if c.source = .health then State.reviewHeld s.health.inForce (s.healthInForce c.line) else s

/-- R181: the older generation is retired, and another commit may begin. -/
def State.retire (s : State) : State := ((s.setCommit none).setRegN o2002.TIDE_STATE 0).nextCommit.swapKick

/-- R461, R463: every participant has acknowledged. -/
def State.settle (s : State) (c : Commit) : State :=
  let c := { c with stage := .settled, waiting := [] }
  let s := ((s.setRegN o2002.TIDE_LINE (unsigned 64 c.line)).incReg o2002.COMMITS).setRegN o2002.TIDE_STATE 3
  let s := (c.entries.foldl (State.entrySettled c.line) (s.setCommit (some c))).auditCommit c
  let s := (s.answerCommit c 0).swapKick
  if s.printing then s else (s.comeIntoForce c).retire

/-- R458: settles when nobody but a polder S that only shadows has still to acknowledge; such a polder S leaves. -/
def State.checkSettled (s : State) : State :=
  match s.modes.commit with
  | some c =>
    if c.stage ≠ .staging then s
    else if c.waiting.isEmpty then s.settle c
    else if c.waiting = [16] ∧ s.spareState = 1 then (s.spareLeaves).settle c
    else s
  | none => s

/-- R461: a participant acknowledges. -/
def State.acknowledge (s : State) (who : Nat) : State :=
  match s.modes.commit with
  | some c =>
    if c.stage = .staging then
      (s.setCommit (some { c with waiting := c.waiting.filter fun p => p != who })).checkSettled
    else s
  | none => s

/-- R193, R458: a polder replaced during staging is replaced as a participant by the one that takes its place, polder S as
a rule, which takes over its acknowledgement where it has given one. -/
def State.replaceParticipant (s : State) (p q : Nat) : State :=
  match s.modes.commit with
  | some c =>
    if c.stage = .staging then
      let rest := c.waiting.filter fun x => x != p && x != q
      (s.setCommit (some { c with waiting := if c.waiting.contains p then rest ++ [q] else rest })).checkSettled
    else s
  | none => s

/-- R461: in PRINT and PROOF the firing line has reached T − 256 before settlement. -/
def State.tideDeadline (s : State) : State :=
  match s.modes.commit with
  | some c => if c.stage = .staging ∧ s.printing ∧ c.line - 256 ≤ s.firingLine then s.abandon 1 else s
  | none => s

/-- R461: `TIDE_TIMEOUT_MS` has passed since hand-over without settlement. -/
def State.tideTimeout (s : State) : State :=
  match s.modes.commit with
  | some c =>
    if c.stage = .staging ∧ c.since + s.regN o2002.TIDE_TIMEOUT_MS * 1000000 ≤ s.now then s.abandon 2 else s
  | none => s

/-- R181: the firing line reaches T. -/
def State.tideReached (s : State) : State :=
  match s.modes.commit with
  | some c =>
    if c.stage = .settled ∧ c.line ≤ s.firingLine then
      ((s.setRegN o2002.TIDE_STATE 4).setCommit (some { c with stage := .retiring })).comeIntoForce c
    else s
  | none => s

/-- R181: the firing line passes T + D. -/
def State.tideRetire (s : State) : State :=
  match s.modes.commit with
  | some c => if c.stage = .retiring ∧ c.line + s.regN o3000.LARGEST_DELAY < s.firingLine then s.retire else s
  | none => s

/-- R464: PRINT or PROOF is left; a settled commit comes into force at once, and the older generation is retired. -/
def State.tideLeave (s : State) : State :=
  match s.modes.commit with
  | some c =>
    match c.stage with
    | .settled => (s.comeIntoForce c).retire
    | .retiring => s.retire
    | _ => s
  | none => s

/-- R464: SAFE-HOLD is entered; a held or staging commit is abandoned, a settled one stands. -/
def State.tideSafeHold (s : State) : State :=
  let s := { s with modes := { s.modes with queued := [] } }
  match s.modes.commit with
  | some c =>
    match c.stage with
    | .held => s.abandon 3
    | .staging => s.abandon 3
    | .settled => (s.comeIntoForce c).retire
    | .retiring => s.retire
  | none => s

/-- TIDE_ACK (R461). -/
def execTideAck (t participant : Nat) (s : State) : Host.Outcome State Fault Refusal :=
  s.runOn t fun s => s.acknowledge participant

/-- TIDE_DEADLINE (R461). -/
def execTideDeadline (t : Nat) (s : State) : Host.Outcome State Fault Refusal := s.runOn t State.tideDeadline

/-- TIDE_TIMEOUT (R461). -/
def execTideTimeout (t : Nat) (s : State) : Host.Outcome State Fault Refusal := s.runOn t State.tideTimeout

/-- TIDE_LINE_REACHED (R181). -/
def execTideLineReached (t : Nat) (s : State) : Host.Outcome State Fault Refusal := s.runOn t State.tideReached

/-- GENERATION_RETIRE (R181). -/
def execGenerationRetire (t : Nat) (s : State) : Host.Outcome State Fault Refusal := s.runOn t State.tideRetire

end Sys2Proof.Machine
end

