-- ==== Sys2Proof/Machine/Modes.lean ====
section
/-! DEFINITION. Machine/Modes.lean: chapters 17 and 19, changes of mode: requests and their guards, entry, leaving,
draining, PACING_LOST, the escalation of faults and SAFE-HOLD with its save. -/
namespace Sys2Proof.Machine

/-- Changes one pair to running when it is held (R38, R451); its mismatches no longer count (log entry 37). -/
def State.restartHeld (s : State) (p : PairId) : State :=
  if (s.pair p).state = .held then s.setPair p { state := .restarting, times := [], doorbell := (s.pair p).doorbell } else s

/-- R105: TEST is left, so the loops end and the link starts again. -/
def State.endTest (s : State) : State :=
  let looped := decide (s.regN o4000.STATE = 7)
  let s := (s.setRegN o4003.LOOP 0).setRegN o4003.PRBS_RUN 0
  if looped then s.enterDetect else s

/-- R89: outside BOOT the chip advertises 2,048 units in pool R. -/
def State.openPoolR (s : State) : State := (s.freeCredit false 2048).sendCredit

/-- The registers, the event and the audit record of a mode change; `who` tells who asked (R424, R452). -/
def State.changeMode (s : State) (new cause : Nat) (who : AuditEntry) : State :=
  let old := s.mode
  let s := ((s.setRegN o2001.MODE new).setRegN o2001.PREVIOUS old).setRegN o2001.CAUSE cause
  let s := ((s.setRegN o2001.PHASE 0).setRegN o2001.ENTERED (s.localTime s.now)).incReg o2001.MODE_CHANGES
  let s := s.raise 0 (old * 256 + new) 0 23
  s.audit { who with kind := 3, value := old * 256 + new }

/-- R454: PRINT or PROOF is left at once. -/
def State.leavePrint (s : State) : State := s.rowsFinish.pagesLeave.stopStreams.stopCameras

/-- A change of mode outside SAFE-HOLD with what it brings (R450 to R454). -/
def State.setMode (s : State) (new cause : Nat) (who : AuditEntry := { kind := 3 }) : State :=
  let old := s.mode
  let was := s.printing
  let s := if was then s.leavePrint else s
  let s := if old = 3 then s.settleEnd else s
  let s := s.changeMode new cause who
  let s := if was then s.tideLeave else s
  let s := if old = 6 then s.endTest else s
  let s := if old = 0 then s.openPoolR else s
  let s := s.axesMode old new
  if new = 1 then
    ((((s.restartHeld .supervisor).restartHeld .inspection).restartHeld .motion).judgeBoth).writeLifetimes
  else s

/-- R71: pacing is lost in PRINT or PROOF. -/
def State.pacingLost (s : State) : State :=
  if s.printing then (s.raise 88 0 1 20).setMode 3 3 else s

/-- An active source that has failed: pacing passes to a standby that works, and without one R71 applies (Table 02-4). -/
def State.pacerFailed (s : State) : State :=
  match s.pos.checking with
  | some k => if s.regN o3101.FAILOVER = 1 ∧ s.statusBit k 8 = false then s.failover k else s.pacingLost
  | none => s.pacingLost

/-- Table 17-2: the transitions that a request can make. -/
def transitionOk (old new : Nat) : Bool :=
  match old with
  | 1 => new == 2 || new == 3 || new == 6
  | 2 => new == 1 || new == 3 || new == 6
  | 3 => new == 1 || new == 2 || new == 4 || new == 5
  | 4 => new == 3
  | 5 => new == 3
  | 6 => new == 1
  | _ => false

/-- R453: the entry line that an entry to PRINT or PROOF sets. -/
def State.entryLine (s : State) : Int := if s.regN o6402.ORIGIN_MODE = 2 then s.firingLine else 0

/-- Table 17-3, checks 3 to 9; 0 when all pass. -/
def State.entryGuard (s : State) (new : Nat) : Nat :=
  let busy : Bool := match s.modes.commit with
    | some c => decide (c.stage = .held ∨ c.stage = .staging)
    | none => false
  let tooClose : Bool := match s.queuedStarts.head? with
    | some p => decide (p < s.entryLine + 2 * s.regN o3000.LARGEST_DELAY + 1024)
    | none => false
  if s.regN o3101.SOURCE = 0 then 0x05001102
  else if s.axesIdle = false then 0x05001103
  else if s.dieFit = false then 0x05001104
  else if busy then 0x06001101
  else if new = 4 ∧ s.freeboardMs s.entryLine < s.regN o4401.ENTRY_MS then 0x06001102
  else if new = 5 ∧ s.queuedStarts.isEmpty then 0x06001104
  else if tooClose then 0x06001103
  else 0

/-- R452: the answer to a mode request of a role; 0 when it is accepted. -/
def State.requestCheck (s : State) (code role : Nat) : Nat :=
  if 7 < code then 0x04001101
  else if role = 1 ∧ ¬(code = 1 ∨ code = 3 ∨ code = 4 ∨ code = 5) then 0x02001101
  else if code = s.mode then 0
  else if s.regN o2001.PHASE ≠ 0 then (if code = 3 then 0 else 0x06001105)
  else if code = 0 ∨ code = 7 ∨ transitionOk s.mode code = false then 0x05001101
  else if code = 4 ∨ code = 5 then s.entryGuard code
  else 0

/-- R61, R65: the origin and the high-water mark at an entry. -/
def State.setOrigin (s : State) : State :=
  let count := match s.regN o3101.ACTIVE with
    | 1 => s.regN o6400.COUNT
    | 2 => s.regN (o6400.COUNT + 256)
    | _ => s.pos.genCount
  let s := match s.regN o6402.ORIGIN_MODE with
    | 0 => s.setRegN o6402.LINE_ORIGIN count
    | _ => s
  let s := (s.setRegN o6402.HWM_COUNT count).setRegN o6402.DEPTH 0
  { s with pos := { s.pos with frac := 0, excursion := false, originDue := decide (s.regN o6402.ORIGIN_MODE = 1) } }

/-- What begins anew with an entry: the fill before the run, the probes done, and inspection where the web lines restart. -/
def State.freshRun (s : State) : State :=
  let s := if s.regN o6402.ORIGIN_MODE = 2 then s else s.restartInspection
  let s := s.withHealth fun h => { h with probed := [] }
  { s with modes := { s.modes with filledLanes := [], fillFrom := s.now, lastLine := s.runEnd } }

/-- R453: PRINT or PROOF is entered, in one step. -/
def State.enterPrint (s : State) (new : Nat) (who : AuditEntry) : State :=
  let entry := s.entryLine
  let old := s.mode
  let s := s.setOrigin
  let s := s.changeMode new 1 who
  let s := (s.setRegN o2001.ENTRY_LINE (unsigned 64 entry)).setRegN o2001.PHASE 1
  ((((s.freshRun).startStreams entry).rowsStart).armCameras).axesMode old new

/-- R454: a leave by `LEAVE_AT`. -/
def State.leave (s : State) (who : AuditEntry) : State :=
  if s.regN o2000.LEAVE_AT = 0 ∨ s.regN o2001.PHASE ≠ 0 then s.setMode 3 1 who
  else
    match s.lastQueuedEnd with
    | none => s.setMode 3 7 who
    | some e => { (s.setRegN o2001.PHASE 2) with modes := { s.modes with lastLine := e } }

/-- R452: an accepted mode request takes its effect. -/
def State.requestMode (s : State) (code : Nat) (who : AuditEntry) : State :=
  let s := s.setRegN o2000.REQUEST code
  if code = s.mode then s
  else if s.printing then s.leave who
  else if code = 4 ∨ code = 5 then
    let s := s.enterPrint code who
    match s.pacer with
    | some ch => if s.statusBit ch 8 then s.pacerFailed else s
    | none => s
  else s.setMode code 1 who

/-- R453: a lane FIFO has reached 256 lines; FILLING ends when every lane of the fitted polders has. -/
def State.fillDone (s : State) : State :=
  if s.regN o2001.PHASE = 1 then
    (s.setRegN o2001.PHASE 0).setRegN o2001.FILL_US ((s.now - s.modes.fillFrom) / 1000)
  else s

/-- R454: the firing line has passed the drained pages plus D. -/
def State.drainDone (s : State) : State :=
  if s.regN o2001.PHASE = 2 ∧ s.modes.lastLine + s.regN o3000.LARGEST_DELAY < s.firingLine then s.setMode 3 7 else s

/-- R451: the PROOF run has passed its last page plus D, and no page is open or queued. -/
def State.proofEnd (s : State) : State :=
  if s.mode = 5 ∧ s.noPages ∧ s.runEnd + s.regN o3000.LARGEST_DELAY < s.firingLine then s.setMode 3 4 else s

/-! ### SAFE-HOLD -/

/-- R466, R468: the swap ends as fallen back while the old image still runs the supervisor. -/
def State.swapSafeHold (s : State) : State :=
  if s.regN o7E02.SWAP_STATE = 1 ∧ s.modes.swapPairs.contains .supervisor then
    { (s.setRegN o7E02.SWAP_STATE 4) with modes := { s.modes with swapPairs := [] } }
  else s

/-- R507: a save of the configuration in progress is left incomplete: its copy fails its CRC. -/
def State.configSafeHold (s : State) : State :=
  match s.modes.saving with
  | none => s
  | some vs =>
    { (s.setRegN o1010.SAVE_STATUS 3) with
      modes := { s.modes with saving := none }, flash := s.flash.writeCopy vs false }

/-- R505, R507: whether a save record can be written: the flash clock runs and a slot is erased. -/
def State.canSave (s : State) : Bool := !s.islandLost 11 && s.flash.slots.any fun x => x == .erased

/-- R456, R480, Table 19-3: SAFE-HOLD with its cause (5 a fault at breach level 3, 6 a sag) and region. A second cause
leaves the save under way as it is (R511). -/
def State.safeHold (s : State) (cause region : Nat) : State :=
  if s.mode = 7 then
    if s.power.holding = .afterFault ∧ cause = 6 then
      { (s.setRegN o4000.STATE 0) with power := { s.power with holding := .afterSag } }
    else s
  else
    let old := s.mode
    let record := s.saveContent cause region old
    let s := if cause = 6 then s.rowsSag else s.strobesLow
    let s := if s.printing then s.pagesLeave else s
    let s := s.stopStreams.stopCameras.lightsOff
    let s := s.changeMode 7 cause { kind := 3 }
    let s := if old = 0 then s.freeCredit false 2048 else s
    let s := if old = 6 then (s.setRegN o4003.LOOP 0).setRegN o4003.PRBS_RUN 0 else s
    let s := s.axesSafe.tideSafeHold.swapSafeHold.configSafeHold.verifyAbort
    let s := s.raise 1 (cause * 256 + region) 3 (if region < 24 then region else 23)
    let s := if cause = 6 then (s.setRegN o4000.STATE 0).setRegN o4000.WIDTH 0 else
      if s.regN o4000.STATE = 0 then s else s.enterDetect
    { s with power := { s.power with saving := if s.canSave then some (s.saveRecords record) else none,
                                     pending := true, holding := .none } }

/-- R504, R509: whether raster lane 0 stays powered in SAFE-HOLD: after a fault at breach level 3. -/
def State.laneHeld (s : State) : Bool := s.regN o2001.CAUSE == 5 && s.power.holding != .afterSag

/-- R477: a fault passes up from one level to the next, one BREACH_ESCALATED per step, as far as level `to`. -/
def State.escalateTo : Nat → Nat → Nat → Nat → State → State
  | 0, _, _, _, s => s
  | fuel + 1, from_, last_, region, s =>
    if from_ < last_ then
      State.escalateTo fuel (from_ + 1) last_ region
        (s.raise 2 (from_ * 4096 + (from_ + 1) * 256 + region) (from_ + 1) region)
    else s

/-- R477, R480: a fault that no lower level absorbs: it passes up to level 3, its own event is raised there, and the chip
enters SAFE-HOLD. -/
def State.fatal (s : State) (src detail region from_ : Nat) (alt : Bool := false) : State :=
  if s.mode = 7 then s.raise src detail 3 region alt
  else ((State.escalateTo 3 from_ 3 region s).raise src detail 3 region alt).safeHold 5 region

/-- R479, R480: a fault at breach level 3 that has no event of its own. -/
def State.fatalQuiet (s : State) (region from_ : Nat) : State :=
  if s.mode = 7 then s else (State.escalateTo 3 from_ 3 region s).safeHold 5 region

/-- Table 14-7: the loss of region 22 or of island 9 leaves the clock in holdover, or free-running. -/
def State.timeAlone (s : State) : State :=
  if s.regN o7000.STATE = 2 ∨ s.regN o7000.STATE = 3 then
    ((s.setRate (s.reg o7000.RATE_ESTIMATE)).setRegN o7000.STATE 4).raise 102 0 0 22
  else s

/-- R22: region n cannot absorb a fault itself. Polders are handled by chapter 06. -/
def State.regionFails (s : State) (n from_ : Nat) : State :=
  if n = 21 ∨ n = 22 then
    if s.regionLost n then s
    else
      let s := { s with sys := { s.sys with regionsLost := n :: s.sys.regionsLost } }
      if n = 21 then s.judgeBoth else s.timeAlone
  else if n = 17 ∨ n = 18 ∨ n = 19 ∨ n = 20 ∨ n = 23 then s.fatalQuiet n from_
  else s

end Sys2Proof.Machine
end

