-- ==== Sys2Proof/Machine/AxisMotion.lean ====
section
/-! DEFINITION. Machine/AxisMotion.lean: chapter 13, motion commands, steps, limits, the chopper and LEARN as the chip runs
them. The commands of the table that carry them stand in Machine/AxisCommands.lean. -/
namespace Sys2Proof.Machine

/-! ### Motion commands -/

/-- Table 13-2: a command's 32 octets. -/
def readMotion (o : Octets) : Motion :=
  let w0 := wordOf o 0
  let w1 := wordOf o 1
  let w2 := wordOf o 2
  { id := bits w0 63 48, op := bits w0 47 40, axis := bits w0 39 38, target := signed 32 (bits w1 63 32),
    speed := bits w1 31 0, accel := bits w2 63 32, decel := bits w2 31 0 }

/-- Whether the bits that Table 13-2 leaves unused are 0. -/
def motionReserved (o : Octets) : Bool := bits (wordOf o 0) 37 0 == 0 && wordOf o 3 == 0

/-- Table 13-2: whether every field of a command is within its range for axis n. -/
def State.motionFits (s : State) (n : Nat) (m : Motion) : Bool :=
  let lo := s.axisReg n o6000.V_START
  let hi := s.axisReg n o6000.V_MAX
  let ramp (a : Nat) : Bool := a == 0 || (decide (10 ≤ a ∧ a ≤ 100000000))
  let speedOk (v : Nat) : Bool := decide (lo ≤ v ∧ v ≤ hi)
  let targetOk : Bool := match m.op with
    | 1 => true
    | 2 => true
    | 3 => m.target == 0 || speedOk m.target.natAbs
    | _ => m.target == 0
  decide (1 ≤ m.op ∧ m.op ≤ 7) && m.axis == n && targetOk && (m.speed == 0 || speedOk m.speed) && ramp m.accel &&
    ramp m.decel

/-- Table 13-5: whether the mode allows an operation on axis n. -/
def State.motionAllowed (s : State) (n op : Nat) : Bool :=
  match s.mode with
  | 0 => false
  | 7 => false
  | 4 => if n = 0 then op == 3 || op == 4 || op == 6 || ((op == 1 || op == 2) && !(s.regN o3101.SOURCE == 5 || s.regN o3101.SOURCE == 6))
    else op == 4
  | 5 => if n = 0 then op == 3 || op == 4 || op == 6 || ((op == 1 || op == 2) && !(s.regN o3101.SOURCE == 5 || s.regN o3101.SOURCE == 6))
    else op == 4
  | _ => true

/-- The way to the target of a command from `POSITION`: microsteps with their sign (R346). -/
def State.motionWay (s : State) (n : Nat) (m : Motion) : Int :=
  if m.op = 1 then m.target - s.reg (o6000.POSITION + 256 * n) else m.target

/-- R359: whether a command would move its axis towards a tripped limit; HOME moves off a tripped home limit first (R360). -/
def State.motionBlocked (s : State) (n : Nat) (m : Motion) : Bool :=
  let way := s.motionWay n m
  if m.op = 1 ∨ m.op = 2 ∨ m.op = 3 then
    (decide (0 < way) && s.limitTripped n true) || (decide (way < 0) && s.limitTripped n false)
  else if m.op = 5 then
    let up := s.axisReg n o6000.HOME_DIR == 1
    s.limitTripped n up && s.limitTripped n (!up)
  else false

/-- Table 13-3: the result that refuses a command for the state of its axis, 0 when none does (log entry 23). -/
def State.motionState (s : State) (n : Nat) (m : Motion) : Nat :=
  if s.motionBlocked n m then 0x09
  else if (s.axis n).stop ≠ 0 then 0x0A
  else if bit (s.axisReg n o6000.STATUS) 0 = false ∧ m.op ≠ 6 ∧ m.op ≠ 7 then 0x0C
  else 0

/-- Table 13-3: the abort code of a refusing result. -/
def motionAbort (result : Nat) : Nat :=
  match result with
  | 0x08 => 0x05000D01
  | 0x09 => 0x06000D02
  | 0x0A => 0x06000D03
  | 0x0B => 0x04000D02
  | 0x0C => 0x06000D04
  | _ => 0

/-- The result that an abort code of a write of `COMMAND` stands for; 0 for another code. -/
def motionResult (abort : Nat) : Nat := ([0x08, 0x09, 0x0A, 0x0B, 0x0C].find? fun r => motionAbort r == abort).getD 0

/-- R351: the axis runs towards a goal in a direction: on from its present speed when it can stop there, otherwise from
standstill after it has stopped. -/
def State.runTowards (s : State) (n : Nat) (forward : Bool) (dist : Option Nat) (goal : Nat) : State :=
  let x := s.axis n
  let after_ : AxisNext := if dist.isSome then .finish 0 else .rest
  if x.moving = false then (s.beginRun n forward dist goal after_).showAxis n
  else
    let need := stopSteps x.v (s.startSpeed n) x.decel
    let stopped := x.stopLeft (s.startSpeed n) x.decel
    let reach : Bool := match dist with
      | some k => decide (need ≤ k)
      | none => true
    if x.forward = forward ∧ reach = true then
      (s.setAxis n { x with dist := dist, goal := goal, final := false, after := after_ }).settleAxis n
    else
      let same := x.forward == forward
      let left : Option Nat := dist.map fun (k : Nat) => if same then ((k : Int) - (stopped : Int)).natAbs else (stopped + k : Nat)
      let beyond : Bool := match dist with
        | some k => decide (k < stopped)
        | none => false
      let back : Bool := if same = true ∧ beyond = true then !forward else forward
      (s.beginStop n x.decel 0 (.run back left goal)).settleAxis n

/-- R351 to R367: an accepted command takes its effect. -/
def State.runMotion (s : State) (n : Nat) (m : Motion) : State :=
  let s := s.endCommand n 4
  let d := if m.decel ≠ 0 then m.decel else s.axisReg n o6000.DECEL
  let x := s.axis n
  let s := s.setAxis n { x with command := some m, accel := m.accel, decel := d, learning := none, homing := 0,
                                final := x.final && decide (x.decel ≤ d) }
  let s := s.setDeferred n false
  let x := s.axis n
  let stopFor (s : State) (after_ : AxisNext) : State := (s.beginStop n d 0 after_).settleAxis n
  match m.op with
  | 3 =>
    if m.target = 0 then (if x.moving then stopFor s (.finish 1) else s.endCommand n 1)
    else s.runTowards n (decide (0 < m.target)) none (m.target.natAbs * 65536)
  | 4 => if x.moving then stopFor s (.finish 1) else s.endCommand n 1
  | 5 =>
    let s := s.setHomed n false
    if x.moving then stopFor s .home else (s.homeStart n).showAxis n
  | 6 =>
    let s := if bit (s.axisReg n o6000.STATUS) 0 then s else s.driveOn n
    let s := s.endCommand n 0
    if x.moving then stopFor s .rest else s.showAxis n
  | 7 => (s.driveOff n).endCommand n 0
  | _ =>
    let way := s.motionWay n m
    let speed := (if m.speed = 0 then s.axisReg n o6000.V_MAX else m.speed) * 65536
    if way = 0 ∧ x.moving = false then s.endCommand n 0
    else s.runTowards n (if way = 0 then x.forward else decide (0 < way)) (some way.natAbs) speed

/-- R352: a refused command: its result, and nothing else of the axis. -/
def State.refuseMotion (s : State) (n : Nat) (m : Motion) (result : Nat) : State := s.commandResult n m.id result

/-- R350, R352: the result that refuses a descriptor of ring 12, or 0. -/
def State.ringRefusal (s : State) (m : Motion) (reserved : Bool) : Nat :=
  if 1 ≤ m.op ∧ m.op ≤ 7 ∧ s.motionAllowed m.axis m.op = false then 0x08
  else if reserved = false ∨ s.motionFits m.axis m = false then 0x0B
  else s.motionState m.axis m

/-- R350: the motion pair takes the next descriptor of ring 12 when it is for axis n and one of the operations of `ops`. -/
def State.ringMotion (s : State) (n : Nat) (ops : Nat → Bool) : State :=
  if s.sys.motion.state ≠ .running then s
  else
    match State.takeSlot 256 12 4 s with
    | (some ws, t) =>
      let o := octetsOfWords ws
      let m := readMotion o
      if m.axis = n ∧ ops m.op = true then
        let result := t.ringRefusal m (motionReserved o)
        if result ≠ 0 then (t.refuseMotion n m result).auditRefusal 1 (motionAbort result) else t.runMotion n m
      else s
    | (none, _) => s

/-! ### Steps -/

/-- R364, R365: the idle duty at speed v, in 2⁻¹⁶, by the learnt table of an axis. -/
def State.idleDuty (s : State) (n v : Nat) : Nat :=
  match s.flash.duty.find? fun e => e.1 == n with
  | none => 0
  | some e =>
    let lo := s.startSpeed n
    let span := s.axisReg n o6000.V_MAX * 65536 - lo
    if span = 0 then e.2.getD 0 0
    else
      let at_ := (v - lo) * 15
      let k := at_ / span
      if 15 ≤ k then e.2.getD 15 0
      else
        let a := e.2.getD k 0
        let b := e.2.getD (k + 1) 0
        ((a : Int) + divOpen 3641 (((b : Int) - a) * (at_ % span : Nat)) span).toNat

/-- R364: λ for drive duty u and idle duty u₀ in 2⁻¹⁶; no figure is stated for u₀ of 1 (log entry 6). -/
def loadFigure (u u0 : Nat) : Nat :=
  if 65536 ≤ u0 then (clamp 0 1023 (Config.unstated 364 u)).toNat
  else (clamp 0 1023 (divOpen 3642 (1023 * ((u : Int) - u0)) (65536 - u0))).toNat

/-- R364, R366: the run current after a full step at load λ, and whether the axis has stalled. -/
def State.fullStep (s : State) (n duty : Nat) : State × Bool :=
  let x := s.axis n
  if x.v < 2 * s.startSpeed n then (s, false)
  else
    let lam := loadFigure duty (s.idleDuty n x.v)
    let lo := s.regN (o6011.I_MIN_MA + 256 * n)
    let hi := s.regN (o6011.I_MAX_MA + 256 * n)
    let full := s.regN (o6011.LOAD_FULL + 256 * n)
    let goal : Int := (lo : Int) + divOpen 3643 (((hi - lo) * min lam full : Nat) : Int) full
    let now : Int := s.reg (o6011.CURRENT_MA + 256 * n)
    let next := clamp (now - divOpen 3644 ((hi - lo : Nat) : Int) 64) (now + divOpen 3645 ((hi - lo : Nat) : Int) 8) goal
    let rises := if x.load < lam then x.rises + 1 else 0
    let s := (s.setReg (o6011.CURRENT_MA + 256 * n) next).setRegN (o6011.LOAD + 256 * n) lam
    let s := s.setAxis n { s.axis n with load := lam, rises := rises, held := false }
    (s, decide (next = hi) && decide (s.regN (o6011.STALL_STEPS + 256 * n) ≤ rises))

/-- R365: a step of LEARN: the duty of each full step at speed k, and after 64 of them the next speed, or the stop. -/
def State.learnStep (s : State) (n duty : Nat) (whole : Bool) : State :=
  let x := s.axis n
  match x.learning with
  | none => s
  | some k =>
    if 16 ≤ k then s
    else if x.v ≠ x.goal then s
    else
      let x := { x with atSpeed := x.atSpeed + 1,
                        duties := if whole then x.duties.modify k fun l => duty :: l else x.duties }
      if x.atSpeed < s.learnSteps n then s.setAxis n x
      else if k = 15 then
        (s.setAxis n { x with learning := some 16 }).beginStop n x.decel 0 .learnt
      else s.setAxis n { x with learning := some (k + 1), atSpeed := 0, goal := s.learnSpeed n (k + 1) }

/-- R345, R362: the setpoints move on; a setpoint that falls by more than H goes into fast decay. Whether a full step is
complete. -/
def State.microstep (s : State) (n : Nat) : State × Bool :=
  let x := s.axis n
  let move := 256 / max 1 (s.axisReg n o6000.MICROSTEP)
  let next := (x.entry + (if x.forward then move else 1024 - move)) % 1024
  let h : Int := s.reg (o6011.HYST_MA + 256 * n)
  let drops (p : Nat) : Bool :=
    decide (h < ((s.setpoint n p x.entry).natAbs : Int) - ((s.setpoint n p next).natAbs : Int))
  let fast := (drops 0, drops 1)
  let s := s.setAxis n { x with entry := next }
  let s := if fast.1 then s.setBridge n 0 3 else s
  let s := if fast.2 then s.setBridge n 1 3 else s
  (s, decide (next % 256 = 0))

/-- R366: a stall is declared. -/
def State.axisStall (s : State) (n : Nat) : State :=
  let homing := decide ((s.axis n).homing ≠ 0)
  let s := (s.incReg (o6000.STALLS + 256 * n)).setRegBit (o6000.STATUS + 256 * n) 4 true
  let s := ((s.setHomed n false).raise 92 n 1 20)
  let s := if homing then s.homeFailed n else s
  let s := s.faultStop n (if homing then 5 else 3)
  if s.axisPaces n then s.pacingLost else s

/-- R346, R349: the pulse itself: position, count and time, and on axis 0 one count of R57. -/
def State.stepPulse (s : State) (n : Nat) : State :=
  let x := s.axis n
  let k := o6000.POSITION + 256 * n
  let p := s.reg k
  let s := s.setReg k (signed 32 (unsigned 32 (p + (if x.forward then 1 else -1))))
  let s := s.incReg (o6000.STEPS_ISSUED + 256 * n)
  let s := s.setAxis n { x with steps := ((s.now, p) :: x.steps).take 4, lastStep := s.now, travelled := x.travelled + 1,
                                held := false, dist := x.dist.map fun d => d - 1 }
  let s := if s.axisExternal n then s.emit (.step n x.forward) else s
  if n = 0 then s.countEdge 5 (!x.forward) s.now else s

/-- AXIS_STEP (R347): the step timer of an axis expires. `duty` is the drive duty of the phase at its peak over the full
step that ends, in 2⁻¹⁶ (R364). -/
def State.axisStep (n duty : Nat) (s : State) : State :=
  let x := s.axis n
  if 4 ≤ n ∨ x.moving = false ∨ s.now < x.due ∨ s.islandLost 11 = true then s
  else
    let s := s.stepPulse n
    let external := s.axisExternal n
    let (s, whole) := if external then (s, false) else s.microstep n
    let s := s.learnStep n duty whole
    let x := s.axis n
    let s := if x.homing = 3 ∧ x.final = false ∧ s.axisReg n o6000.HOME_MAX_STEPS ≤ x.travelled then
        (s.beginStop n x.decel 0 (.finish 5)).homeFailed n else s
    if (s.axis n).arrived then s.standStill n
    else
      let (s, stalled) := if whole then s.fullStep n duty else (s, false)
      let s := if stalled = true ∧ (s.axis n).stop ≠ 7 then s.axisStall n else s
      let x := s.axis n
      if x.moving = false then s
      else
        let a := if x.accel ≠ 0 then x.accel else s.axisReg n o6000.ACCEL
        (s.setAxis n (x.afterStep (s.startSpeed n) a)).showAxis n

/-- R353: a write of `DECEL`. -/
def State.writeDecel (s : State) (n v : Nat) : State :=
  let s := s.setRegN (o6000.DECEL + 256 * n) v
  let x := s.axis n
  if x.moving = false then s.setAxis n { x with decel := v }
  else
    let need := stopSteps x.v (s.startSpeed n) v
    let fits : Bool := match x.dist with
      | some k => decide (need ≤ k)
      | none => true
    if fits then (s.setAxis n { x with decel := v }).setDeferred n false else s.setDeferred n true

/-- R346: a write of `POSITION_PRESET`. -/
def State.presetAxis (s : State) (n : Nat) (v : Int) : State :=
  let x := s.axis n
  (((s.setAxis n { x with steps := [] }).setReg (o6000.POSITION + 256 * n) v).setHomed n false).showAxis n

/-! ### Limits -/

/-- The `POSITION` of an axis at an earlier time (R358). -/
def State.positionAt (s : State) (n t : Nat) : Int :=
  (s.axis n).steps.foldl (fun p e => if t < e.1 then e.2 else p) (s.reg (o6000.POSITION + 256 * n))

/-- R358, R360, R361: what a trip does to an axis that may move towards that end. -/
def State.tripAxis (s : State) (n i : Nat) (positive : Bool) (latch : Int) : State :=
  let x := s.axis n
  let d := max x.decel (s.axisReg n o6000.LIMIT_DECEL)
  let towardsIt := x.moving && x.forward == positive
  let isHome := (s.axisReg n o6000.HOME_DIR == 1) == positive
  if x.homing = 3 ∧ isHome = true ∧ x.final = false then
    -- R360: the home event
    let s := s.beginStop n d 0 .homed
    let s := s.setAxis n { s.axis n with homing := 4 }
    let shift := s.reg (o6000.HOME_OFFSET + 256 * n) - latch
    let k := o6000.POSITION + 256 * n
    (s.setReg k (signed 32 (unsigned 32 (s.reg k + shift)))).settleAxis n
  else if x.homing ≠ 0 ∧ isHome = false then
    let s := if towardsIt then s.raise 90 (256 * i + n) 1 20 else s
    ((s.homeFailed n).beginStop n d 6 (.finish 5)).settleAxis n
  else if towardsIt then
    let s := ((s.setAxis n { x with learning := none }).raise 90 (256 * i + n) 1 20).beginStop n d 6 (.finish (if x.homing = 0 then 2 else 5))
    let s := s.settleAxis n
    if s.axisPaces n then s.pacingLost else s
  else s

/-- LIMIT_EDGE (R358, R359): an accepted edge of input i to a level, whose first sample was at time `first`. -/
def State.limitEdge (i first : Nat) (high : Bool) (s : State) : State :=
  let m := s.regN (o6010.LIM_MAP + i)
  if 8 ≤ i ∨ bit m 7 = false ∨ s.now < first + s.regN o6010.LIM_FILTER_NS then s
  else
    let active := high != bit m 6
    let l := s.axes.limits.getD i { first := 0, idle := none }
    let put (s : State) (l : LimitInput) : State := { s with axes := { s.axes with limits := s.axes.limits.set i l } }
    let since : Option Nat := if active then none else some first
    if bit (s.regN o6010.LIM_STATE) i then
      let s := put s { l with idle := since }
      if first < l.first + s.regN o6010.DEBOUNCE_US * 1000 then s.incReg o6010.CHATTER_EDGES else s
    else if active then
      let n := bits m 3 2
      let s := put s { first := first, idle := none }
      let s := s.setRegBit o6010.LIM_STATE i true
      let p := s.positionAt n first
      let s := s.setRegN (o6010.LATCH + i) (place (unsigned 32 p) 63 32 + first % 2 ^ 32)
      (s.tripAxis n i (bit m 1) p).showAxis n
    else s

/-- LIMIT_RELEASE (R359): a tripped input has been inactive for a whole `DEBOUNCE_US`. -/
def State.limitRelease (i : Nat) (s : State) : State :=
  let l := s.axes.limits.getD i { first := 0, idle := none }
  match l.idle with
  | none => s
  | some t =>
    if 8 ≤ i ∨ bit (s.regN o6010.LIM_STATE) i = false ∨ s.now < t + s.regN o6010.DEBOUNCE_US * 1000 then s
    else
      let m := s.regN (o6010.LIM_MAP + i)
      let n := bits m 3 2
      let s := s.setRegBit o6010.LIM_STATE i false
      let x := s.axis n
      let isHome := (s.axisReg n o6000.HOME_DIR == 1) == bit m 1
      if x.homing = 1 ∧ isHome = true ∧ s.limitTripped n (bit m 1) = false then
        let s := s.beginStop n x.decel 0 .seek
        (s.setAxis n { s.axis n with homing := 2 }).settleAxis n
      else s.showAxis n

/-! ### Current -/

/-- R363: a chop cycle of a phase ends with its mean; every 16 cycles the offset moves. -/
def State.chopDone (s : State) (n phase mean : Nat) : State :=
  let x := s.axis n
  let c := x.chopper phase
  let sum := c.sum + ((s.setpoint n phase x.entry).natAbs : Int) - mean
  let chops := s.now :: x.chops.filter fun t => decide (s.now < t + 1000000)
  if c.cycles + 1 < 16 then
    s.setAxis n { (x.setChopper phase { c with cycles := c.cycles + 1, sum := sum }) with chops := chops }
  else
    let k := o6011.OFFSET_MA + 256 * n
    let h : Int := s.reg (o6011.HYST_MA + 256 * n)
    let s := s.setReg k (clamp (0 - h) h (s.reg k + divOpen 363 sum 128))
    s.setAxis n { (x.setChopper phase { c with cycles := 0, sum := 0 }) with chops := chops }

/-- CHOP_CYCLE (R362): the sensed current of a phase in mA, and the mean of the cycle so far. -/
def State.chop (n phase current mean : Nat) (s : State) : State :=
  if 4 ≤ n ∨ 2 ≤ phase ∨ s.axisExternal n = true then s
  else
    let x := s.axis n
    let c := x.chopper phase
    let mid : Int := 2 * (((s.setpoint n phase x.entry).natAbs : Int) + s.reg (o6011.OFFSET_MA + 256 * n))
    let h : Int := s.reg (o6011.HYST_MA + 256 * n)
    let i : Int := 2 * current
    match c.mode with
    | 1 => if c.since + s.regN (o6011.CHOP_BLANK_NS + 256 * n) ≤ s.now ∧ mid + h < i then s.setBridge n phase 2 else s
    | 2 =>
      if c.since + s.regN (o6011.OFF_MIN_NS + 256 * n) ≤ s.now ∧ i < mid - h then
        (s.chopDone n phase mean).setBridge n phase 1
      else s
    | 3 => if i < mid - h then (s.chopDone n phase mean).setBridge n phase 1 else s
    | _ => s

/-- AXIS_HOLD_CURRENT (R364). -/
def State.holdCurrent (n : Nat) (s : State) : State :=
  let x := s.axis n
  if 4 ≤ n ∨ x.moving = true ∨ x.held = true ∨ s.axisExternal n = true ∨ bit (s.axisReg n o6000.STATUS) 0 = false ∨
      s.now < x.lastStep + s.regN (o6011.HOLD_DELAY_MS + 256 * n) * 1000000 then s
  else (s.setAxis n { x with held := true }).setRegN (o6011.CURRENT_MA + 256 * n) (s.regN (o6011.I_HOLD_MA + 256 * n))

/-! ### Learning and drive faults -/

/-- R365: a write of 1 to `LEARN`. -/
def State.learnStart (s : State) (n : Nat) : State :=
  let s := s.setAxis n { s.axis n with decel := s.axisReg n o6000.DECEL, accel := 0 }
  let s := s.beginRun n true none (s.learnSpeed n 0) .rest
  (s.setAxis n { s.axis n with learning := some 0, atSpeed := 0, duties := List.replicate 16 [] }).showAxis n

/-- The mean of a list of numbers; its rounding is open (log entry 5). -/
def meanOpen (site : Nat) (l : List Nat) : Nat :=
  if l.isEmpty then 0 else (divOpen site ((l.foldl (· + ·) 0 : Nat) : Int) l.length).toNat

/-- LEARN_DONE (R365): the axis is back at its start, and the table is stored. -/
def State.learnDone (n : Nat) (s : State) : State :=
  let x := s.axis n
  if 4 ≤ n ∨ x.learning ≠ some 17 ∨ x.moving = true then s
  else
    let s := s.setAxis n { x with learning := none, duties := [] }
    if s.islandLost 11 then s
    else
      let table := x.duties.map (meanOpen 3651)
      { s with flash := { s.flash with duty := (n, table) :: s.flash.duty.filter fun e => e.1 != n } }

/-- AXIS_DRIVE_FAULT (R367): in internal mode `figures` are a phase current in mA at the ends of the last two blanking
intervals, in external mode for how many ns AXn_B2 has been active. -/
def State.driveFault (n : Nat) (figures : List Nat) (s : State) : State :=
  let beyond := if s.axisExternal n then figures.any fun t => decide (10000 ≤ t)
    else decide (2 ≤ figures.length) && figures.all fun i => decide (3 * s.regN (o6011.I_MAX_MA + 256 * n) < 2 * i)
  if 4 ≤ n ∨ bit (s.axisReg n o6000.STATUS) 0 = false ∨ beyond = false then s
  else
    let s := s.driveOff n
    let s := (s.endCommand n 6).setHomed n false
    let s := s.raise 93 n 1 20
    if s.axisPaces n then s.pacingLost else s

end Sys2Proof.Machine
end

