-- ==== Sys2Proof/Machine/HeadLink.lean ====
section
/-! DEFINITION. Machine/HeadLink.lean: the commands of chapter 09: polls and replies, link states, lifetime copies, quarantine
and the resistance meter. -/
namespace Sys2Proof.Machine

/-! ### Polls and replies -/

/-- A poll of a lane, with what its reply should show when the die receives its last symbol (Table 09-5). -/
def State.poll (s : State) (lane op arg : Nat) : State :=
  let d := lane / 8
  let s := State.flushOrders d (s.die d).orders s
  let q : HeadPoll :=
    { lane := lane % 8, op := op, arg := arg, fresh := true,
      counts := (List.range 4).map fun r => s.countAt d r (s.afterSymbols 8),
      tags := (List.range 4).map fun r =>
        let x := s.row d r
        if x.replace = false ∧ x.sendLine = s.lineOnDie d r + 2 ∧ x.missed ≠ some (x.sendLine - 1) then some ((x.tag + 15) % 16)
        else none }
  let s := s.mapDie d fun x =>
    { x with polls := q :: x.polls.filter (fun p => p.lane != lane % 8), again := x.again.filter fun l => l != lane % 8 }
  (s.orderOn lane op arg []).useLane lane fun u => { u with polled := true, polledAt := some s.now }

/-- R259, R262: whether a lane is polled now: once in a line period, and `POLL_PERIOD_US` after its last poll. -/
def State.pollDue (s : State) (lane : Nat) : Bool :=
  let u := s.laneUse lane
  (s.printing && !u.polled) || (match u.polledAt with
    | some t => decide (t + s.regN o3800.POLL_PERIOD_US * 1000 ≤ s.now)
    | none => true)

/-- R264, Table 09-12: the 16-octet blocks of identity memory that a state of the link reads: all in TRAIN, 0000h–13FFh in
RETRAIN. -/
def idBlocks (link : Nat) : Nat := if link = 1 then 512 else if link = 4 then 320 else 0

/-- The next block of identity memory to ask for. -/
def Die.nextBlock (x : Die) : Option Nat :=
  (List.range (idBlocks x.link)).find? fun i =>
    !(x.reading.any fun e => e.1 == i) && !(x.polls.any fun p => p.op == 3 && p.arg == 16 * i)

/-- HEAD_POLL: POLL_ID while identity memory is read (R264), POLL_STATUS in UP and RESYNC (R259, R262). -/
def State.pollLane (lane : Nat) (s : State) : State :=
  let d := lane / 8
  if 512 ≤ lane then s
  else
    match (s.die d).nextBlock with
    | some i => s.poll lane 3 (16 * i)
    | none => if s.carries d && s.pollDue lane then s.poll lane 1 0 else s

/-- HEAD_POLL (R259, R262, R264). -/
def execHeadPoll (t lane : Nat) (s : State) : Host.Outcome State Fault Refusal := s.runOn t (State.pollLane lane)

/-- R263: the sensors of a die are polled on its working lanes in turn; in a line period on one that has not been polled. -/
def State.sensorPoll (d : Nat) (s : State) : State :=
  if 64 ≤ d ∨ s.carries d = false then s
  else
    let x := s.die d
    let next := ((List.range 8).map fun i => (x.polled + 1 + i) % 8).find? fun i =>
      !bit x.lanesBad i && !(s.printing && (s.laneUse (8 * d + i)).polled)
    match next with
    | none => s
    | some i => (s.mapDie d fun x => { x with polled := i }).poll (8 * d + i) 2 0

/-- HEAD_SENSOR_POLL (R263). -/
def execHeadSensorPoll (t die : Nat) (s : State) : Host.Outcome State Fault Refusal := s.runOn t (State.sensorPoll die)

/-- The poll of a lane whose reply is due. -/
def State.pollOf (s : State) (lane : Nat) : Option HeadPoll :=
  (s.die (lane / 8)).polls.find? fun p => p.lane == lane % 8

/-- The poll of a lane is over. -/
def State.pollOver (s : State) (lane : Nat) : State :=
  s.mapDie (lane / 8) fun x => { x with polls := x.polls.filter fun p => p.lane != lane % 8 }

/-- R259: a reply is missing or discarded: the lane is polled once more; a block of identity memory is asked for again by
its turn. -/
def State.pollAgain (s : State) (lane : Nat) : State :=
  let d := lane / 8
  let s := s.pollOver lane
  if s.carries d = false then s
  else if (s.die d).again.contains (lane % 8) then
    s.mapDie d fun x => { x with again := x.again.filter fun l => l != lane % 8 }
  else (s.poll lane 1 0).mapDie d fun x => { x with again := lane % 8 :: x.again }

/-- HEAD_NO_REPLY (R261). -/
def execHeadNoReply (t lane : Nat) (s : State) : Host.Outcome State Fault Refusal :=
  s.runOn t fun s =>
    if 512 ≤ lane ∨ (s.pollOf lane).isNone then s else (s.incReg o3800.NO_REPLIES).pollAgain lane

/-- R259, R262: the frame of row r that its next buffer lacks is sent again on a lane while R258 allows; one in a line
period, but all that are pending in a RESYNC (log entry 72). -/
def State.resendFrame (lane : Nat) (always_ : Bool) (s : State) (r : Nat) : State :=
  let d := lane / 8
  let x := s.row d r
  let line := s.lineOnDie d r + 1
  if s.printing = false ∨ x.replace = true ∨ x.sendLine ≠ line + 1 ∨ x.missed = some line ∨ s.nextInTime d r = false ∨
      (always_ = false ∧ (s.laneUse lane).resent = true) then s
  else
    match s.dropsOf d r line with
    | none => s
    | some drops =>
      let kw := x.warmSent == some line
      let kept := s.keptDrops d r line drops
      let fire := if kw then s.warmSet d r line else (List.range 1024).map fun c => kept.contains c
      ((s.sendFire d r false kw ((x.tag + 15) % 16) fire [lane % 8]).useLane lane fun u => { u with resent := true }).incReg
        o3800.FRAMES_RESENT

/-- Table 09-12: the link enters RESYNC on a lane, and the frames pending there go out again. -/
def State.resync (s : State) (lane : Nat) : State :=
  let s := s.dieResync lane
  if (s.die (lane / 8)).link = 3 then (List.range 4).foldl (State.resendFrame lane true) s else s

/-- A reply that is discarded (R256) and counted, with its code errors (R255); four within 1 ms bring a RESYNC. -/
def State.discardReply (s : State) (lane errors : Nat) : State :=
  let d := lane / 8
  let add (l : List (Nat × Nat)) (n : Nat) : List (Nat × Nat) := Cells.put (fun _ => 0) l lane (Cells.get (fun _ => 0) l lane + n)
  let s := s.withHeads fun h => { h with codeErrors := add h.codeErrors errors, discarded := add h.discarded 1 }
  let times := s.now :: (s.die d).discardAt.filter fun t => decide (s.now < t + 1000000)
  let s := (s.mapDie d fun x => { x with discardAt := times }).pollAgain lane
  if 4 ≤ times.length ∧ (s.die d).up = true then s.resync lane else s

/-- R259: the frame that should be in a row's next buffer is not, by `NEXT_VALID` and `NEXT_TAG`. -/
def frameAbsent (w0 : Nat) (tags : List (Option Nat)) (r : Nat) : Bool :=
  match tags.getD r none with
  | some tag => !(bit w0 (47 - r) && bits w0 (63 - 4 * r) (60 - 4 * r) == tag)
  | none => false

/-- R260: SYNC for a row, where its last symbol falls at least 20 ns from every burst end of the row and the lane has an order
left (R262): the count that the row is to have after its next burst end. -/
def State.sendSync (s : State) (d r : Nat) : State :=
  let x := s.row d r
  let lane := 8 * d + (s.die d).lane
  let done := s.afterSymbols 8
  let ends := (x.guardEnd - 512) :: x.queue.map fun q => q.due + x.spanOf q
  let clear_ := ends.all fun e => decide (done + 256 ≤ e ∨ e + 256 ≤ done)
  if clear_ = false ∨ (s.printing = true ∧ (s.laneUse lane).ordered = true) then s
  else s.headOrder d (0x10, 2 ^ (15 - r) + place ((s.countAt d r done + 1) % 16) 11 8, [])

/-- R260, Table 09-12: the burst count of a row differs from the one expected, or agrees again. -/
def State.judgeCount (lane : Nat) (w0 : Nat) (want : List Nat) (s : State) (r : Nat) : State :=
  let d := lane / 8
  let x := s.row d r
  if bits w0 (43 - 4 * r) (40 - 4 * r) = want.getD r 0 then s.setRow d r { x with slip := none }
  else
    let s := ((s.incReg o3800.SLIPS).raise 56 (r * 256 + d) 0 19).sendSync d r
    match x.slip with
    | some l =>
      if l + 2 ≤ x.current ∧ (s.die d).up = true then (s.setRow d r { x with slip := none }).resync lane else s
    | none => s.setRow d r { x with slip := some x.current }

/-- The four sensors of a reply (Table 09-7). -/
def sensorsOf (o : Octets) : List Int := (List.range 4).map fun i => signed 16 (memNum o (8 + 2 * i) 2)

/-- Octets of a reply's content by the order of its poll: status block, data, CRC-16 (Table 09-6). -/
def replyLength (op : Nat) : Nat := if op = 1 then 10 else 26

/-- HEAD_REPLY (R255, R256, R259, R260, R263, R264, R267): `groups` is the code groups from the preamble to EOF. A lane that has
no poll out takes no reply. -/
def State.headReply (lane : Nat) (groups : List Nat) (s : State) : State :=
  let d := lane / 8
  if 512 ≤ lane then s
  else
    match s.pollOf lane with
    | none => s
    | some q =>
      let good (o : Octets) : Bool := o.length == replyLength q.op && o.drop (o.length - 2) == crc16 (o.take (o.length - 2))
      match (replyContent groups).filter good with
      | none => s.discardReply lane (codeErrorsIn groups)
      | some o =>
        let w0 := memNum o 0 8
        let s := (s.pollOver lane).mapDie d fun x => { x with again := x.again.filter fun l => l != lane % 8 }
        if s.carries d = false then
          s.mapDie d fun x => { x with reading := Cells.put (fun _ => []) x.reading (q.arg / 16) (memAt o 8 16) }
        else if bit w0 16 then s.dieRetrain d
        else
          let s := if bit w0 18 ∨ q.fresh = false then s else s.sendIdWrite d
          let s := if q.op = 2 then s.takeSensors d (sensorsOf o) (bits (memNum o 16 8) 63 60) else s
          let s := ((List.range 4).filter (frameAbsent w0 q.tags)).foldl (State.resendFrame lane false) s
          let s := (List.range 4).foldl (State.judgeCount lane w0 q.counts) s
          if bit w0 19 = true ∧ (s.die d).up = true then s.resync lane else s

/-- HEAD_REPLY (R259). -/
def execHeadReply (t lane : Nat) (groups : List Nat) (s : State) : Host.Outcome State Fault Refusal :=
  s.runOn t (State.headReply lane groups)

/-- HEAD_FIRE_FRAME_SEND (R258). -/
def execHeadFireFrameSend (t die row : Nat) (s : State) : Host.Outcome State Fault Refusal :=
  s.runOn t (State.fireFrameSend die row)

/-- R259: the row line in progress, or next, has no frame on a lane in time. -/
def State.frameMissed (d r lane : Nat) (s : State) : State :=
  if s.regN o3000.DIES ≤ d ∨ 4 ≤ r ∨ s.printing = false then s else State.lineMissed d r (s.row d r).current s lane

/-- HEAD_FRAME_MISSED (R259). -/
def execHeadFrameMissed (t die row lane : Nat) (s : State) : Host.Outcome State Fault Refusal :=
  s.runOn t fun s => if 8 ≤ lane then s else s.frameMissed die row lane

/-- R267: `LIFE_WRITE_MIN` minutes have passed since a die's figures were written last. -/
def State.lifetimeDue (s : State) (d : Nat) : Bool :=
  decide ((s.die d).copiedAt + s.regN o3800.LIFE_WRITE_MIN * 60000000000 ≤ s.now)

/-- LIFETIME_WRITE (R267). -/
def execLifetimeWrite (t die : Nat) (s : State) : Host.Outcome State Fault Refusal :=
  s.runOn t fun s =>
    if s.mode = 0 ∨ s.regN o3000.DIES ≤ die ∨ s.lifetimeDue die = false then s else s.writeLifetime die

/-! ### Training -/

/-- R235: class and main trim by the ranks, or the override kept for the identity. -/
def State.loadRanks (s : State) (d : Nat) (m : Octets) : State :=
  let ranks := memNum m 16 1 * 8192 + unsigned 8 (8 * (3 - (memNum m 17 1 : Int)))
  match s.flash.energies.find? fun e => e.1 == identityKey m with
  | some e => s.setReg (o3602.DIE_ENERGY + d) e.2
  | none => s.setRegN (o3602.DIE_ENERGY + d) ranks

/-- R208, R512: in BOOT the saved map of a die's identity, or its factory list, goes straight into force, with the
restored entries that found no saved map, which then becomes one. -/
def State.loadMap (s : State) (d : Nat) (m : Octets) : State :=
  let id := identityKey m
  let mine := s.power.unplaced.filter fun e => e.1 == id
  let map := mine.foldl (fun l (e : Octets × Nat × Nat) => restoreColumn l e.2.1 e.2.2) (s.startMap m)
  let s := s.withHealth fun h => { h with inForce := putDieMap h.inForce d map, staged := putDieMap h.staged d map }
  if mine.isEmpty then s
  else ({ s with power := { s.power with unplaced := s.power.unplaced.filter fun e => e.1 != id } }).saveMap id d

/-- R254: the receive eye of a lane by its 64 phases, one bit each: where the longest run of good phases begins, phase 63 next
to phase 0, and its length. -/
def eyeOf (scan : Nat) : Nat × Nat :=
  let run (i : Nat) : Nat := ((List.range 64).takeWhile fun k => bit scan ((i + k) % 64)).length
  (List.range 64).foldl (fun (b : Nat × Nat) i => if b.2 < run i then (i, run i) else b) (0, 0)

/-- The lanes without lock or with too small an eye. -/
def State.badLanes (s : State) (locks : Nat) (scans : List Nat) : Nat :=
  maskOf ((List.range 8).filter fun i => !bit locks i || decide ((eyeOf (scans.getD i 0)).2 < s.regN o3800.EYE_MIN))

/-- R254, Table 09-17: what a training has set: failed lanes, the lowest eye, and each lane's phase in the middle of its eye. -/
def State.setLanes (s : State) (d locks : Nat) (scans : List Nat) : State :=
  let eyes := (List.range 8).map fun i => eyeOf (scans.getD i 0)
  s.mapDie d fun x =>
    { x with lanesBad := s.badLanes locks scans, eye := (eyes.map Prod.snd).foldl min 255,
             phases := eyes.map fun e => (e.1 + e.2 / 2) % 64 }

/-- The first n blocks of identity memory, once all of them have been read. -/
def Die.readBlocks (x : Die) (n : Nat) : Option Octets :=
  if (List.range n).all fun i => x.reading.any fun e => e.1 == i then
    some ((List.range n).flatMap fun i => Cells.get (fun _ => []) x.reading i)
  else none

/-- Table 09-12: TRAIN ends: in UP when within 50 ms every lane has lock and eye and a good identity has been read; in FAILED
when the identity read is not good, or 50 ms have passed. `scans` gives the good phases of each lane. -/
def State.trainEnd (d locks : Nat) (scans : List Nat) (s : State) : State :=
  let x := s.die d
  if 64 ≤ d ∨ x.link ≠ 1 then s
  else
    let bad := s.badLanes locks scans
    let late := decide (x.enteredAt + 50000000 < s.now)
    let over_ := decide (x.enteredAt + 50000000 ≤ s.now)
    match x.readBlocks 512 with
    | some memory =>
      let good := identityGood memory
      let put (s : State) : State :=
        (s.setLanes d locks scans).mapDie d fun x => { x with idOk := good, memory := memory }
      if good = false then ((put s).raise 59 d 1 19 true).dieFails d
      else if bad = 0 ∧ late = false then
        let s := ((put s).loadRanks d memory).mapDie d fun x =>
          { x with life := s.lifeFrom memory, copy := match lifeOf memory with
                                                    | some c => c.1
                                                    | none => 1 }
        let s := if s.mode = 0 then s.loadMap d memory else s
        s.dieUp d
      else if over_ then (put s).dieFails d else s
    | none => if over_ then (s.setLanes d locks scans).dieFails d else s

/-- DIE_TRAIN_END (R264, R265). -/
def execDieTrainEnd (t die locks : Nat) (scans : List Nat) (s : State) : Host.Outcome State Fault Refusal :=
  s.runOn t (State.trainEnd die locks scans)

/-- Table 09-12: RESYNC ends: in UP with lock and agreeing counts within 10 µs, or in RETRAIN once they have passed. -/
def State.resyncEnd (d : Nat) (ok : Bool) (s : State) : State :=
  let x := s.die d
  if 64 ≤ d ∨ x.link ≠ 3 then s
  else if ok = true ∧ s.now ≤ x.enteredAt + 10000 then (s.dieUp d).raise 57 d 0 19
  else if x.enteredAt + 10000 ≤ s.now then s.dieRetrain d else s

/-- DIE_RESYNC_END (R255, Table 09-12). -/
def execDieResyncEnd (t die : Nat) (ok : Bool) (s : State) : Host.Outcome State Fault Refusal :=
  s.runOn t (State.resyncEnd die ok)

/-- Table 09-12: RETRAIN ends, by the identity read again from 0000h–13FFh: in UP within 2 ms, in FAILED when the identity is
not good or another die's, or 2 ms have passed. -/
def State.headRetrained (d locks : Nat) (scans : List Nat) (s : State) : State :=
  let x := s.die d
  if 64 ≤ d ∨ x.link ≠ 4 then s
  else
    let bad := s.badLanes locks scans
    let late := decide (x.enteredAt + 2000000 < s.now)
    let over_ := decide (x.enteredAt + 2000000 ≤ s.now)
    match x.readBlocks 320 with
    | some memory =>
      let good := identityGood memory
      let same := identityKey memory == identityKey x.memory
      let s' := s.setLanes d locks scans
      if good = false ∨ same = false then
        let s' := if same then s' else s'.raise 59 d 1 19
        let s' := if good then s' else (s'.mapDie d fun x => { x with idOk := false }).raise 59 d 1 19 true
        s'.dieFails d
      else if bad = 0 ∧ late = false then s'.dieUp d
      else if over_ then s'.dieFails d else s
    | none => if over_ then (s.setLanes d locks scans).dieFails d else s

/-- DIE_RETRAIN_END (R269). -/
def execDieRetrainEnd (t die locks : Nat) (scans : List Nat) (s : State) : Host.Outcome State Fault Refusal :=
  s.runOn t (State.headRetrained die locks scans)

/-! ### Quarantine -/

/-- QUARANTINE_STAGE (R269): the supervisor stages the bits of `QUARANTINE_MASK` that failed links have set. -/
def execQuarantineStage (t : Nat) (s : State) : Host.Outcome State Fault Refusal :=
  s.runOn t fun s =>
    if s.quarantineDue then s.supervisorCommit .firmware [(o3802.QUARANTINE_MASK, s.reg o3802.QUARANTINE_MASK)] else s

/-- R270: the answer to a write of `QUARANTINE_MASK`. -/
def State.quarantineCode (s : State) (mask : Nat) : Nat :=
  let was := s.regN o3802.QUARANTINE_MASK
  if (List.range 64).any fun d => bit was d && !bit mask d && !(s.die d).up then 0x07000801 else 0

/-! ### Resistance meter -/

/-- DIE_IDLE (R273): no print burst for 200 µs opens an idle window, and the meter goes on with the sense input. -/
def State.dieIdle (d : Nat) (s : State) : State :=
  let x := s.die d
  let quiet : Bool := match x.lastBurst with
    | some t => decide (t + 200000 ≤ s.now)
    | none => true
  if 64 ≤ d ∨ x.up = false ∨ quiet = false ∨ s.meterOn = false ∨ bit (s.regN o3805.SENSE_FAULTS) d = true then s
  else if x.meter.idle then s.nextMeasure (partnerOf d)
  else (s.mapDie d fun x => { x with meter := { x.meter with idle := true, since := 64 } }).nextMeasure (partnerOf d)

/-- DIE_IDLE (R273). -/
def execDieIdle (t die : Nat) (s : State) : Host.Outcome State Fault Refusal := s.runOn t (State.dieIdle die)

/-- R274: a discarded result leaves no trace in the resistance map, the counts of results, the staged health map and the
counters of R276; what has come into force or been inhibited by it stays (log entry 73). -/
def State.undoResult (d : Nat) (s : State) (u : MeterUndo) : State :=
  let s := s.mapDie d fun x =>
    { x with meter := { x.meter with map := Cells.put (fun _ => 0xFFFF) x.meter.map u.heater u.entry,
                                     streaks := Cells.put (fun _ => 0) x.meter.streaks u.heater u.streak } }
  let nz := nozzle d (u.heater % 1024) (u.heater / 1024)
  let s := match u.health with
    | some (was, put) =>
      if mapGet s.health.staged nz = put then s.withHealth fun h => { h with staged := mapPut h.staged nz was } else s
    | none => s
  match u.counter with
  | some k => s.setRegN k ((s.regN k + 2 ^ 32 - 1) % 2 ^ 32)
  | none => s

/-- R274: a reference reading in 0.01 Ω. -/
def State.referenceDone (s : State) (d reading : Nat) : State :=
  if 9000 ≤ reading ∧ reading ≤ 11000 then
    s.mapDie d fun x => { x with meter := { x.meter with ref := some reading, since := 0, errors := 0, undo := [] } }
  else
    let m := (s.die d).meter
    let s := m.undo.foldl (State.undoResult d) s
    let s := (s.mapDie d fun x =>
      { x with meter := { x.meter with errors := m.errors + 1, undo := [], confirm := none } }).incReg o3805.REF_ERRORS
    if 3 ≤ m.errors + 1 then
      ((s.mapDie d fun x => { x with meter := { x.meter with idle := false } }).setRegBit o3805.SENSE_FAULTS d true).raise
        62 d 1 19
    else s

/-- The class of a result (R276, 3805h:0D): 0 normal, 1 drift, 2 open, 3 short. N in 0.01 Ω, `dev` the factory octet,
`good` whether the heater is GOOD. -/
def classify (result nominal : Nat) (dev : Int) (open_ good : Bool) : Nat :=
  let f : Int := nominal * (400 + dev)
  if open_ || decide (3 * nominal < 2 * result) then 2
  else if 2 * result < nominal then 3
  else if good && decide (8 * f < 100 * ((400 * (result : Int) - f).natAbs : Int)) then 1
  else 0

/-- Whether a result lies within 6 % of the factory value. -/
def nearFactory (result nominal : Nat) (dev : Int) : Bool :=
  let f : Int := nominal * (400 + dev)
  decide (100 * ((400 * (result : Int) - f).natAbs : Int) ≤ 6 * f)

/-- The counters of R276 together, of which a result raises at most one. -/
def resultCounters : List Nat := [o3805.OPENS, o3805.SHORTS, o3805.DRIFTS, o3805.RECOVERIES]

/-- R276: what a classified result of heater n (1,024·row + column) leads to. `confirmed` says that it confirms the one
before it. -/
def State.heaterResult (s : State) (d n cls : Nat) (confirmed near : Bool) : State :=
  let nz := nozzle d (n % 1024) (n / 1024)
  let streak (s : State) (k : Nat) : State := s.mapDie d fun x =>
    { x with meter := { x.meter with streaks := Cells.put (fun _ => 0) x.meter.streaks n k } }
  let clear (s : State) : State := s.mapDie d fun x => { x with meter := { x.meter with confirm := none } }
  let s := if cls = 0 then s else streak s 0
  match cls with
  | 3 => ((((clear s).inhibit nz).autoHealth nz 3 2).2.incReg o3805.SHORTS)
  | 2 =>
    if confirmed then (((clear s).autoHealth nz 3 2).2.incReg o3805.OPENS).raise 61 d 0 19
    else s.mapDie d fun x => { x with meter := { x.meter with confirm := some (n, 2) } }
  | 1 =>
    if confirmed then (((clear s).autoHealth nz 1 2).2.incReg o3805.DRIFTS).raise 61 d 0 19 true
    else s.mapDie d fun x => { x with meter := { x.meter with confirm := some (n, 1) } }
  | _ =>
    let s := clear s
    if stateIn s.health.staged nz = 1 ∧ causeIn s.health.staged nz = 2 then
      if near then
        let k := Cells.get (fun _ => 0) (s.die d).meter.streaks n + 1
        if 3 ≤ k then
          if s.flag o3400.AUTO_RECOVER then (((streak s 0).autoHealth nz 0 2).2).incReg o3805.RECOVERIES else streak s 3
        else streak s k
      else streak s 0
    else streak s 0

/-- A reading of a heater in 0.01 Ω before it is scaled by the reference (R272, R276). -/
def State.heaterDone (s : State) (d n reading : Nat) : State :=
  let x := s.die d
  let ref := x.meter.ref.getD 10000
  let open_ := decide (120000 ≤ reading)
  let result := (divOpen 272 ((reading * 10000 : Nat) : Int) ref).toNat
  let nominal := 10 * rankNominal x.rank
  let dev := signed 8 (memNum x.memory (0x400 + n) 1)
  let nz := nozzle d (n % 1024) (n / 1024)
  let cls := classify result nominal dev open_ (stateIn s.health.staged nz == 0)
  let due := x.meter.confirm
  let confirmed := due == some (n, cls)
  let kept := if result < 65535 then result else (Config.unstated 276 result % 65535).toNat
  let i := if due.isSome then x.meter.sweep else x.meter.sweep + 1
  let s := s.mapDie d fun x =>
    { x with meter := { x.meter with map := Cells.put (fun _ => 0xFFFF) x.meter.map n kept,
                                     since := x.meter.since + 1, sweep := i % 4096 } }
  let s := if i = 4096 then s.incReg o3805.SWEEPS else s
  let s := s.setRegN o3805.LAST_RESULT (place d 63 58 + place n 57 46 + place cls 45 44 + place result 31 0)
  let before_ := s
  let s := s.heaterResult d n cls confirmed (nearFactory result nominal dev)
  let staged := (mapGet before_.health.staged nz, mapGet s.health.staged nz)
  let u : MeterUndo :=
    { heater := n, entry := Cells.get (fun _ => 0xFFFF) x.meter.map n, streak := Cells.get (fun _ => 0) x.meter.streaks n,
      health := if staged.1 = staged.2 then none else some staged,
      counter := resultCounters.find? fun k => s.regN k != before_.regN k }
  s.mapDie d fun x => { x with meter := { x.meter with undo := u :: x.meter.undo } }

/-- R272 to R276: a measurement ends. -/
def State.measureDone (d reading : Nat) (s : State) : State :=
  match (s.die d).meter.task with
  | none => s
  | some n =>
    let s := (s.mapDie d fun x => { x with meter := { x.meter with task := none } }).order d 0x21 0
    let s :=
      if s.meterOn = false then s.mapDie d fun x => { x with meter := { x.meter with idle := false } }
      else
        let s := s.incReg o3805.MEASUREMENTS
        if n = 4096 then s.referenceDone d reading else s.heaterDone d n reading
    ((s.warmWaiting d).warmWaiting (partnerOf d)).nextMeasure d

/-- RESIST_MEASURE_DONE (R276). -/
def execResistMeasureDone (t die reading : Nat) (s : State) : Host.Outcome State Fault Refusal :=
  s.runOn t fun s => if 64 ≤ die then s else s.measureDone die reading

/-- 3801h: the link word of a die (Table 09-17). -/
def State.linkWord (s : State) (d : Nat) : Nat :=
  let x := s.die d
  let inForce := bit (s.regN o3802.QUARANTINE_IN_FORCE) d
  let staged : Bool := match s.modes.commit with
    | some c => c.entries.any fun e => e.1 == o3802.QUARANTINE_MASK && bit (unsigned 64 e.2) d
    | none => false
  let b (on : Bool) (n : Nat) : Nat := if on then 2 ^ n else 0
  place x.link 31 29 + b inForce 28 + b (staged && !inForce) 27 + b x.idOk 26 + place x.lanesBad 23 16 + place x.eye 15 8 +
    place x.retrains 7 0

end Sys2Proof.Machine
end

