-- ==== Sys2Proof/Machine/Polders.lean ====
section
/-! DEFINITION. Machine/Polders.lean: chapter 06, faults of polders, takeover by polder S, shadow compare, self-test and
return to service. -/
namespace Sys2Proof.Machine

/-- A fault or stall of polder p is counted, and its cause noted (Table 06-9). -/
def State.markPolder (s : State) (p cause : Nat) : State :=
  s.mapPolder p fun q => { q with faults := min 255 (q.faults + 1), cause := cause }

/-- R197, R458: a polder that no longer takes part in a commit. -/
def State.leaveCommit (s : State) (p : Nat) : State :=
  match s.modes.commit with
  | some c =>
    if c.stage = .staging then (s.setCommit (some { c with waiting := c.waiting.filter fun q => q != p })).checkSettled
    else s
  | none => s

/-- Table 06-4, R198: an isolated polder whose fault count has reached 3 is held. -/
def State.heldByCount (s : State) (p : Nat) : State :=
  if (s.polder p).faults < 3 then s else (s.setPolder p 5).raise 41 p (if p = 16 then 1 else 2) p true

/-- R192: polder p is isolated and polder S begins to serve its lanes; it connects later. `from_` is t = 0 of Table 06-2. -/
def State.takeOver (s : State) (p cause from_ : Nat) : State :=
  let s := (((s.markPolder p cause).setPolder p 2).heldByCount p).setPolder 16 10
  (s.withPolders fun q =>
    { q with serving := some p, shadowed := none, connected := false, takenAt := from_,
             takeCause := cause }).replaceParticipant p 16

/-- R191, R198: polder S is isolated. -/
def State.isolateSpare (s : State) : State :=
  ((s.setPolder 16 2).withPolders fun q =>
    { q with serving := none, shadowed := none, connected := false }).heldByCount 16 |>.leaveCommit 16

/-- Whether the polder that polder S serves is in READY_RETURN (R195). -/
def State.canReturn (s : State) : Bool :=
  match s.polders.serving with
  | some q => s.polders.spare.state == 10 && (s.polder q).state == 3
  | none => false

/-- R195: the polder that polder S serves returns at once. -/
def State.returnNow (s : State) : State :=
  match s.polders.serving with
  | some q => (s.finishReturn q).replaceParticipant 16 q
  | none => s

/-- R537: a fault of a polder that serves no lane. -/
def State.idleFault (s : State) (p : Nat) : State :=
  let st := (s.polder p).state
  if st = 5 then s
  else
    let s := if st = 4 then (s.withPolders fun q => { q with returnAt := none }) else s
    let s := if 3 ≤ (s.polder p).faults then s.heldByCount p
      else if st = 2 then
        (s.mapPolder p fun q => { q with state := 5, cause := 6 }).raise 41 p (if p = 16 then 1 else 2) p true
      else s.setPolder p 2
    if st = 4 then s.leaveCommit p else s

/-- R189: the event of a stall (cause 1) or fault report of a polder. -/
def State.reportPolder (s : State) (p cause breach : Nat) : State :=
  if cause = 1 then s.raise 36 p breach p else s.raise 37 (cause * 256 + p) breach p

/-- R195: the stall (cause 1) or fault of a polder ends in SAFE-HOLD. -/
def State.fatalCause (s : State) (p cause : Nat) : State :=
  if cause = 1 then s.fatal 36 p p 2 else s.fatal 37 (cause * 256 + p) p 2

/-- R195: a polder fault that no polder S takes. -/
def State.polderFatal (s : State) (p cause : Nat) : State := (s.markPolder p cause).fatalCause p cause

/-- R195: the higher-numbered polder that polder S has begun to serve, where polder p faulted in the same instant. -/
def State.tiedWith (s : State) (p from_ : Nat) : Option Nat :=
  match s.polders.serving with
  | some q =>
    if p < q ∧ s.polders.connected = false ∧ s.polders.takenAt = from_ ∧ (s.polder q).state = 2 ∧
        (s.polders.takeCause = 1 ∨ s.polders.takeCause = 2 ∨ s.polders.takeCause = 3) then some q
    else none
  | none => none

/-- R192, R195, R198, R537: a stall (cause 1) or fault report (2, 3) of polder p, 16 polder S, with t = 0 at `from_`. -/
def State.polderFault (s : State) (p cause from_ : Nat) : State :=
  let st := (s.polder p).state
  if p = 16 then
    if st = 10 then
      if s.canReturn then ((s.reportPolder 16 cause 2).returnNow.markPolder 16 cause).isolateSpare
      else s.polderFatal 16 cause
    else
      let s := (s.reportPolder 16 cause 1).markPolder 16 cause
      if st = 8 ∨ st = 9 then (s.raise 40 0 1 16).isolateSpare else s.idleFault 16
  else if st = 0 then (s.reportPolder p cause 1).markPolder p cause
  else if st ≠ 1 then ((s.reportPolder p cause 1).markPolder p cause).idleFault p
  else if s.polders.spare.state = 8 ∨ s.polders.spare.state = 9 then (s.reportPolder p cause 2).takeOver p cause from_
  else if s.canReturn then ((s.reportPolder p cause 2).returnNow).takeOver p cause from_
  else
    match s.tiedWith p from_ with
    | none => s.polderFatal p cause
    | some q =>
      let first := s.polders.takeCause
      let s := (s.setPolder q 1).reportPolder p cause 2
      (s.takeOver p cause from_).fatalCause q first

/-- R22, R478: the region of a polder is lost. -/
def State.polderFails (s : State) (p cause : Nat) : State := s.polderFault p cause s.now

/-- POLDER_FAULT (R188, R195): a rail reads 11b (cause 2) or a parity is wrong (cause 3). -/
def execPolderFault (t polder cause : Nat) (s : State) : Host.Outcome State Fault Refusal :=
  s.runOn t fun s => if 16 < polder ∨ ¬(cause = 2 ∨ cause = 3) then s else s.polderFault polder cause s.now

/-- R189: whether a polder has handshakes that can stall: in PRINT and PROOF, in a self-test (ISOLATED, or in BOOT), and in
a replay (polder S on its way to its connection, a returning polder). -/
def State.handshakes (s : State) (p : Nat) : Bool :=
  let st := (s.polder p).state
  s.printing || s.mode == 0 || st == 2 || st == 4 || (st == 10 && !s.polders.connected)

/-- POLDER_STALL (R189): a request unacknowledged for `HANDSHAKE_TIMEOUT_US`. -/
def execPolderStall (t polder : Nat) (s : State) : Host.Outcome State Fault Refusal :=
  s.runOn t fun s =>
    if 16 < polder ∨ s.handshakes polder = false then s
    else s.polderFault polder 1 (s.now - s.regN o3020.HANDSHAKE_TIMEOUT_US * 1000)

/-- R192: step 6 of Table 06-2. -/
def State.connectSpare (s : State) : State :=
  match s.polders.serving with
  | some p =>
    if s.polders.connected ∨ s.polders.spare.state ≠ 10 then s
    else
      let s := s.withPolders fun q => { q with connected := true }
      let s := (s.incReg o3020.TAKEOVERS).setRegN o3020.LAST_TAKEOVER_US ((s.now - s.polders.takenAt) / 1000 % 2 ^ 32)
      s.raise 38 (s.polders.takeCause * 256 + p) 2 p
  | none => s

/-- TAKEOVER_CONNECT (R192, R221). -/
def execTakeoverConnect (t : Nat) (s : State) : Host.Outcome State Fault Refusal := s.runOn t State.connectSpare

/-- R190: the fitted, active polder after one, in ascending order and around. -/
def State.nextShadow (s : State) (after_ : Option Nat) : Option Nat :=
  let able := (List.range 16).filter fun p => s.polderFitted p && (s.polder p).state == 1
  match after_ with
  | none => able.head?
  | some c =>
    match able.find? fun p => decide (c < p) with
    | some p => some p
    | none => able.head?

/-- R190: the pass over the shadowed polder is complete in both streams, or none is shadowed. -/
def State.shadowOver (s : State) : Bool :=
  match s.polders.shadowed with
  | none => true
  | some p =>
    let n : Int := s.reg o3020.SHADOW_LINES
    (s.polder p).state != 1 ||
      (s.streamPast p 0 (s.polders.joined.1 + n) && s.streamPast p 1 (s.polders.joined.2 + n))

/-- R190: polder S goes on to the next polder, or stops shadowing. -/
def State.shadowNext (s : State) : State :=
  let st := s.polders.spare.state
  if st ≠ 8 ∧ st ≠ 9 then s
  else if s.flag o3020.SHADOW_ENABLE = false ∨ s.printing = false then
    (s.setPolder 16 8).withPolders fun q => { q with shadowed := none }
  else if s.shadowOver = false then s
  else
    let after_ := match s.polders.shadowed with
      | some p => some p
      | none => s.polders.resume
    match s.nextShadow after_ with
    | none => (s.setPolder 16 8).withPolders fun q => { q with shadowed := none }
    | some p =>
      let at_ := (s.streamNext p 0, s.streamNext p 1)
      (s.setPolder 16 9).withPolders fun q => { q with shadowed := some p, resume := none, joined := at_ }

/-- SHADOW_NEXT (R190). -/
def execShadowNext (t : Nat) (s : State) : Host.Outcome State Fault Refusal := s.runOn t State.shadowNext

/-- R191: a mismatch of a compared lane line; `same` says whether the two replays of polder S agree. -/
def State.shadowMismatch (same : Bool) (s : State) : State :=
  match s.polders.shadowed with
  | none => s
  | some p =>
    if s.polders.spare.state ≠ 9 then s
    else
      let s := s.incReg o3020.SHADOW_MISMATCHES
      if same then
        let s := s.raise 39 p 2 p
        if (s.polder p).state = 1 then s.takeOver p 4 s.now else s
      else (((s.raise 39 16 1 16).raise 40 0 1 16).markPolder 16 4).isolateSpare

/-- SHADOW_MISMATCH (R191). -/
def execShadowMismatch (t : Nat) (same : Bool) (s : State) : Host.Outcome State Fault Refusal :=
  s.runOn t (State.shadowMismatch same)

/-- Table 06-4, R196, R198: the self-test of an isolated polder ends. -/
def State.selfTested (p : Nat) (passed : Bool) (s : State) : State :=
  if 16 < p ∨ (s.polder p).state ≠ 2 then s
  else if passed = true ∧ (s.polder p).faults < 3 then
    (s.setPolder p (if p = 16 then 8 else 3)).raise 41 p 0 p
  else
    let s := if passed then s.setPolder p 5 else s.mapPolder p fun q => { q with state := 5, cause := 6 }
    s.raise 41 p (if p = 16 then 1 else 2) p true

/-- POLDER_SELF_TEST_DONE (R196). -/
def execPolderSelfTestDone (t polder : Nat) (passed : Bool) (s : State) : Host.Outcome State Fault Refusal :=
  s.runOn t (State.selfTested polder passed)

/-- R197: both streams of a RETURNING polder have reached its tide line. -/
def State.polderBack (p : Nat) (s : State) : State :=
  match s.polders.returnAt with
  | some l =>
    if p < 16 ∧ (s.polder p).state = 4 ∧ s.streamPast p 0 l ∧ s.streamPast p 1 l then s.finishReturn p else s
  | none => s

/-- POLDER_RETURNED (R197). -/
def execPolderReturned (t polder : Nat) (s : State) : Host.Outcome State Fault Refusal :=
  s.runOn t (State.polderBack polder)

/-- Table 06-4: `DIES` is written. -/
def State.setDies (s : State) (n : Nat) : State :=
  let s := s.setRegN o3000.DIES n
  let st (p : Nat) (q : Polder) : Polder :=
    if q.state = 0 ∨ q.state = 1 then { q with state := if 4 * p < n then 1 else 0 } else q
  let s := s.withPolders fun q => { q with units := q.units.zipIdx.map fun (x : Polder × Nat) => st x.2 x.1 }
  s.refreshGeometry

/-- R199: the answer to a write of `FORCE_TAKEOVER`. -/
def State.forceCode (s : State) (p : Nat) : Nat :=
  if (s.polder p).state ≠ 1 then 0x04000301
  else if s.polders.spare.state ≠ 8 ∧ s.polders.spare.state ≠ 9 then 0x06000301 else 0

/-- R199: the answer to a write of `RETURN_POLDER`. -/
def State.returnCode (s : State) (p : Nat) : Nat := if (s.polder p).state ≠ 3 then 0x04000302 else 0

end Sys2Proof.Machine
end

