-- ==== Sys2Proof/Machine/Inspecting.lean ====
section
/-! DEFINITION. Machine/Inspecting.lean: chapter 11, what the compare engine and the inspection pair find in a frame:
background, streaks, zones, registration, naming and proposals. Levels and residuals are exact numbers. -/
namespace Sys2Proof.Machine

/-! ### Cells -/

/-- A rational rounded to nearest; a tie is open (log entry 5). -/
def roundOpen (site : Nat) (q : Rat) : Int :=
  let fl := q.num / q.den
  let rem := q.num % q.den
  if 2 * rem < q.den then fl
  else if q.den < 2 * rem then fl + 1
  else if Config.roundUp site q.num q.den then fl + 1 else fl

/-- A rational rounded where the rule states no rounding (log entry 5). -/
def cutOpen (site : Nat) (q : Rat) : Int := divOpen site q.num q.den

/-- The sum of some rationals. -/
def sumOf (l : List Rat) : Rat := l.foldl (· + ·) 0

/-- A cell that is neither excused nor replaced by zeros: its camera line, coverage and level (R303, R305, R307). -/
structure Cell where
  line  : Int
  cover : Nat
  level : Nat
  deriving DecidableEq, Repr

/-- The merged lines of a frame with their camera lines, oldest first. -/
def Frame.numbered (f : Frame) : List (Int × MergedLine) :=
  f.lines.reverse.zipIdx.map fun v => (f.first + (v.2 : Int), v.1)

/-- The analysed pixels of pipeline p (R302). -/
def State.analysedPixels (s : State) (p : Nat) : List Nat :=
  (List.range (s.lineWidth p)).filter fun x => s.pixelPrints p x

/-- Whether the cell of pixel x on a merged line counts: neither excused nor replaced by zeros (R305, R308). -/
def State.cellCounts (s : State) (p x : Nat) (l : Int × MergedLine) : Bool := !(l.2.isZeroed x || s.cellExcused p x l.1)

/-- The usable cells of pixel x in a frame. -/
def State.cellsOf (s : State) (p : Nat) (f : Frame) (x : Nat) : List Cell :=
  f.numbered.filterMap fun l =>
    if s.cellCounts p x l = false then none
    else some { line := l.1, cover := s.coverage p x l.1, level := l.2.pixels.getD x 0 }

/-- `DENSITY`(n) (Table 11-6). -/
def State.density (s : State) (n : Nat) : Nat := s.regN (o5202.DENSITY + min 12 n)

/-- R307: the darkness of a level over a background; none is stated for a background of 0 (log entry 6). -/
def darkness (level : Nat) (b : Rat) : Rat :=
  if b = 0 then Config.unstated 307 level
  else
    let d : Rat := 4095 * (1 - (level : Rat) / b)
    if d < 0 then 0 else if 4095 < d then 4095 else d

/-- R307: the residual of a cell. -/
def State.residual (s : State) (c : Cell) (b : Rat) : Rat := darkness c.level b - (s.density c.cover : Rat)

/-- The background of a pixel, when it has one. -/
def Inspect.backgroundOf (u : Inspect) (x : Nat) : Option Rat := (u.background.find? fun e => e.1 == x).map fun e => e.2

/-- The mean of some levels. -/
def meanOf (l : List Nat) : Rat := (l.foldl (· + ·) 0 : Nat) / (l.length : Rat)

/-! ### Background -/

/-- The largest m below a bound with m ^ 2000 · down ≤ up, found bit by bit from bit `fuel` − 1. -/
def rootSearch (up down : Nat) : Nat → Nat → Nat
  | 0, m => m
  | fuel + 1, m =>
    let next := m + 2 ^ fuel
    rootSearch up down fuel (if next ^ 2000 * down ≤ up then next else m)

/-- R308: the ratio of new to old gain, 10 to the power d / 2,000 for d in 0.01 dB; a power that is no whole number of
1/65536 is one of the two beside it, left open (log entry 5). -/
def gainRatio (d : Int) : Rat :=
  let up := 65536 ^ 2000 * 10 ^ d.toNat
  let down := 10 ^ (-d).toNat
  let m := rootSearch up down 32 0
  let m := if m ^ 2000 * down = up then m else if Config.roundUp 308 d 2000 then m + 1 else m
  (m : Rat) / 65536

/-- R308: the backgrounds are scaled when the settings differ from those of the frame before. -/
def State.scaleBackground (s : State) (p : Nat) (g : Settings) : State :=
  let u := s.inspecting p
  match u.settings with
  | none => s.setInspecting p { u with settings := some g }
  | some old =>
    if old.number = g.number then s
    else
      let k : Rat := (g.exposure : Rat) / (old.exposure : Rat) * gainRatio (g.gain - old.gain)
      s.setInspecting p { u with settings := some g, background := u.background.map fun e => (e.1, e.2 * k) }

/-- R306: the background of a pixel after a frame, averaged exponentially with weight 1 / `BG_FRAMES` (log entry 25). -/
def State.learnPixel (s : State) (p : Nat) (f : Frame) (x : Nat) : State :=
  let levels := ((s.cellsOf p f x).filter fun c => c.cover == 0).map fun c => c.level
  if levels.length < 64 then s
  else
    let u := s.inspecting p
    let m := meanOf levels
    let b := match u.backgroundOf x with
      | some old => old + (m - old) / (s.regN o5200.BG_FRAMES : Rat)
      | none => m
    s.setInspecting p { u with background := (x, b) :: u.background.filter fun e => e.1 != x }

/-- R306: LEARNING until 90 % of the analysed pixels have a background. -/
def State.learnState (s : State) (p : Nat) : State :=
  let px := s.analysedPixels p
  let u := s.inspecting p
  let have_ := (px.filter fun x => (u.backgroundOf x).isSome).length
  if s.regN (o5200.STATE + p) = 1 ∧ 9 * px.length ≤ 10 * have_ then s.setRegN (o5200.STATE + p) 2 else s

/-! ### Proposals -/

/-- A nozzle as inspection names it: die, die-local column, row (R312). -/
structure Named where
  die : Nat
  col : Nat
  row : Nat
  deriving DecidableEq, Repr

/-- The nozzle of a bar column's candidate slot: rows 0–3 of its die, or of the lower die of an overlap, 4–7 of the
higher. -/
def State.nozzleAt (s : State) (c slot : Nat) : Named :=
  let dies := s.regN o3000.DIES
  match overlapOf dies c with
  | some k =>
    let i := c - 992 * (k + 1)
    if slot < 4 then { die := k, col := 992 + i, row := slot } else { die := k + 1, col := i, row := slot - 4 }
  | none =>
    let d := dieOf dies c
    { die := d, col := c - 992 * d, row := slot % 4 }

/-- The number of a nozzle in the health maps. -/
def Named.number (n : Named) : Nat := nozzle n.die n.col n.row

/-- A proposal that is not made is recorded (R316, R317). -/
def State.discardProposal (s : State) (p frame : Nat) (f : Finding) : State :=
  (s.incReg o5203.DISCARDED).putFinding p frame 7 f

/-- R317: a proposal is held; one for the same nozzle is replaced, and beyond 64 the oldest leaves. -/
def State.holdProposal (s : State) (p frame n : Nat) (f : Finding) : State :=
  let rest := s.inspect.held.filter fun h => h.nozzle != n
  let beyond := decide (64 ≤ rest.length)
  let s := if beyond then
      match rest.head? with
      | some h =>
        let w0 := h.words.getD 0 0
        ((s.incReg o5203.HELD_SPILLWAY).incReg o5203.DISCARDED).ringPut 8
          ((w0 - place (bits w0 31 24) 31 24 + place 7 31 24) :: h.words.drop 1)
      | none => s
    else s
  let h : Proposal := { id := f.id, nozzle := n, state := f.state, words := f.words frame 6 p }
  let s := s.withInspect fun q => { q with held := (if beyond then rest.drop 1 else rest) ++ [h] }
  (s.setRegN o5203.HELD s.inspect.held.length).putFinding p frame 6 f

/-- R316: a proposal enters the staged map as an inspection change; one that Table 07-2 does not allow is recorded as
discarded (log entry 26). -/
def State.applyProposal (s : State) (p frame n : Nat) (f : Finding) : State :=
  match s.autoHealth n f.state 3 with
  | (true, s) =>
    let s := s.withInspect fun q =>
      { q with outs := if f.state = 3 then (n / 4096, s.now) :: q.outs.filter fun o => decide (s.now < o.2 + 3600000000000) else q.outs }
    (s.incReg o5203.APPLIED).putFinding p frame 5 f
  | (false, s) => s.discardProposal p frame f

/-- R316: OUT proposals applied for a die within 60 min exceed `AUTO_LIMIT`. -/
def State.overLimit (s : State) (die : Nat) : Bool :=
  decide (s.regN o5203.AUTO_LIMIT <
    (s.inspect.outs.filter fun o => o.1 == die && decide (s.now < o.2 + 3600000000000)).length)

/-- R316: INSPECT_LIMIT once for a die and hour. -/
def State.tellLimit (s : State) (die : Nat) : State :=
  if s.inspect.limits.any fun o => o.1 == die && decide (s.now < o.2 + 3600000000000) then s
  else
    (s.withInspect fun q => { q with limits := (die, s.now) :: q.limits.filter fun o => o.1 != die }).raise 72 die 0 21

/-- A `PROPOSAL_ID` that no held proposal carries; its start is a free value (log entry 4). -/
def State.newProposalId (s : State) : Nat × State :=
  let (d, s) := s.draw 16
  let taken (i : Nat) : Bool := s.inspect.held.any fun h => h.id == i
  (((List.range 65).map fun i => (d + i) % 65536).find? (fun i => !taken i) |>.getD d, s)

/-- R316 to R318: a proposal for a nozzle, by its policy. -/
def State.propose (s : State) (p frame : Nat) (n : Named) (state score fraction : Nat) : State :=
  if s.inspect.rejected.any fun r => r.2.2.1 == n.number then s
  else
    let (id, s) := s.newProposalId
    let f : Finding := { state := state, id := id, column := 992 * n.die + n.col, die := n.die, row := n.row, dieCol := n.col,
                         score := score, fraction := fraction }
    let policy := s.regN (if state = 3 then o5203.POLICY_OUT else if state = 2 then o5203.POLICY_PROBATION else o5203.POLICY_GOOD)
    if state = 3 ∧ s.overLimit n.die = true then (s.holdProposal p frame n.number f).tellLimit n.die
    else if policy = 0 then s.discardProposal p frame f
    else if policy = 1 then s.holdProposal p frame n.number f
    else s.applyProposal p frame n.number f

/-- R318: what refuses a write of `APPROVE` or `REJECT`. -/
def State.proposalCode (s : State) (id : Nat) : Nat :=
  match s.inspect.held.find? fun h => h.id == id with
  | none => 0x06000B01
  | some h =>
    match s.healthCommit with
    | some c =>
      if (c.stage = .held ∨ c.stage = .staging ∨ c.stage = .settled) ∧
          stateIn s.health.coming h.nozzle ≠ stateIn s.health.inForce h.nozzle then 0x06000B02 else 0
    | none => 0

/-- A held proposal is taken off the list. -/
def State.takeProposal (s : State) (id : Nat) : Option Proposal × State :=
  let h := s.inspect.held.find? fun h => h.id == id
  let s := s.withInspect fun q => { q with held := q.held.filter fun h => h.id != id }
  (h, s.setRegN o5203.HELD s.inspect.held.length)

/-- R318: `APPROVE`. -/
def State.approve (s : State) (id : Nat) : State :=
  match s.takeProposal id with
  | (some h, s) =>
    let w0 := h.words.getD 0 0
    let w1 := h.words.getD 1 0
    let w2 := h.words.getD 2 0
    s.applyProposal (bits w0 23 23) (bits w0 63 32) h.nozzle
      { state := h.state, id := h.id, column := bits w1 63 32, die := bits w1 31 26, row := bits w1 25 24,
        dieCol := bits w1 23 14, score := bits w2 63 48, fraction := bits w2 31 16 }
  | (none, s) => s

/-- R318: `REJECT`: no new proposal for the nozzle until its streak has cleared and been confirmed again. -/
def State.reject (s : State) (id : Nat) : State :=
  match s.takeProposal id with
  | (some h, s) =>
    let w0 := h.words.getD 0 0
    let p := bits w0 23 23
    let x := (bits (h.words.getD 1 0) 63 32 - s.regN (o5200.COLUMN_ORIGIN + p)) / 2
    (s.withInspect fun q => { q with rejected := (p, x, h.nozzle, false) :: q.rejected }).incReg o5203.REJECTED
  | (none, s) => s

/-! ### Streaks -/

/-- R309: the profile of a pixel from its cells that should carry ink: their number and mean residual. -/
def State.profile (s : State) (b : Rat) (cells : List Cell) : Nat × Rat :=
  let on := cells.filter fun c => decide (s.regN o5200.MIN_EXPECT ≤ s.density c.cover)
  (on.length, if on.isEmpty then 0 else sumOf (on.map fun c => s.residual c b) / (on.length : Rat))

/-- A streak seen for the first time. -/
def Streak.first (x : Nat) (excess : Bool) (seq : Nat) : Streak :=
  { pixel := x, excess := excess, run := 0, confirmed := false, clearing := 0, profile := 0,
    tracked := { pixel := x, window := none, trace := [], samples := [] }, seq := seq, waits := false, probes := 0, queued := false,
    asked := false, probe := none, settled := false }

/-- Puts a streak of pipeline p, in place of the one of its pixel and kind. -/
def State.putStreak (s : State) (p : Nat) (k : Streak) : State :=
  let u := s.inspecting p
  let same (q : Streak) : Bool := q.pixel == k.pixel && q.excess == k.excess
  let put (q : Streak) : Streak := if same q then k else q
  let all : List Streak := if u.streaks.any same then u.streaks.map put else u.streaks ++ [k]
  s.setInspecting p { u with streaks := all }

/-- Removes a streak, and releases its window (R310, R311). -/
def State.dropStreak (s : State) (p : Nat) (k : Streak) : State :=
  let u := s.inspecting p
  let s := s.setInspecting p { u with streaks := u.streaks.filter fun q => !(q.pixel == k.pixel && q.excess == k.excess) }
  s.releaseWindow k.tracked.window

/-- R311: a MISSING candidate gets a trace window, or waits for one. -/
def State.traceStreak (s : State) (p : Nat) (k : Streak) : State × Streak :=
  if k.excess = true ∨ k.settled = true ∨ k.tracked.window.isSome = true then (s, k)
  else
    match s.armWindow (s.pixelColumn p k.pixel) with
    | (some w, s) => (s, { k with tracked := { k.tracked with window := some w, trace := [], samples := [] }, waits := false })
    | (none, s) => (if k.waits then s else s.incReg o5201.NAME_WAITS, { k with waits := true })

/-- R310, R318: a streak is confirmed. -/
def State.confirmStreak (s : State) (p frame : Nat) (k : Streak) : State :=
  let s := s.withInspect fun q => { q with rejected := q.rejected.filter fun r => !(r.1 == p && r.2.1 == k.pixel && r.2.2.2) }
  let s := (s.incReg o5201.STREAKS_FOUND).putFinding p frame 1
    { excess := k.excess, column := s.pixelColumn p k.pixel, profile := k.profile }
  s.raiseLimited 70 0 p 1 21 1000000000

/-- R310: a confirmed streak has cleared. -/
def State.clearStreak (s : State) (p frame : Nat) (k : Streak) : State :=
  let s := s.withInspect fun q => { q with rejected := q.rejected.map fun r =>
    if r.1 = p ∧ r.2.1 = k.pixel then (r.1, r.2.1, r.2.2.1, true) else r }
  (s.dropStreak p k).putFinding p frame 2 { excess := k.excess, column := s.pixelColumn p k.pixel, profile := k.profile }

/-- R310: one kind of streak of a pixel with enough lines: `cand` says whether the pixel is a candidate of the kind, `calm`
whether its profile lies below half the threshold. -/
def State.judgeStreak (s : State) (p frame x : Nat) (excess cand calm : Bool) (profile : Int) : State :=
  let need := s.regN o5201.CONFIRM_FRAMES
  let old := (s.inspecting p).streaks.find? fun k => k.pixel == x && k.excess == excess
  if cand then
    let (k, s) := match old with
      | some k => (k, s)
      | none => (Streak.first x excess s.inspect.sighted, s.withInspect fun q => { q with sighted := q.sighted + 1 })
    let k := { k with run := k.run + 1, clearing := 0, profile := profile }
    let (s, k) := s.traceStreak p k
    if k.confirmed = false ∧ need ≤ k.run then
      let k := { k with confirmed := true }
      (s.putStreak p k).confirmStreak p frame k
    else s.putStreak p k
  else
    match old with
    | none => s
    | some k =>
      if k.confirmed = false then s.dropStreak p k
      else if calm then
        let k := { k with clearing := k.clearing + 1, run := 0, profile := profile }
        if need ≤ k.clearing then s.clearStreak p frame k else s.putStreak p k
      else s.putStreak p { k with clearing := 0, run := 0, profile := profile }

/-- R309, R310, R312: one pixel of a frame: its profile, its streaks, and the residuals its trace needs. -/
def State.judgePixel (p : Nat) (f : Frame) (s : State) (x : Nat) : State :=
  match (s.inspecting p).backgroundOf x with
  | none => s
  | some b =>
    let cells := s.cellsOf p f x
    let (n, prof) := s.profile b cells
    let lo : Rat := s.regN o5201.STREAK_THRESHOLD
    let hi : Rat := s.regN o5201.EXCESS_THRESHOLD
    let size := if prof < 0 then 0 - prof else prof
    let shown := clamp (-32768) 32767 (cutOpen 323 prof)
    let s := if n < s.regN o5201.MIN_LINES then s
      else
        let s := s.judgeStreak p f.number x false (decide (prof ≤ 0 - lo)) (decide (2 * size < lo)) shown
        s.judgeStreak p f.number x true (decide (hi ≤ prof)) (decide (2 * size < hi)) shown
    let more := cells.map fun c => (c.line, s.residual c b, c.cover)
    s.mapTracked fun q t =>
      if q = p ∧ t.pixel = x ∧ t.window.isSome = true then { t with samples := t.samples ++ more } else t

/-! ### Zones -/

/-- R319: the cells of a zone in a frame, and those with a residual of `ZONE_RESIDUAL` or more; pixels of confirmed streaks
are left out. -/
def State.zoneCount (s : State) (p : Nat) (f : Frame) (zone : Nat) : Nat × Nat :=
  let u := s.inspecting p
  let limit : Rat := s.regN o5205.ZONE_RESIDUAL
  (s.analysedPixels p).foldl (fun acc x =>
    if zoneOf (s.pixelColumn p x) ≠ zone ∨ (u.streaks.any fun k => k.confirmed && k.pixel == x) = true then acc
    else match u.backgroundOf x with
      | none => acc
      | some b =>
        let rs := (s.cellsOf p f x).map fun c => s.residual c b
        (acc.1 + rs.length, acc.2 + (rs.filter fun r => decide (limit ≤ r ∨ r ≤ 0 - limit)).length)) (0, 0)

/-- R319: a zone mismatch is confirmed: reported, and a takeover ordered when polder S is free. -/
def State.zoneMismatch (s : State) (p frame zone : Nat) : State :=
  let s := (s.incReg o5205.ZONE_MISMATCHES).putFinding p frame 9 { zone := zone }
  let spare := s.polders.spare.state
  let take := s.flag o5205.ZONE_TAKEOVER && (s.polder zone).state == 1 && (spare == 8 || spare == 9)
  if take then (s.raise 73 zone 2 21).takeOver zone 5 s.now else s.raise 73 zone 1 21

/-- R319: one zone of a frame. -/
def State.judgeZone (p : Nat) (f : Frame) (s : State) (zone : Nat) : State :=
  let n := s.zoneCount p f zone
  let u := s.inspecting p
  let z := u.zones.getD zone Zone.fresh
  if s.regN o5205.ZONE_FRACTION * n.1 < 1000 * n.2 then
    let run := z.run + 1
    if s.regN o5201.CONFIRM_FRAMES ≤ run then
      (s.setInspecting p { u with zones := u.zones.set zone { z with run := 0 } }).zoneMismatch p f.number zone
    else s.setInspecting p { u with zones := u.zones.set zone { z with run := run } }
  else s.setInspecting p { u with zones := u.zones.set zone { z with run := 0 } }

/-! ### Registration -/

/-- Whether both columns of a pixel lie in a die of a rank and in no stitch overlap; `rank` 2 takes both ranks (R320). -/
def State.pixelInRank (s : State) (p x zone rank : Nat) : Bool :=
  let c := s.pixelColumn p x
  let dies := s.regN o3000.DIES
  let ok (c : Nat) : Bool := (overlapOf dies c).isNone && (rank == 2 || dieOf dies c % 2 == rank)
  zoneOf c == zone && ok c && ok (c + 1)

/-- R320: E of a pixel at a place in quarters of a camera line, by linear interpolation. -/
def State.expectAt (s : State) (p x : Nat) (quarter : Int) : Rat :=
  let k := quarter / 4
  let fr : Rat := (quarter % 4 : Int)
  ((4 - fr) * (s.density (s.coverage p x k) : Rat) + fr * (s.density (s.coverage p x (k + 1)) : Rat)) / 4

/-- The same across the web: E of a camera line at a place in quarters of a pixel; 0 outside the pipeline line. -/
def State.expectAcross (s : State) (p : Nat) (quarter line : Int) : Rat :=
  let k := quarter / 4
  let fr : Rat := (quarter % 4 : Int)
  let e (x : Int) : Rat := if x < 0 then 0 else (s.density (s.coverage p x.toNat line) : Rat)
  ((4 - fr) * e k + fr * e (k + 1)) / 4

/-- The shifts of R320 in quarters, nearest to 0 first: the first of equal residuals is taken (log entry 27). -/
def shifts : List Int := 0 :: (List.range 32).flatMap fun (i : Nat) => [0 - ((i : Int) + 1), (i : Int) + 1]

/-- R320: the shift of least squared residual with its parabola, in quarters; at the end of the range and for a flat
parabola no refinement is stated (log entry 6). -/
def bestShift (score : Int → Rat) : Rat :=
  let table := shifts.map fun q => (q, score q)
  let best := table.foldl (fun (b : Int × Rat) x => if x.2 < b.2 then x else b) (table.getD 0 (0, 0))
  let q := best.1
  if q ≤ -32 ∨ 32 ≤ q then (q : Rat) + (Config.unstated 320 q : Rat) / 65536
  else
    let a := score (q - 1)
    let c := score (q + 1)
    let bend := a - 2 * best.2 + c
    if bend = 0 then (q : Rat) + (Config.unstated 320 q : Rat) / 65536 else (q : Rat) + (a - c) / (2 * bend)

/-- R320: the cells of a zone and rank with their darkness: (pixel, camera line, D). -/
def State.rankCells (s : State) (p : Nat) (f : Frame) (zone rank : Nat) : List (Nat × Int × Rat) :=
  let u := s.inspecting p
  ((s.analysedPixels p).filter fun x => s.pixelInRank p x zone rank).flatMap fun x =>
    match u.backgroundOf x with
    | none => []
    | some b => (s.cellsOf p f x).map fun c => (x, c.line, darkness c.level b)

/-- R320: the down-web edges of a zone and rank in a frame, between cells that both count (R305). -/
def State.downEdges (s : State) (p : Nat) (f : Frame) (zone rank : Nat) : Nat :=
  let pairs := f.numbered.zip (f.numbered.drop 1)
  ((s.analysedPixels p).filter fun x => s.pixelInRank p x zone rank).foldl (fun n x =>
    n + (pairs.filter fun l =>
      s.cellCounts p x l.1 && s.cellCounts p x l.2 &&
        decide (1024 ≤ ((s.density (s.coverage p x l.2.1) : Int) - s.density (s.coverage p x l.1.1)).natAbs)).length) 0

/-- R320: the cross-web edges of a zone in a frame, between cells that both count (R305). -/
def State.crossEdges (s : State) (p : Nat) (f : Frame) (zone : Nat) : Nat :=
  let px := (s.analysedPixels p).filter fun x => s.pixelInRank p x zone 2
  f.numbered.foldl (fun n l =>
    n + (px.filter fun x =>
      s.cellCounts p x l && s.cellCounts p (x + 1) l && decide (1024 ≤ ((s.density (s.coverage p (x + 1) l.1) : Int) - s.density (s.coverage p x l.1)).natAbs)).length) 0

/-- R320: δ of a zone and rank in 1/16 line at 1200 lpi, when valid; a camera line is 32 sixteenths. -/
def State.downError (s : State) (p : Nat) (f : Frame) (zone rank : Nat) : Option Rat :=
  if s.downEdges p f zone rank < s.regN o5204.MIN_EDGES then none
  else
    let cells := s.rankCells p f zone rank
    let score (q : Int) : Rat := sumOf (cells.map fun c =>
      let r := c.2.2 - s.expectAt p c.1 (4 * c.2.1 - q)
      r * r)
    some (8 * bestShift score)

/-- R320: the cross-web error of a zone in 1/16 column, when valid; a pixel is 32 sixteenths. -/
def State.crossError (s : State) (p : Nat) (f : Frame) (zone : Nat) : Option Rat :=
  if s.crossEdges p f zone < s.regN o5204.MIN_EDGES then none
  else
    let cells := s.rankCells p f zone 2
    let score (q : Int) : Rat := sumOf (cells.map fun c =>
      let r := c.2.2 - s.expectAcross p (4 * (c.1 : Int) - q) c.2.1
      r * r)
    some (8 * bestShift score)

/-- The dies of a rank of a zone (R321). -/
def State.rankDies (s : State) (zone rank : Nat) : List Nat :=
  [4 * zone + rank, 4 * zone + rank + 2].filter fun d => decide (d < s.regN o3000.DIES)

/-- R321: a correction of a zone and rank by its average, or INSPECT_REG_LIMIT. -/
def State.correctRank (s : State) (p zone rank : Nat) (average : Rat) : State :=
  let x := (s.inspecting p).zones.getD zone Zone.fresh
  let r := if rank = 0 then x.even else x.odd
  let size := if average < 0 then 0 - average else average
  if r.limited = true ∨ size ≤ (s.regN o5204.REG_DEADBAND : Rat) then s
  else
    let step : Int := s.reg o5204.REG_STEP
    let limit : Int := s.reg o5204.REG_LIMIT
    let dies := s.rankDies zone rank
    let trims := dies.map fun d => s.reg (o3000.DIE_TRIM + d)
    let want := clamp (0 - step) step (0 - roundOpen 321 average)
    let lo := trims.foldl (fun m t => max m (0 - limit - t)) (-1000)
    let hi := trims.foldl (fun m t => min m (limit - t)) 1000
    let change : Int := if hi < lo then 0 else clamp lo hi want
    if change = 0 ∨ change * want < 0 then
      (s.mapRank p zone rank fun r => { r with limited := true }).raise 74 (256 * rank + zone) 1 21
    else
      (s.mapRank p zone rank fun r => { r with asked := true }).supervisorCommit .firmware
        (dies.map fun d => (o3000.DIE_TRIM + d, s.reg (o3000.DIE_TRIM + d) + change))

/-- The average of a rank over its valid frames. -/
def Rank.average (r : Rank) : Rat := if r.frames = 0 then 0 else r.sum / (r.frames : Rat)

/-- R322: registration correction of a zone is frozen while a blind pipeline sees it. -/
def State.regFrozen (s : State) (zone : Nat) : Bool :=
  [0, 1].any fun p => (s.inspecting p).blind != 0 && (s.analysedPixels p).any fun x => zoneOf (s.pixelColumn p x) == zone

/-- R321: an averaging period of a zone ends as one of its ranks has `REG_FRAMES` valid frames: the record, and the correction;
the other rank goes on with its own (log entry 79). -/
def State.endPeriod (s : State) (p frame zone : Nat) : State :=
  let u := s.inspecting p
  let z := u.zones.getD zone Zone.fresh
  let n := s.regN o5204.REG_FRAMES
  let cross : Rat := if z.seen = 0 then 0 else z.cross / (z.seen : Rat)
  let w3 := place (unsigned 16 (cutOpen 3211 z.even.average)) 63 48 + place (unsigned 16 (cutOpen 3211 z.odd.average)) 47 32
    + place (unsigned 16 (cutOpen 3212 cross)) 31 16
    + place (divOpen 3213 (min z.even.frames z.odd.frames * 255 : Nat) n).toNat 15 8
  let fresh (r : Rank) : Rank := if n ≤ r.frames then { r with sum := 0, frames := 0 } else r
  let zones := u.zones.set zone { z with even := fresh z.even, odd := fresh z.odd, cross := 0, seen := 0 }
  let s := (s.setInspecting p { u with zones := zones }).setRegN (o5204.REG_ZONE + zone) w3
  let s := s.putFinding p frame 8 { zone := zone, w3 := w3 }
  if s.regFrozen zone then s
  else
    let s := if n ≤ z.even.frames then s.correctRank p zone 0 z.even.average else s
    if n ≤ z.odd.frames then s.correctRank p zone 1 z.odd.average else s

/-- R321: a rank takes the measurement of a frame, unless a correction is on its way or its ramp is not imaged yet. -/
def Rank.take (r : Rank) (first : Int) (d : Option Rat) : Rank :=
  let waits : Bool := r.asked || (match r.until_ with
    | some u => decide (first ≤ u)
    | none => false)
  if waits then r
  else match d with
    | some d => { r with until_ := none, sum := r.sum + d, frames := r.frames + 1 }
    | none => { r with until_ := none }

/-- R320, R321: the registration of one zone in a frame. -/
def State.judgeRegistration (p : Nat) (f : Frame) (s : State) (zone : Nat) : State :=
  if s.flag o5204.REG_CORRECT = false ∨ ((s.analysedPixels p).any fun x => zoneOf (s.pixelColumn p x) == zone) = false then s
  else
    let first := s.webLine f.first
    let u := s.inspecting p
    let z := u.zones.getD zone Zone.fresh
    let cross := s.crossError p f zone
    let z := { z with even := z.even.take first (s.downError p f zone 0), odd := z.odd.take first (s.downError p f zone 1),
                      cross := z.cross + cross.getD 0, seen := z.seen + (if cross.isSome then 1 else 0) }
    let s := s.setInspecting p { u with zones := u.zones.set zone z }
    let n := s.regN o5204.REG_FRAMES
    if n ≤ z.even.frames ∨ n ≤ z.odd.frames then s.endPeriod p f.number zone else s

/-! ### A frame -/

/-- R305: the excused cells of a frame. -/
def State.countExcused (s : State) (p : Nat) (f : Frame) : Nat :=
  (s.analysedPixels p).foldl (fun n x => n + (f.numbered.filter fun l => s.cellExcused p x l.1).length) 0

/-- R306 to R321: a frame is analysed. -/
def State.analyse (s : State) (p : Nat) (f : Frame) (g : Settings) : State :=
  let s := s.addReg o5200.EXCUSED_CELLS (s.countExcused p f)
  let s := s.scaleBackground p g
  let px := s.analysedPixels p
  let s := (px.foldl (fun s x => s.learnPixel p f x) s).learnState p
  let s := px.foldl (State.judgePixel p f) s
  let s := s.setInspecting p { s.inspecting p with seenTo := f.first + f.lines.length }
  let s := (List.range 16).foldl (State.judgeZone p f) s
  let s := (List.range 16).foldl (State.judgeRegistration p f) s
  s.showStreaks.incReg o5200.FRAMES_ANALYSED

/-- FRAME_ANALYSIS (R308, R309): inspection takes the next descriptor, analyses its frame when the pipeline sees, and
releases the buffer (R297). -/
def State.frameAnalysis (p : Nat) (s : State) : State :=
  if 2 ≤ p ∨ s.sys.inspection.state ≠ .running ∨ s.regionLost 21 = true then s
  else
    match State.takeSlot 64 (5 + p) 4 s with
    | (none, s) => s
    | (some ws, s) =>
      let n := bits (ws.getD 0 0) 63 32
      match (s.pipeline p).held.find? fun h => h.frame.number == n && !h.inspected with
      | none => s
      | some h =>
        let free (q : HeldFrame) : HeldFrame := if q.frame.number = n then { q with inspected := true } else q
        let s := s.mapPipeline p fun x => { x with held := (x.held.map free).filter s.isHeld }
        if (s.inspecting p).blind ≠ 0 ∨ bit h.frame.flags 7 = true ∨ bit h.frame.flags 0 = true then s
        else s.analyse p h.frame h.settings

/-! ### Naming -/

/-- The trace entries of a column on a web line. -/
def Tracked.entry (t : Tracked) (line : Int) (c : Nat) : Option Nat :=
  (t.trace.filter fun e => e.1 == line).findSome? fun e => (e.2.find? fun v => v.1 == c).map fun v => v.2

/-- Whether a nozzle of a column, by its slot, fired by a trace entry (Table 07-8). -/
def entryFired (e slot : Nat) : Bool := if slot < 4 then bit e (8 + slot) else bit e (12 + (slot - 4))

/-- R312: a sample of a camera line with the drops of each web line traced. -/
structure Sample where
  residual : Rat
  cover    : Nat
  entries  : List (Nat × Nat)
  deriving DecidableEq, Repr

/-- R311, R312: the samples whose web lines are all traced, within some web lines or without bound, oldest first. -/
def State.samplesOf (s : State) (p : Nat) (t : Tracked) (span : Option (Int × Int)) : List Sample :=
  let c := s.pixelColumn p t.pixel
  t.samples.filterMap fun m =>
    let ls := s.webLines m.1
    let inside : Bool := match span with
      | some (a, b) => ls.all fun l => decide (a ≤ l ∧ l < b)
      | none => true
    let es := ls.flatMap fun l => [c, c + 1].filterMap fun c => (t.entry l c).map fun e => (c, e)
    if inside = true ∧ es.length = 2 * ls.length then some { residual := m.2.1, cover := m.2.2, entries := es } else none

/-- R312: a_k of a sample for a candidate (column, slot). -/
def Sample.drops (m : Sample) (k : Nat × Nat) : Nat :=
  (m.entries.filter fun e => e.1 == k.1 && entryFired e.2 k.2).length

/-- R312: g of a sample; for coverage 0, where no drop is asked for, none is stated (log entry 6). -/
def State.stepOf (s : State) (m : Sample) : Int :=
  if m.cover = 0 then Config.unstated 312 0 else (s.density m.cover : Int) - s.density (m.cover - 1)

/-- R312: a correlation to 1/1000, its rounding open (log entry 5); none is stated where one of the two does not vary (log
entry 6). -/
def correlation (xs : List (Rat × Rat)) : Int :=
  let n : Rat := xs.length
  let sx := sumOf (xs.map fun v => v.1)
  let sy := sumOf (xs.map fun v => v.2)
  let cov := n * sumOf (xs.map fun v => v.1 * v.2) - sx * sy
  let vx := n * sumOf (xs.map fun v => v.1 * v.1) - sx * sx
  let vy := n * sumOf (xs.map fun v => v.2 * v.2) - sy * sy
  if vx = 0 ∨ vy = 0 then Config.unstated 3121 xs.length
  else
    let q : Rat := 1000000 * cov * cov / (vx * vy)
    let r := rootFloor (q.num.toNat / q.den)
    let r := if (r * r : Rat) = q then r else if Config.roundUp 312 q.num q.den then r + 1 else r
    if cov < 0 then 0 - (r : Int) else r

/-- R312: the score of a candidate, held to what a record can show. -/
def State.scoreOf (s : State) (ms : List Sample) (k : Nat × Nat) : Int :=
  correlation (ms.map fun m => (m.residual, (-((m.drops k : Int) * s.stepOf m) : Int)))

/-- R312: the fraction of a candidate in 1/1000; none is stated where its drops weigh nothing (log entry 6). -/
def State.fractionOf (s : State) (ms : List Sample) (k : Nat × Nat) : Nat :=
  let weight : Int := (ms.map fun m => (m.drops k : Int) * s.stepOf m).foldl (· + ·) 0
  if weight = 0 then (clamp 0 1000 (Config.unstated 3122 0)).toNat
  else (clamp 0 1000 (cutOpen 3123 (1000 * (0 - sumOf (ms.map fun m => m.residual)) / (weight : Rat)))).toNat

/-- A candidate with its score. -/
structure Ranked where
  col   : Nat
  slot  : Nat
  score : Int
  deriving DecidableEq, Repr

/-- R312: whether one candidate ranks before another: by score, then the odd column, then the lower row. -/
def Ranked.before (a b : Ranked) : Bool :=
  decide (b.score < a.score) ||
    (a.score == b.score && (decide (b.col % 2 < a.col % 2) ||
      (a.col == b.col && decide (a.slot % 4 < b.slot % 4 ∨ (a.slot % 4 = b.slot % 4 ∧ a.slot < b.slot)))))

/-- Puts a candidate into its rank. -/
def insertRanked (a : Ranked) : List Ranked → List Ranked
  | [] => [a]
  | b :: rest => if a.before b then a :: b :: rest else b :: insertRanked a rest

/-- R312: the candidates of a pixel, ranked. -/
def State.rankedFor (s : State) (p x : Nat) (ms : List Sample) : List Ranked :=
  let c := s.pixelColumn p x
  let all := [c, c + 1].flatMap fun c => (List.range 8).map fun k => (c, k)
  let fired := all.filter fun k => ms.any fun m => decide (0 < m.drops k)
  fired.foldl (fun l k => insertRanked { col := k.1, slot := k.2, score := s.scoreOf ms k } l) []

/-- R314: the first row that none of some candidates of a column occupies; FFh where all four do. -/
def freeRow (cands : List Ranked) (col : Nat) : Nat :=
  ((List.range 4).find? fun r => !(cands.any fun k => k.col == col && k.slot % 4 == r)).getD 0xFF

/-- R314, R315: inspection arms a probe: its columns, the row each prefers and its lines. -/
def State.armProbe (s : State) (p x even_ odd_ : Nat) : State :=
  let c := s.pixelColumn p x
  let s := (s.setRegN o3404.PROBE_FIRST c).setRegN o3404.PROBE_LAST (c + 1)
  let s := (s.setRegN o3404.PROBE_EVEN_ROW even_).setRegN o3404.PROBE_ODD_ROW odd_
  let s := s.setRegN o3404.PROBE_LINES (s.regN o5201.NAME_PROBE_LINES)
  (s.withInspect fun q => { q with prober := some (p, x) }).supervisorCommit .firmware [(o3404.PROBE_ARM, 1)]

/-- Whether a probe may be asked for now (R224). -/
def State.probeIdle (s : State) : Bool := s.regN o3404.PROBE_STATE == 0 && s.inspect.prober.isNone

/-- R314: a naming probe: column a prefers row r, the other column the lowest row that none of its rivals occupies. -/
def State.nameProbe (s : State) (p : Nat) (k : Streak) (a r : Nat) (rivals : List Ranked) : State :=
  let c := s.pixelColumn p k.pixel
  let other := if a = c then c + 1 else c
  let row := freeRow rivals other
  let first := !([0, 1].any fun u => (s.inspecting u).streaks.any fun q => q.queued && decide (q.seq < k.seq))
  if s.probeIdle = true ∧ first = true then
    let s := s.putStreak p { k with probes := k.probes + 1, queued := false, asked := true }
    if a = c then s.armProbe p k.pixel r row else s.armProbe p k.pixel row r
  else s.putStreak p { k with queued := true }

/-- R313, R315: a nozzle is named. -/
def State.nameNozzle (s : State) (p : Nat) (k : Streak) (best : Ranked) (second : Int) (ms : List Sample) : State :=
  let frame := s.lastFrame p
  let n := s.nozzleAt best.col best.slot
  let f := s.fractionOf ms (best.col, best.slot)
  let score := best.score.toNat
  let s := s.putFinding p frame 3
    { column := best.col, die := n.die, row := n.row, dieCol := n.col, score := score, second := unsigned 16 second,
      fraction := f, profile := k.profile }
  let s := (s.incReg o5201.NAMED).raise 71 p 0 21
  let s := (s.releaseWindow k.tracked.window).putStreak p
    { k with settled := true, queued := false, tracked := { k.tracked with window := none, trace := [], samples := [] } }
  if s.regN o5201.OUT_FRACTION ≤ f then s.propose p frame n 3 score f
  else if s.regN o5201.PROBATION_FRACTION ≤ f then s.propose p frame n 2 score f else s

/-- R314: a streak is declared unnamed, with the two best candidates. -/
def State.declareUnnamed (s : State) (p : Nat) (k : Streak) (ranked : List Ranked) : State :=
  let f : Finding := { column := s.pixelColumn p k.pixel, profile := k.profile }
  let f := match ranked with
    | [] => f
    | a :: rest =>
      let n := s.nozzleAt a.col a.slot
      let f := { f with die := n.die, row := n.row, dieCol := n.col, score := unsigned 16 a.score }
      match rest with
      | [] => f
      | b :: _ =>
        { f with second := unsigned 16 b.score, rival := place (b.slot % 4) 13 12 + (if b.col ≠ a.col then 2 ^ 11 else 0) }
  let s := (s.putFinding p (s.lastFrame p) 4 f).incReg o5201.UNNAMED
  (s.releaseWindow k.tracked.window).putStreak p
    { k with settled := true, queued := false, tracked := { k.tracked with window := none, trace := [], samples := [] } }

/-- The samples that a streak is judged by now: the first `NAME_LINES` traced, or those of its probe once imaged; none
while there are not enough (R312, R314). -/
def State.namingSamples (s : State) (p : Nat) (k : Streak) : Option (List Sample) :=
  if k.asked then none
  else
    match k.probe with
    | some (a, b) => if b ≤ s.webLine (s.inspecting p).seenTo then some (s.samplesOf p k.tracked (some (a, b))) else none
    | none =>
      let ms := s.samplesOf p k.tracked none
      let n := s.regN o5201.NAME_LINES
      if n ≤ ms.length then some (ms.take n) else none

/-- R313, R314: what a ranking decides for a streak. -/
def State.judgeName (s : State) (p : Nat) (k : Streak) (ms : List Sample) : State :=
  match s.rankedFor p k.pixel ms with
  | [] => s.declareUnnamed p k []
  | best :: rest =>
    let margin : Int := s.reg o5201.NAME_MARGIN
    let other := rest.find? fun q => q.col != best.col
    let own := rest.find? fun q => q.col == best.col
    let leads (o : Option Ranked) : Bool := match o with
      | some q => decide (q.score + margin ≤ best.score)
      | none => true
    let second := match rest with
      | q :: _ => q.score
      | [] => 0
    let rivals := rest.filter fun q => q.col != best.col && decide (best.score < q.score + margin)
    let dies := s.regN o3000.DIES
    let overlap := (overlapOf dies best.col).isSome
    if s.reg o5201.NAME_SCORE ≤ best.score ∧ leads other = true ∧ leads own = true then
      s.nameNozzle p k best second ms
    else if overlap = true ∨ 2 ≤ k.probes ∨ (k.probes = 1 ∧ leads other = true ∧ leads own = true) then s.declareUnnamed p k (best :: rest)
    else if k.probes = 0 then
      match rivals with
      | _ :: _ => s.nameProbe p k best.col best.slot rivals
      | [] => s.declareUnnamed p k (best :: rest)
    else
      let near := (best :: rest).filter fun q => decide (best.score < q.score + margin)
      match rivals ++ rest with
      | r :: _ => s.nameProbe p k r.col (r.slot % 4) near
      | [] => s.declareUnnamed p k (best :: rest)

/-- NAME_EVAL (R312 to R314): a confirmed MISSING streak with enough traced lines imaged is judged. -/
def State.nameEval (p x : Nat) (s : State) : State :=
  if 2 ≤ p ∨ s.sys.inspection.state ≠ .running ∨ (s.inspecting p).blind ≠ 0 then s
  else
    match (s.inspecting p).streaks.find? fun k => k.pixel == x && !k.excess && k.confirmed && !k.settled with
    | none => s
    | some k =>
      if k.tracked.window.isNone then s
      else match s.namingSamples p k with
        | some ms => s.judgeName p k ms
        | none => s

/-! ### Rechecks -/

/-- The nozzle of a number of the health maps. -/
def namedOf (n : Nat) : Named := { die := n / 4096, col := n % 4096 / 4, row := n % 4 }

/-- The bar column of a nozzle. -/
def Named.column (n : Named) : Nat := 992 * n.die + n.col

/-- R315: a recheck is judged by its probe's lines. -/
def State.judgeRecheck (s : State) (r : Recheck) (a b : Int) : State :=
  let p := r.pipeline
  let n := namedOf r.nozzle
  let ms := s.samplesOf p r.tracked (some (a, b))
  let slot := if (overlapOf (s.regN o3000.DIES) n.column).isSome ∧ n.col < 32 then 4 + n.row else n.row
  let f := s.fractionOf ms (n.column, slot)
  let score := unsigned 16 (s.scoreOf ms (n.column, slot))
  let s := s.releaseWindow r.tracked.window
  let s := s.withInspect fun q =>
    { q with recheck := none, checked := (r.nozzle, s.now) :: q.checked.filter fun c => c.1 != r.nozzle }
  let frame := s.lastFrame p
  if f < s.regN o5201.PROBATION_FRACTION then s.propose p frame n 0 score f
  else if s.regN o5201.OUT_FRACTION ≤ f then s.propose p frame n 3 score f else s

/-- R315: a recheck starts: a window and a probe that prefers the nozzle's row in its column. -/
def State.startRecheck (s : State) (p n : Nat) : State :=
  let v := namedOf n
  let x := (v.column - s.regN (o5200.COLUMN_ORIGIN + p)) / 2
  match s.armWindow (s.pixelColumn p x) with
  | (none, _) => s
  | (some w, s) =>
    let t : Tracked := { pixel := x, window := some w, trace := [], samples := [] }
    let s := s.withInspect fun q => { q with recheck := some { pipeline := p, nozzle := n, tracked := t, probe := none } }
    if v.column % 2 = 0 then s.armProbe p x v.row 0xFF else s.armProbe p x 0xFF v.row

/-- Whether pipeline p sees a bar column. -/
def State.seesColumn (s : State) (p c : Nat) : Bool :=
  let o := s.regN (o5200.COLUMN_ORIGIN + p)
  decide (o ≤ c ∧ c < o + 2 * s.lineWidth p)

/-- PROBATION_RECHECK (R315): every `RECHECK_MIN` minutes for each PROBATION nozzle of cause inspection; while a recheck
runs, it is judged once its lines are imaged. -/
def State.recheckProbation (p n : Nat) (s : State) : State :=
  if 2 ≤ p ∨ s.sys.inspection.state ≠ .running ∨ (s.inspecting p).blind ≠ 0 then s
  else
    match s.inspect.recheck with
    | some r =>
      if r.pipeline ≠ p ∨ r.nozzle ≠ n then s
      else match r.probe with
        | some (a, b) => if b ≤ s.webLine (s.inspecting p).seenTo then s.judgeRecheck r a b else s
        | none => s
    | none =>
      let last := match s.inspect.checked.find? fun c => c.1 == n with
        | some c => c.2
        | none => s.sys.releasedAt
      if stateIn s.health.inForce n = 2 ∧ causeIn s.health.inForce n = 3 ∧ s.nozzleFitted n = true ∧
          s.seesColumn p (namedOf n).column = true ∧ s.probeIdle = true ∧
          last + s.regN o5201.RECHECK_MIN * 60000000000 ≤ s.now then s.startRecheck p n
      else s

end Sys2Proof.Machine
end

