-- ==== Sys2Proof/Machine/Power.lean ====
section
/-! DEFINITION. Machine/Power.lean: the commands of chapter 19: rails, sags, the hold-up save, the junction sensors and
calibration. Release of RESET_N and the restart after a sag stand in Machine/Startup.lean. -/
namespace Sys2Proof.Machine

/-- Table 19-1: the operating range of rails 1–11 in mV. -/
def railRange : List (Nat × Nat) :=
  [(700, 800), (810, 890), (810, 890), (1140, 1260), (1067, 1133), (1140, 1260), (1140, 1260), (1710, 1890),
   (1710, 1890), (3135, 3465), (3135, 3465)]

/-- R500: one rail's sample; SUPPLY_OUT_OF_RANGE is raised once for each excursion. -/
def State.sampleRail (rails : List Nat) (s : State) (i : Nat) : State :=
  let v := rails.getD i 0
  let range := railRange.getD i (0, 0)
  let out := decide (v < range.1 ∨ range.2 < v)
  let was := bit (s.regN o7C01.OUT_OF_RANGE) (i + 1)
  let s := (s.setRegN (o7C01.RAIL_MV + i) v).setRegBit o7C01.OUT_OF_RANGE (i + 1) out
  if out ∧ was = false then s.raise 11 (i + 1) 0 23 else s

/-- RAIL_SAMPLE (R500): rails 1–11 and the bus in mV. -/
def execRailSample (t : Nat) (rails : List Nat) (bus : Nat) (s : State) : Host.Outcome State Fault Refusal :=
  s.run t fun s => ((List.range 11).foldl (State.sampleRail rails) s).setRegN o7C01.VBUS_MV bus

/-- The temperatures of the valid calibration sets in 0.1 °C with their numbers, ascending (R515). -/
def State.validSets (s : State) : List (Nat × Int) :=
  ((List.range 5).filter fun n => s.flash.calSets.getD n false).map fun n => (n, [-400, 0, 400, 800, 1150].getD n 0)

/-- R515, Table 19-7: `INTERP` at temperature T: the lower set and the weight of the upper one in 1/256. -/
def State.interp (s : State) (temp : Int) : Nat :=
  let sets := s.validSets
  let below := (sets.filter fun x => decide (x.2 ≤ temp)).getLast?
  let above := sets.find? fun x => decide (temp < x.2)
  match below, above with
  | some (n, a), some (_, b) => n * 256 + (clamp 0 255 (divOpen 515 ((temp - a) * 256) (b - a).toNat)).toNat
  | some (n, _), none => n * 256
  | none, some (n, _) => n * 256
  | none, none => 0

/-- R516: a new correction generation at the present temperature. -/
def State.newGeneration (s : State) (temp : Int) : State :=
  let s := (s.incReg o7800.CAL_GENERATION).setRegN o7800.INTERP (s.interp temp)
  { s with power := { s.power with genTemp := some temp } }

/-- JUNCTION_READ (R500, R515, R516): the 8 sensors in 0.1 °C. -/
def execJunctionRead (t : Nat) (sensors : List Int) (s : State) : Host.Outcome State Fault Refusal :=
  s.run t fun s =>
    match sensors with
    | [] => s
    | x :: rest =>
      let hi := rest.foldl max x
      let temp := clamp (-400) 1150 (divOpen 5151 (sensors.foldl (· + ·) 0) sensors.length)
      let first := s.power.genTemp.isNone
      let s := (s.setReg o7C01.JUNCTION_MAX hi).setReg o7800.JUNCTION_MEAN temp
      let s := if first ∨ s.reg o7C01.JUNCTION_PEAK < hi then s.setReg o7C01.JUNCTION_PEAK hi else s
      let s := if 1150 < hi ∧ s.power.hot = false then
          ({ s with power := { s.power with hot := true } }).raise 12 0 0 23
        else if hi < 1100 then { s with power := { s.power with hot := false } } else s
      match s.power.genTemp with
      | none => { (s.setRegN o7800.INTERP (s.interp temp)) with power := { s.power with genTemp := some temp } }
      | some g => if 10 ≤ (temp - g).natAbs then s.newGeneration temp else s

/-- R502: whether a sag is detected: for 1 µs the bus is below `VBUS_THRESHOLD_MV` (source 0), or PFAIL_N is low (15). -/
def State.sags (s : State) (source mv ns : Nat) : Bool :=
  let sources := s.regN o7C00.SAG_SOURCES
  decide (1000 ≤ ns) &&
    if source = 0 then bit sources 0 && decide (mv < s.regN o7C00.VBUS_THRESHOLD_MV) else source == 15 && bit sources 1

/-- SUPPLY_SAG (R502): for `ns` the bus has been at most at `mv` (source 0), or PFAIL_N low (15). -/
def execSupplySag (t source mv ns : Nat) (s : State) : Host.Outcome State Fault Refusal :=
  s.run t fun s => if s.sags source mv ns then (s.raise 9 source 3 23).safeHold 6 0xFF else s

/-- The first erased slot takes the record (R507). -/
def writeSlot (r : SaveRecord) (ok : Bool) : List SaveSlot → List SaveSlot
  | [] => []
  | .erased :: rest => .holds r ok :: rest
  | x :: rest => x :: writeSlot r ok rest

/-- R506, R509: the save ends; the chip holds after a sag, or after a fault with the recovery loader. -/
def State.saveDone (crcOk : Bool) (s : State) : State :=
  if s.mode = 7 ∧ s.power.pending = true then
    let s := match s.power.saving with
      | some r =>
        { s.emit (.saved r.octets) with
          flash := { s.flash with slots := writeSlot r crcOk s.flash.slots, saves := r.count } }
      | none => s
    let held : Holding := if s.regN o2001.CAUSE = 6 then .afterSag else .afterFault
    { s with power := { s.power with saving := none, pending := false, holding := held } }
  else s

/-- The largest magnitude of a list, with its sign. -/
def worst (l : List Int) : Int := l.foldl (fun w d => if w.natAbs < d.natAbs then d else w) 0

/-- R518: a trim is put in place of an item's, or removed, and comes into force by R516; where there is none to remove,
nothing changes. -/
def State.setTrim (s : State) (item : Nat) (trim : Option (List Int)) : State :=
  if trim.isNone ∧ (s.flash.trims.any fun x => x.1 == item) = false then s else
  let rest := s.flash.trims.filter fun x => x.1 != item
  let f := { s.flash with trims := match trim with
    | some d => (item, d) :: rest
    | none => rest }
  let s := ({ s with flash := f }).setRegBit o7801.TRIMS item trim.isSome
  s.newGeneration (s.reg o7800.JUNCTION_MEAN)

/-- CAL_VERIFY_DONE (R518): Δ and σ of each correction in millionths of L. -/
def execCalVerifyDone (t : Nat) (deltas spreads : List Int) (s : State) : Host.Outcome State Fault Refusal :=
  s.runOn t fun s =>
    match s.power.verifyItem with
    | none => s
    | some item =>
      let s := { s with power := { s.power with verifyItem := none } }
      let w := worst deltas
      let s := s.setReg o7801.VERIFY_DEVIATION (divNear w 1000)
      let far := decide (1000000 < w.natAbs)
      let wide := spreads.any fun d => decide (250000 < d)
      let set := s.nearestSet
      if far || wide then
        let s := (s.setRegN o7801.VERIFY_STATE 3).setRegN o7801.VERIFY_QUALITY 0
        (s.setRegN o7801.VERIFY_REASON ((if far then 1 else 0) + if wide then 2 else 0)).raise 124 set 0 23 true
      else
        let q := 255 * (1000000 - w.natAbs) / 1000000
        let s := { s with flash := { s.flash with quality := s.flash.quality.set item q } }
        let s := (s.setRegN (o7800.ITEM_QUALITY + item) q).setTrim item (some deltas)
        let s := ((s.setRegN o7801.VERIFY_STATE 2).setRegN o7801.VERIFY_QUALITY q).setRegN o7801.VERIFY_REASON 0
        s.raise 124 set 0 23

end Sys2Proof.Machine
end

