-- ==== Sys2Proof/Machine/DramPorts.lean ====
section
/-! DEFINITION. Machine/DramPorts.lean: chapter 04, the ports of the DRAM controller: urgency, arbitration, order, refresh and row
disturbance. The data of an access moves with the command that makes it; what stands here is when the controller serves it, which
its status registers show (log entry 56). -/
namespace Sys2Proof.Machine

/-- Changes the DRAM controller's state. -/
def State.withDram (s : State) (f : Dram → Dram) : State := { s with dram := f s.dram }

/-- The number of a rank. -/
def dramRank (channel sub rank : Nat) : Nat := channel * 4 + sub * 2 + rank

/-- The subchannel of a request: its granule says which (R114). -/
def requestSub (r : DramRequest) : Nat := (granulePlace r.granule).1

/-- The rank of a request. -/
def requestRank (r : DramRequest) : Nat := dramRank r.channel (requestSub r) r.rank

/-- The bank of a request: its bank group and the bank there. -/
def requestBank (r : DramRequest) : Nat := requestRank r * 32 + (granulePlace r.granule).2 * 4 + r.bank

/-- The row of a request. -/
def requestRow (r : DramRequest) : Nat := requestBank r * 2 ^ 20 + r.row

/-- The value of a key in a list, or a default. -/
def heldFor {α : Type} (l : List (Nat × α)) (k : Nat) (d : α) : α :=
  match l.find? fun p => p.1 == k with
  | some p => p.2
  | none => d

/-- The list with the value of a key replaced. -/
def replaceKey {α : Type} (l : List (Nat × α)) (k : Nat) (v : α) : List (Nat × α) := (k, v) :: l.filter fun p => p.1 != k

/-! ### Arbitration -/

/-- R125: the urgency of an age against a latency target. -/
def ageUrgency (age latency : Nat) : Nat :=
  if latency ≤ age then 3 else if 3 * latency ≤ 4 * age then 2 else if latency ≤ 2 * age then 1 else 0

/-- R125: the urgency of port 0 by the level of the shortest lane FIFO. -/
def levelUrgency (level : Nat) : Nat := if level < 64 then 3 else if level < 128 then 2 else if level < 192 then 1 else 0

/-- R125: the urgency of a request at a time. -/
def State.urgency (s : State) (at_ : Nat) (r : DramRequest) : Nat :=
  let a := ageUrgency (at_ - r.came) (s.regN (o4402.LATENCY_NS + r.port))
  if r.port = 0 then max a (levelUrgency s.shortestFifo) else a

/-- R129: whether an earlier write to the same granule still waits before a request. -/
def behindWrite (before : List DramWait) (r : DramRequest) : Bool :=
  before.any fun w => w.request.write && w.served.isNone && w.request.channel == r.channel && w.request.granule == r.granule

/-- Whether a request hits the row open in its bank. -/
def State.rowHit (s : State) (r : DramRequest) : Bool := heldFor s.dram.openRows (requestBank r) (2 ^ 20) == r.row

/-- R132: whether activations to a bank are held until its refresh management. -/
def State.bankHeld (s : State) (bank : Nat) : Bool :=
  match s.dram.rfm with
  | some (_, most) => decide (most ≤ heldFor s.dram.raa bank 0)
  | none => false

/-- R133: whether a port has to wait before it activates a row again. -/
def State.throttled (s : State) (at_ : Nat) (r : DramRequest) : Bool :=
  s.dram.throttles.any fun x => x.1 == r.port && x.2.1 == requestRow r && decide (at_ < x.2.2 + s.regN o4400.THROTTLE_NS)

/-- Whether a waiting request may be served at a time, after the requests `before` it (R126, R129, R132, R133). -/
def State.ready (s : State) (at_ : Nat) (before : List DramWait) (r : DramRequest) : Bool :=
  let opens := !s.rowHit r
  let ordered := s.dram.inOrder.contains (r.port, requestRow r) &&
    before.any fun w => w.served.isNone && w.request.port == r.port && requestRow w.request == requestRow r
  let reserved := opens && decide (s.urgency at_ r < 3) &&
    s.dram.waiting.any fun w => w.served.isNone && requestBank w.request == requestBank r && s.urgency at_ w.request == 3
  !(behindWrite before r || ordered || reserved || (opens && (s.bankHeld (requestBank r) || s.throttled at_ r)))

/-- The requests of a subchannel that may be served at a time, with their places among those that wait. -/
def State.servable (s : State) (at_ channel sub : Nat) : List (Nat × DramRequest) :=
  (s.dram.waiting.zipIdx).filterMap fun w =>
    let r := w.1.request
    if w.1.served.isNone ∧ r.channel = channel ∧ requestSub r = sub ∧ s.ready at_ (s.dram.waiting.take w.2) r = true then some (w.2, r)
    else none

/-- The first of a list with the largest value of a key. -/
def bestBy {α : Type} (key : α → Int) : List α → Option α
  | [] => none
  | x :: rest => match bestBy key rest with
    | some y => if key x < key y then some y else some x
    | none => some x

/-- R126: the request served next: the highest urgency, then row hits, then the port whose turn the weighted round robin finds; of one
port the oldest. The round robin after it (log entry 57). -/
def State.choose (s : State) (at_ : Nat) (l : List (Nat × DramRequest)) : Option ((Nat × DramRequest) × List Int) :=
  let grade (x : Nat × DramRequest) : Int := 2 * (s.urgency at_ x.2 : Int) + if s.rowHit x.2 then 1 else 0
  match bestBy grade l with
  | none => none
  | some top =>
    let l := l.filter fun x => grade x == grade top
    let ports := (l.map fun x => x.2.port).eraseDups
    let weight (p : Nat) : Int := s.reg (o4402.WEIGHT + p)
    let credit := (s.dram.robin.zipIdx).map fun x => if ports.contains x.2 then x.1 + weight x.2 else x.1
    match bestBy (fun x : Nat × DramRequest => credit.getD x.2.port 0) l with
    | none => none
    | some x => some (x, credit.set x.2.port (credit.getD x.2.port 0 - (ports.map weight).foldl (· + ·) 0))

/-! ### Row disturbance -/

/-- R133: the trackers after one activation of a row by a port; a bank has 32 entries. -/
def countRow (l : List RowCount) (bank row port : Nat) : List RowCount :=
  let one (ports : List Nat) : List Nat := ports.modify port (· + 1)
  let ofBank := l.filter fun x => x.bank == bank
  let fresh (n : Nat) : RowCount := { bank := bank, row := row, count := n + 1, ports := one (List.replicate 10 0), handled := false }
  if ofBank.any fun x => x.row == row then
    l.map fun x => if x.bank = bank ∧ x.row = row then { x with count := x.count + 1, ports := one x.ports } else x
  else if ofBank.length < 32 then fresh 0 :: l
  else match bestBy (fun x : RowCount => -(x.count : Int)) ofBank with
    | some least => fresh least.count :: l.erase least
    | none => l

/-- A bank activates the row of a request (R132, R133). -/
def State.activate (s : State) (at_ : Nat) (r : DramRequest) : State :=
  let bank := requestBank r
  s.withDram fun d =>
    { d with openRows := replaceKey d.openRows bank r.row,
             raa := if d.rfm.isSome then replaceKey d.raa bank (heldFor d.raa bank 0 + 1) else d.raa,
             rows := countRow d.rows bank r.row r.port,
             throttles := d.throttles.map fun x => if x.1 = r.port ∧ x.2.1 = requestRow r then (x.1, x.2.1, at_) else x }

/-- A refresh-management command of a bank (R132): its count falls by the initial threshold (log entry 58). -/
def State.refreshManage (s : State) (bank : Nat) : State :=
  (s.withDram fun d => { d with raa := match d.rfm with
    | some (first, _) => replaceKey d.raa bank (heldFor d.raa bank 0 - first)
    | none => d.raa }).incReg o4403.RFM_ISSUED

/-- R133: a row's count has reached `ROW_ACT_LIMIT`: refresh management, and the port with the most activations of the row, the
lowest of several, is throttled until the window ends, unless it is port 0. -/
def State.rowThrottle (channel sub rank bank row : Nat) (s : State) : State :=
  let key := dramRank channel sub rank * 32 + bank
  match s.dram.rows.find? fun x => x.bank == key && x.row == row with
  | none => s
  | some x =>
    if x.count < s.regN o4400.ROW_ACT_LIMIT ∨ x.handled then s
    else
      let s := (s.withDram fun d =>
        { d with rows := d.rows.map fun y => if y = x then { x with handled := true } else y }).refreshManage key
      let port := (bestBy (fun p : Nat => (x.ports.getD p 0 : Int)) (List.range 10)).getD 0
      if port = 0 then s
      else
        ((s.withDram fun d => { d with throttles := (port, key * 2 ^ 20 + row, s.now) :: d.throttles }).incReg
          o4403.THROTTLES).raise 26 port 0 18

/-- DRAM_ROW_THROTTLE (R133). -/
def execDramRowThrottle (t channel sub rank bank row : Nat) (s : State) : Host.Outcome State Fault Refusal :=
  s.runOn t (State.rowThrottle channel sub rank bank row)

/-- DRAM_ROW_WINDOW_END (R133): the window of 32 ms ends. -/
def execDramRowWindowEnd (t : Nat) (s : State) : Host.Outcome State Fault Refusal :=
  s.runOn t fun s => s.withDram fun d => { d with throttles := [], rows := [] }

/-- R132: a bank's count has reached the initial threshold. -/
def State.rfmThreshold (channel sub rank bank : Nat) (s : State) : State :=
  let key := dramRank channel sub rank * 32 + bank
  match s.dram.rfm with
  | some (first, _) => if first ≤ heldFor s.dram.raa key 0 then s.refreshManage key else s
  | none => s

/-- DRAM_RFM_THRESHOLD (R132). -/
def execDramRfmThreshold (t channel sub rank bank : Nat) (s : State) : Host.Outcome State Fault Refusal :=
  s.runOn t (State.rfmThreshold channel sub rank bank)

/-! ### Requests -/

/-- R129: a request comes to a subchannel; a read that matches a write which waits puts its port in in-order mode for the row. -/
def State.requestComes (s : State) (r : DramRequest) : State :=
  let matches_ := !r.write && behindWrite s.dram.waiting r && !s.dram.inOrder.contains (r.port, requestRow r)
  let s := s.withDram fun d =>
    { d with waiting := d.waiting ++ [{ request := r, served := none }],
             inOrder := if matches_ then (r.port, requestRow r) :: d.inOrder else d.inOrder }
  if matches_ then s.incReg o4403.INORDER_ENTRIES else s

/-- R129: whether a port still has a read of a row behind a write to its granule. -/
def stillMatches (l : List DramWait) (port row : Nat) : Bool :=
  (l.zipIdx).any fun w => w.1.served.isNone && !w.1.request.write && w.1.request.port == port && requestRow w.1.request == row &&
    behindWrite (l.take w.2) w.1.request

/-- R128: the requests of which a port has its completion: a write when it has retired, a read when its data and those of all older
reads of its port have come. -/
def completedOf (l : List DramWait) : List DramWait :=
  ((l.zipIdx).filter fun w => w.1.served.isSome && (w.1.request.write ||
    (l.take w.2).all fun v => v.request.write || v.request.port != w.1.request.port || v.served.isSome)).map fun w => w.1

/-- One data burst of a subchannel ends: the request chosen has been served, rows have been opened for it, and completions go out in
their order, each with its latency (R126, R128, R129). -/
def State.burst (channel sub : Nat) (s : State) (at_ : Nat) : State :=
  match s.choose at_ (s.servable at_ channel sub) with
  | none => s
  | some (x, robin) =>
    let s := if s.rowHit x.2 then s else s.activate at_ x.2
    let l := s.dram.waiting.modify x.1 fun w => { w with served := some at_ }
    let done := completedOf l
    let s := s.withDram fun d =>
      { d with waiting := l.filter (fun w => !done.contains w), robin := robin, lastBurst := some (x.2.port, requestRank x.2),
               inOrder := d.inOrder.filter fun p => stillMatches l p.1 p.2 }
    done.foldl (fun s w =>
      let k := o4403.WORST_LATENCY_NS + w.request.port
      if w.request.write then s else s.setRegN k (max (s.regN k) (min (at_ - w.request.came) (2 ^ 32 - 1)))) s

/-- What has passed at a subchannel since its last refresh: requests, and the ends of data bursts. -/
def State.serveTraffic (channel sub : Nat) (x : DramTraffic) (s : State) : State :=
  let mine := x.requests.filter fun r => r.channel == channel && requestSub r == sub
  let s := mine.foldl State.requestComes s
  x.bursts.foldl (State.burst channel sub) s

/-! ### Refresh -/

/-- R130: tREFI in ns. -/
def State.refreshInterval (s : State) : Nat := if s.flag o4403.REFRESH_DOUBLED then 1950 else 3900

/-- The refreshes of a rank are issued: its rows are closed, the counts of its banks fall (R132, log entry 58), and a drift waiting
for a gap is taken up (R145). -/
def State.issueRefresh (channel sub rank : Nat) (s : State) : State :=
  let key := dramRank channel sub rank
  s.withDram fun d =>
    { d with owed := d.owed.filter (fun p => p.1 != key),
             openRows := d.openRows.filter (fun p => p.1 / 32 != key),
             refreshed := (channel * 2 + sub, rank, s.now) :: d.refreshed.filter (fun p => p.1 != channel * 2 + sub),
             raa := match d.rfm with
               | some (first, _) => d.raa.map fun p => if p.1 / 32 = key then (p.1, p.2 - first) else p
               | none => d.raa,
             timing := d.timing.modify channel fun x => x + heldFor d.drift channel 0,
             drift := d.drift.filter fun p => p.1 != channel }

/-- R131: whether a refresh of a rank has to wait: port 0 has a burst in progress on it, or a request of urgency 3 waits for it. -/
def State.refreshWaits (s : State) (key : Nat) : Bool :=
  let waits := s.dram.waiting.filter fun w => w.served.isNone && requestRank w.request == key
  (s.dram.lastBurst == some (0, key) && waits.any fun w => w.request.port == 0) ||
    waits.any fun w => s.urgency s.now w.request == 3

/-- R130: whether the other rank of the subchannel is refreshed at this instant. -/
def State.otherRankRefreshed (s : State) (channel sub rank : Nat) : Bool :=
  s.dram.refreshed.any fun p => p.1 == channel * 2 + sub && p.2.1 != rank && p.2.2 == s.now

/-- R130, R131: a refresh of one rank falls due: it is issued, postponed or forced; one that would fall on the instant of the other
rank's is owed. -/
def State.refreshDue (channel sub rank : Nat) (s : State) : State :=
  let key := dramRank channel sub rank
  let due := heldFor s.dram.dueAt key s.now
  if s.channelUp channel = false ∨ s.regN o4400.RANKS ≤ rank ∨ s.now < due then s
  else
    let s := s.withDram fun d => { d with dueAt := replaceKey d.dueAt key (due + s.refreshInterval) }
    let n := heldFor s.dram.owed key 0
    let owe (s : State) : State := s.withDram fun d => { d with owed := replaceKey d.owed key (n + 1) }
    if s.otherRankRefreshed channel sub rank then owe s
    else if s.refreshWaits key = false then s.issueRefresh channel sub rank
    else if n < 4 then (owe s).incReg o4403.REFRESH_POSTPONED
    else (s.issueRefresh channel sub rank).incReg o4403.REFRESH_FORCED

/-- DRAM_REFRESH (R130, R131), with the traffic since the last one. -/
def execDramRefresh (t channel sub rank : Nat) (traffic : DramTraffic) (s : State) : Host.Outcome State Fault Refusal :=
  s.runOn t fun s => (s.serveTraffic channel sub traffic).refreshDue channel sub rank

/-- DRAM_TEMP_POLL (R130): tREFI is halved while a device reports above 85 °C. -/
def execDramTempPoll (t : Nat) (hot : Bool) (s : State) : Host.Outcome State Fault Refusal :=
  s.runOn t fun s => s.setFlag o4403.REFRESH_DOUBLED hot

end Sys2Proof.Machine
end

