-- ==== Sys2Proof/Machine/Dram.lean ====
section
/-! DEFINITION. Machine/Dram.lean: chapter 04, the commands of the page store and the DRAM controller that no packet
carries. Their writes stand in Machine/RegisterWrites.lean. -/
namespace Sys2Proof.Machine

/-- PAGE_RELEASE (R118). -/
def execPageRelease (t stream tag : Nat) (s : State) : Host.Outcome State Fault Refusal :=
  s.runOn t fun s =>
    match s.pageOf stream tag with
    | some p => if s.printing ∧ p.held = false ∧ (p.endLine : Int) + s.largestDelay < s.firingLine then s.releasePage p else s
    | none => s

/-- BAND_FREE (R118): the next band of a page whose last line plus D the firing line has passed. -/
def State.freeBand (stream tag : Nat) (s : State) : State :=
  match s.pageOf stream tag with
  | none => s
  | some p =>
    let b := p.freed
    let last := min (p.start + 64 * b + 63) (p.endLine - 1)
    if s.printing = false ∨ p.held = true ∨ p.bands ≤ b ∨ s.firingLine ≤ (last : Int) + s.largestDelay then s
    else
      let inBand (x : Block) : Bool := x.index / p.columns == b
      let held := heldGranules (p.blocks.filter inBand)
      let s := s.sourceGone p b b
      let whole := decide (p.columns ≤ (p.blocks.filter inBand).length)
      let s := s.mapPage stream tag fun p =>
        { p with freed := b + 1, lacking := p.lacking || !whole, blocks := p.blocks.filter (fun x => !inBand x),
                 resend := p.resend.filter (fun i => i / p.columns != b),
                 reserved := if p.committed then p.reserved - held else p.reserved }
      s.withDram fun d => { d with fullAt := none }

/-- BAND_FREE (R118). -/
def execBandFree (t stream tag : Nat) (s : State) : Host.Outcome State Fault Refusal :=
  s.runOn t (State.freeBand stream tag)

/-- FREEBOARD_UPDATE (R122). -/
def execFreeboardUpdate (t : Nat) (s : State) : Host.Outcome State Fault Refusal := s.runOn t State.refreshFreeboard

/-! ### Loss of a channel -/

/-- R140: pages are evicted, last `START_LINE` first, until the reservations of open and queued pages fit; the host may open them
again. -/
def State.evict (horizon : Nat) : Nat → State → State
  | 0, s => s
  | fuel + 1, s =>
    let waiting := s.pageStore.pages.filter fun p => !s.isFiring p
    if waiting.foldl (fun n p => n + p.reserved) 0 ≤ s.storeGranules then s
    else
      let f := s.firingLine
      match (waiting.filter fun p => p.committed && decide (f + horizon < p.start)).getLast? with
      | none => s
      | some p =>
        let s := (s.dropPage p).withPages fun q => { q with evicted := (p.stream, p.tag, p.start, p.lines) :: q.evicted }
        State.evict horizon fuel ((s.incReg o4404.PAGES_EVICTED).pageEvent p.tag 6 p.stream 0 p.start 0 0 0).settleEnd

/-- R139: the blocks of one page whose only copy was in channel c are missing; the others stand in the other channel. -/
def State.pageLosesChannel (c : Nat) (s : State) (p : Page) : State :=
  let gone := (p.blocks.filter fun b => b.channel == c && !b.mirrored).map fun b => b.index
  let s := s.mapPage p.stream p.tag fun p =>
    { p with blocks := p.blocks.map fun (b : Block) =>
        if b.channel = c then { b with channel := 1 - c, at_ := b.mirrorAt, mirrored := false } else { b with mirrored := false } }
  let waits (a : Arrival) : Option Nat := match a with
    | .block o ch _ g => if ch = c ∧ g = false ∧ blockTag o = p.tag then some (blockIndex o) else none
    | .commit _ _ => none
  let queued := ((s.queueOf p.stream).filterMap waits).filter fun i => decide (i < p.total)
  s.loseBlocks p ((gone ++ queued).mergeSort (fun a b => decide (a ≤ b))) c

/-- Blocks under verification whose only copy was in channel c are discarded. -/
def dropWaiting (c : Nat) (l : List Arrival) : List Arrival :=
  l.map fun a => match a with
    | .block o ch at_ g => .block o ch at_ (g || ch == c)
    | a => a

/-- R138, R139: a channel is lost. With both lost the fault is at breach level 3 (R142). -/
def State.channelLost (s : State) (c : Nat) : State :=
  if 2 ≤ c ∨ s.channelUp c = false then s
  else
    let horizon := s.horizon
    let s := ((s.setRegBit o4403.CHANNELS c false).incReg o4406.CHANNEL_LOSSES).setRegN o4406.LOST_CHANNEL (c + 1)
    if s.channelUp (1 - c) = false then s.fatal 28 c 18 1
    else
      let s := (s.raise 28 c 1 18).withDram fun d => { d with fullAt := none }
      let s := s.pageStore.pages.foldl (State.pageLosesChannel c) s
      let s := s.withPages fun q => { q with queue0 := dropWaiting c q.queue0, queue1 := dropWaiting c q.queue1 }
      (s.evict horizon s.pageStore.pages.length).judgeBoth

/-- DRAM_CHANNEL_LOST (R138, R139). -/
def execDramChannelLost (t channel : Nat) (s : State) : Host.Outcome State Fault Refusal :=
  s.runOn t fun s => s.channelLost channel

/-- The eyes of ten byte lanes from number n on (Table 04-17). -/
def State.showEyes (s : State) (first : Nat) (eyes : List Nat) : State :=
  (eyes.zipIdx).foldl (fun s e => s.setRegN (o4405.EYE + first + e.2) (e.1 % 2 ^ 32)) s

/-- DRAM_CHANNEL_RESTORED (R142, R144): the channel has been trained and the mirrored regions copied into it. -/
def execDramChannelRestored (t channel : Nat) (eyes : List Nat) (s : State) : Host.Outcome State Fault Refusal :=
  s.runOn t fun s =>
    if s.dram.restoring = some channel then
      let s := (s.setRegBit o4403.CHANNELS channel true).setRegN o4406.LOST_CHANNEL 0
      let s := (s.withDram fun d => { d with restoring := none }).showEyes (10 * channel) (eyes.take 10)
      (s.raise 28 channel 0 18 true).judgeBoth
    else s

/-- R145, R138: an eye narrower than 1/16 UI loses the channel; a drift beyond 1/32 UI, both in 1/1024 UI, waits for the next
refresh gap. -/
def State.driftCheck (channel : Nat) (drift : Int) (eye : Nat) (s : State) : State :=
  if eye < 64 then s.channelLost channel
  else if 32 < drift.natAbs then
    s.withDram fun d => { d with drift := (channel, drift) :: d.drift.filter fun x => x.1 != channel }
  else s

/-- DQS_DRIFT_CHECK (R145). -/
def execDqsDriftCheck (t channel : Nat) (drift : Int) (eye : Nat) (s : State) : Host.Outcome State Fault Refusal :=
  s.runOn t (State.driftCheck channel drift eye)

/-- R143: the steps of a channel's training run in their order, each only when those before it have succeeded; whether all seven
do. -/
def stepsOk (l : List Bool) : Bool := (l.takeWhile id).length == 7

/-- R143, R145: a training of both channels ends: the eyes, the result, what the devices ask for (R132), and a failed channel is
lost. -/
def State.trained (s : State) (x : Training) : State :=
  let failed (c : Nat) : Bool := !stepsOk (x.steps.getD c [])
  let s := (s.showEyes 0 (x.eyes.take 20)).withDram fun d => { d with rfm := x.rfm }
  let s := s.setRegN o4405.TRAIN_RESULT ((if failed 0 then 1 else 0) + if failed 1 then 2 else 0)
  let s := if failed 0 then s.channelLost 0 else s
  if failed 1 then s.channelLost 1 else s

/-! ### Errors -/

/-- R109: whether the code corrects the erroneous bits of a burst, each a beat and a bit of 40: with x4 devices every error that
stays within one device; with the others at most one bit of a beat. -/
def State.corrects (s : State) (flips : List (Nat × Nat)) : Bool :=
  if s.regN o4400.DEVICE_WIDTH = 4 then flips.all fun f => flips.all fun g => f.2 / 4 == g.2 / 4
  else flips.all fun f => flips.all fun g => f.1 != g.1 || f.2 == g.2

/-- The device of a bit of the 40 of a subchannel (Table 04-1). -/
def State.deviceOf (s : State) (bit_ : Nat) : Nat := bit_ / s.regN o4400.DEVICE_WIDTH

/-- R134: a correctable error; the device counts as one of its subchannel's. -/
def State.correctable (channel address : Nat) (flips : List (Nat × Nat)) (s : State) : State :=
  if flips.isEmpty ∨ s.corrects flips = false then s
  else
    let device := 10 * (granulePlace (address / 64)).1 + s.deviceOf (flips.headD (0, 0)).2
    let s := (s.incReg o4403.CE_COUNT).setRegN o4403.LAST_ERROR_ADDRESS (place channel 56 56 + place address 55 0)
    let s := s.raiseLimited 24 0 channel 0 18 1000000000
    let key := channel * 4096 + device
    let recent := s.dram.corrected.filter fun p => decide (s.now < p.2 + 3600000000000)
    let n := (recent.filter fun p => p.1 == key).length + 1
    let s := s.withDram fun d => { d with corrected := (key, s.now) :: recent }
    if n = 17 ∧ s.regN o4400.DEVICE_WIDTH = 4 then s.raise 27 (256 * channel + device) 0 18 else s

/-- DRAM_CE (R134). -/
def execDramCe (t channel address : Nat) (flips : List (Nat × Nat)) (s : State) : Host.Outcome State Fault Refusal :=
  s.runOn t (State.correctable channel address flips)

/-- Table 04-9, port 2 and scrub: a block (stream, tag, index) without a mirror copy is missing; while it waits for the verifier
it is discarded there. -/
def State.missBlock (s : State) (stream tag index : Nat) : State :=
  match s.pageOf stream tag with
  | none => s
  | some p =>
    let channel := match p.resident index with
      | some b => b.channel
      | none => s.homeOf p.columns index
    let drop (l : List Arrival) : List Arrival := l.map fun a => match a with
      | .block o c at_ g => .block o c at_ (g || (blockTag o == tag && blockIndex o == index))
      | a => a
    (s.setQueue stream (drop (s.queueOf stream))).loseBlocks p [index] channel

/-- Table 04-9: whether a block (stream, tag, index) has a mirror copy. -/
def State.hasMirror (s : State) (r : Nat × Nat × Nat) : Bool :=
  match s.pageOf r.1 r.2.1 with
  | some p =>
    match p.resident r.2.2 with
    | some b => b.mirrored
    | none => false
  | none => false

/-- R135, Table 04-9, R138: an uncorrectable error at a byte of a channel, found by a port. `mirrorOk` tells whether the other copy
can be read. -/
def State.uncorrectable (channel port address : Nat) (flips : List (Nat × Nat)) (mirrorOk : Bool) (s : State) : State :=
  if s.corrects flips then s
  else
    let s := (s.incReg o4403.UE_COUNT).setRegN o4403.LAST_ERROR_ADDRESS (place channel 56 56 + place address 55 0)
    let block := s.blockAt channel address
    let good := match block with
      | some r => s.hasMirror r && mirrorOk
      | none => false
    let s := s.raise 25 (256 * channel + port) (if port = 0 ∧ good = false then 1 else 0) 18
    let s := match port, block with
      | 0, some r =>
        if good then s.incReg o4403.UE_FROM_MIRROR
        else s.mapPage r.1 r.2.1 fun p =>
          { p with blocks := p.blocks.map fun (b : Block) => if b.index = r.2.2 then { b with lost := true } else b }
      | 2, some r => if s.hasMirror r then s else s.missBlock r.1 r.2.1 r.2.2
      | 9, some r => if s.hasMirror r then s else s.missBlock r.1 r.2.1 r.2.2
      | 4, _ => s.frameDiscard channel address
      | 5, _ => s.frameDiscard channel address
      | 6, _ => s.frameDiscard channel address
      | _, _ =>
        if mirroredRegion address ∧ s.channelUp (1 - channel) ∧ (port = 7 ∨ port = 8) then s.incReg o4403.UE_FROM_MIRROR else s
    let recent := (channel, s.now) :: s.dram.ueTimes.filter fun p => decide (s.now < p.2 + 1000000)
    let s := s.withDram fun d => { d with ueTimes := recent }
    if 8 < (recent.filter fun p => p.1 == channel).length then s.channelLost channel else s

/-- DRAM_UE (R135). -/
def execDramUe (t channel port address : Nat) (flips : List (Nat × Nat)) (mirrorOk : Bool) (s : State) :
    Host.Outcome State Fault Refusal :=
  s.runOn t (State.uncorrectable channel port address flips mirrorOk)

/-- R110, R138: a write that fails its CRC `retries` times; the fourth exhausts its retries. -/
def State.writeCrc (channel retries : Nat) (s : State) : State :=
  if s.flag o4400.WRITE_CRC = false then s
  else
    let s := s.addReg o4403.WRITE_CRC_RETRIES (min retries 3)
    if retries ≤ 3 then s
    else
      let recent := (channel, s.now) :: s.dram.crcTimes.filter fun p => decide (s.now < p.2 + 1000000)
      let s := s.withDram fun d => { d with crcTimes := recent }
      if 4 < (recent.filter fun p => p.1 == channel).length then s.channelLost channel else s

/-- DRAM_WRITE_CRC_ERROR (R110). -/
def execDramWriteCrcError (t channel retries : Nat) (s : State) : Host.Outcome State Fault Refusal :=
  s.runOn t (State.writeCrc channel retries)

/-- R136: `SCRUB_HOURS` after the pass began, every granule of every rank has been read and checked, and the next pass begins;
what a check finds comes as DRAM_CE or DRAM_UE of port 9. -/
def State.scrubPass (s : State) : State :=
  let due := s.dram.scrubFrom + s.regN o4400.SCRUB_HOURS * 3600000000000
  if s.now < due then s else (s.withDram fun d => { d with scrubFrom := due }).incReg o4403.SCRUB_PASSES

/-- SCRUB_PASS (R136). -/
def execScrubPass (t : Nat) (s : State) : Host.Outcome State Fault Refusal := s.runOn t State.scrubPass

/-- R137: a band comes within the horizon, and its blocks are copied while the mirror areas hold them. -/
def State.mirrorBand (stream tag band : Nat) (s : State) : State :=
  match s.pageOf stream tag with
  | none => s
  | some p =>
    let first := p.start + 64 * band
    if s.regN o4403.CHANNELS % 4 ≠ 3 ∨ p.bands ≤ band ∨ s.firingLine + s.regN o4400.MIRROR_LINES < first then s
    else
      let due (b : Block) : Bool := b.index / p.columns == band && !b.mirrored
      let fits := (List.range 2).all fun c =>
        let used := s.pageStore.pages.foldl
          (fun n p => n + heldGranules (p.blocks.filter fun b => b.mirrored && b.channel == c)) 0
        decide (used + heldGranules (p.blocks.filter fun b => due b && b.channel == c) ≤ s.regN o4400.MIRROR_MIB * 16384)
      if fits then
        (p.blocks.filter due).foldl (fun s b =>
          let at_ := s.allocate (1 - b.channel) mirrorBase b.data
          s.mapPage stream tag fun p =>
            { p with blocks := p.blocks.map fun (x : Block) =>
                if x.index = b.index then { x with mirrored := true, mirrorAt := at_ } else x }) s
      else
        let at_ : Int := match s.dram.fullAt with
          | some l => min l first
          | none => first
        s.withDram fun d => { d with fullAt := some at_ }

/-- MIRROR_BAND (R137). -/
def execMirrorBand (t stream tag band : Nat) (s : State) : Host.Outcome State Fault Refusal :=
  s.runOn t (State.mirrorBand stream tag band)

end Sys2Proof.Machine
end

