-- ==== Sys2Proof/Machine/System.lean ====
section
/-! DEFINITION. Machine/System.lean: chapter 01 and the swap of chapter 17: firmware pairs, island clocks, crossings,
pace meters, heartbeats and escalations. -/
namespace Sys2Proof.Machine

/-- The region of a firmware pair (Table 01-10). -/
def regionOf : PairId → Nat
  | .supervisor => 23
  | .inspection => 21
  | .motion => 20

/-- R467: the chip swaps back to the old image; the new one is marked failed. -/
def State.swapBack (s : State) : State :=
  let new := 1 - s.modes.swapFrom
  let f := { s.flash with fallbacks := (s.flash.fallbacks + 1) % 2 ^ 32,
                          images := s.flash.images.set new ((s.flash.images.getD new (0, 0)).1, 4) }
  let s := (({ s with flash := f }).setRegN (o7E00.IMAGE_STATE + new) 4).setRegN o7E00.FALLBACKS f.fallbacks
  let s := { s with modes := { s.modes with swapPairs := [.motion, .inspection, .supervisor], swapBack := true } }
  ((s.setRegN o7E02.SWAP_STATE 1).raise 114 new 1 23).swapKick

/-- R467: the way back ends; `SWAP_STATE` reads 4. -/
def State.swapEnd (s : State) : State :=
  { (s.setRegN o7E02.SWAP_STATE 4) with modes := { s.modes with swapPairs := [], swapBack := false } }

/-- R466: a live swap to the other image begins. -/
def State.swapStart (s : State) : State :=
  let m := { s.modes with swapFrom := s.regN o7E00.RUNNING, swapPairs := [.motion, .inspection, .supervisor],
                          swapBack := false }
  (({ s with modes := m }).setRegN o7E02.SWAP_STATE 1).swapKick

/-- R467: the new image is confirmed. -/
def State.swapConfirm (s : State) : State :=
  let n := s.regN o7E00.RUNNING
  let s := (({ s with flash := { s.flash with preferred := n } }).setRegN o7E00.PREFERRED n).setRegN o7E02.SWAP_STATE 3
  (s.incReg o7E02.SWAPS).raise 116 n 0 23

/-- Whether a swap has a pair on the new image that is not confirmed yet (R467). -/
def State.swapOpen (s : State) (p : PairId) : Bool :=
  s.regN o7E02.SWAP_STATE == 2 ||
    (s.regN o7E02.SWAP_STATE == 1 && !s.modes.swapBack && !s.modes.swapPairs.contains p)

/-- R36, R38: a pair's processors disagree. -/
def State.pairMismatch (s : State) (p : PairId) : State :=
  let x := s.pair p
  if x.state = .held then s
  else
    let times := (s.now :: x.times).filter fun u => decide (s.now - u < 60000000000)
    let s := (s.setPair p { x with times := times }).raise 112 (identityOf p) 1 (regionOf p)
    let s := if s.swapOpen p then s.swapBack else s
    if 3 ≤ times.length then
      let s := s.setPair p { s.pair p with state := .held }
      match p with
      | .supervisor => s.fatal 113 3 23 1
      | .inspection => (s.raise 113 4 1 21).judgeBoth
      | .motion => (s.raise 113 5 1 20).axesMotionHeld
    else if (s.pair p).state = .restarting ∧ x.state = .running then s
    else s.restartPair p

/-- R36, R485, R466: a pair's restart has ended; it runs, and its doorbells are raised again. -/
def State.pairRestarted (s : State) (p : PairId) : State :=
  if (s.pair p).state ≠ .restarting then s
  else
    let s := (s.setPair p { s.pair p with state := .running }).ringAgain (identityOf p)
    match s.modes.swapPairs with
    | q :: rest =>
      if q = p ∧ s.regN o7E02.SWAP_STATE = 1 then
        let s := { s with modes := { s.modes with swapPairs := rest } }
        let n := if s.modes.swapBack then s.modes.swapFrom else 1 - s.modes.swapFrom
        let s := if p = .supervisor then s.setRegN o7E00.RUNNING n else s
        s.swapKick
      else s
    | [] => s

/-- FW_PAIR_MISMATCH (R36). -/
def execFwPairMismatch (t : Nat) (pair : PairId) (s : State) : Host.Outcome State Fault Refusal :=
  s.runOn t fun s => s.pairMismatch pair

/-- R396, R401: TSCLK is lost, and PPS_OUT stays low. -/
def State.timeInvalid (s : State) : State :=
  if s.regN o7000.STATE = 5 then s
  else
    let s := match s.time.ppsUntil with
      | some u => if s.now < u then { s with time := { s.time with ppsUntil := none } }.emit (.pps 0) else s
      | none => s
    (s.setRegN o7000.STATE 5).raise 103 0 1 22

/-- Marks an island as stopped. -/
def State.stopIsland (s : State) (n : Nat) : State :=
  if s.islandLost n then s else { s with sys := { s.sys with islandsLost := n :: s.sys.islandsLost } }

/-- Table 01-8 and R28: the block behind an island fails, because its clock is lost or its crossing stalls; `src` is the
event. -/
def State.islandFails (s : State) (src n : Nat) : State :=
  match n with
  | 1 => (s.raise src 1 1 18).channelLost 0
  | 2 => (s.raise src 2 1 18).channelLost 1
  | 3 => (s.raise src 3 1 17).failLanes 0x0F
  | 4 => (s.raise src 4 1 17).failLanes 0xF0
  | 5 => s.fatal src 5 19 1
  | 6 => s.fatal src 6 19 1
  | 7 => (s.raise src 7 1 21).cameraPortLost 0
  | 8 => (s.raise src 8 1 21).cameraPortLost 1
  | 9 => ((s.raise src 9 1 22).setPort 1 false).setPort 2 false |>.timeAlone
  | 10 => (s.raise src 10 1 22).timeInvalid
  | 11 => s.fatal src 11 20 1
  | _ => s.raise src n 1 23

/-- CROSSING_STALL (R28): the crossing's block is the one behind its island (log entry 15). -/
def execCrossingStall (t island : Nat) (s : State) : Host.Outcome State Fault Refusal :=
  s.runOn t fun s => (if island = 9 then s.stopIsland 9 else s).islandFails 3 island

/-- R30: the islands that FCLK feeds stop, each is reported with the region that it clocks, and the chip enters SAFE-HOLD;
in SAFE-HOLD only islands 6 and 11 still run (R504). -/
def State.fclkLost (s : State) : State :=
  let s := [1, 2, 5, 6, 9, 11].foldl State.stopIsland s
  if s.mode = 7 then (s.raise 4 6 3 19).raise 4 11 3 20
  else
    let s := State.escalateTo 3 1 3 19 s
    let s := [(1, 18), (2, 18), (5, 19), (6, 19), (9, 22), (11, 20)].foldl (fun s x => s.raise 4 x.1 3 x.2) s
    s.safeHold 5 19

/-- Whether an island still runs and is watched in SAFE-HOLD: 6, 11, and 3 with the link of R509 after a fault (Table 19-3,
R504). -/
def State.watchedInHold (s : State) (n : Nat) : Bool := n == 6 || n == 11 || (n == 3 && s.laneHeld)

/-- R29, R30: the loss of the clock of island n is handled while the island is watched. -/
def State.clockGone (s : State) (n : Nat) : State :=
  if s.mode = 7 ∧ s.watchedInHold n = false then s else s.islandFails 4 n

/-- ISLAND_CLOCK_LOST (R29, R30): the clock lane of a camera port is watched while the port is bound and the lane is in
high-speed mode. -/
def execIslandClockLost (t : Nat) (clock : Clock) (s : State) : Host.Outcome State Fault Refusal :=
  s.run t fun s =>
    match clock with
    | .fclk => s.fclkLost
    | .pll n => (s.stopIsland n).clockGone n
    | .refclk n => s.clockGone (3 + n % 2)
    | .camera p highSpeed =>
      if s.mode = 7 ∨ highSpeed = false ∨ (s.portPipeline (p % 2)).isNone then s else s.islandFails 4 (7 + p % 2)
    | .tsclk => (s.stopIsland 10).clockGone 10

/-- CLOCK_RATIO_CHECK (R29). -/
def execClockRatioCheck (t deviationPpm : Nat) (s : State) : Host.Outcome State Fault Refusal :=
  s.runOn t fun s => if 500 < deviationPpm then s.raise 5 0 0 23 else s

/-- The lowest of a list with its first position. -/
def lowest (l : List Nat) : Nat × Nat :=
  ((l.zipIdx).foldl (fun (b : Option (Nat × Nat)) x =>
    match b with
    | some y => if x.1 < y.1 then some x else b
    | none => some x) none).getD (0, 0)

/-- PACE_METER_WINDOW (R32 to R34). -/
def execPaceMeterWindow (t : Nat) (figures : List Nat) (s : State) : Host.Outcome State Fault Refusal :=
  s.runOn t fun s =>
    if figures.length ≠ 24 then s
    else
      let s := (figures.zipIdx).foldl (fun s x => s.setRegN (o7C10.PACE + x.2) (x.1 % 65536)) s
      let low := lowest figures
      let s := (s.setRegN o7C10.PACE_LOWEST low.1).setRegN o7C10.PACE_LOWEST_REGION low.2
      let below := (List.range 24).filter fun r => decide (figures.getD r 0 < 1000)
      let fallen := below.filter fun r => !s.sys.paceLow.contains r
      let s := { s with sys := { s.sys with paceLow := below } }
      let s := fallen.foldl (fun s r => s.raise 6 r 0 r) s
      if 1024 ≤ low.1 then s.setRegBit o2801.FLAGS 6 false else s

/-- BREACH_ESCALATED (R477): one step up from a level that cannot absorb a fault of a region. -/
def execBreachEscalated (t region fromLevel : Nat) (s : State) : Host.Outcome State Fault Refusal :=
  s.runOn t fun s =>
    if 3 ≤ fromLevel ∨ 24 ≤ region then s
    else if 1 ≤ fromLevel ∧ (region = 21 ∨ region = 22) then s.regionFails region fromLevel
    else
      let s := State.escalateTo 1 fromLevel (fromLevel + 1) region s
      if fromLevel = 2 then s.safeHold 5 region else s

/-- HEARTBEAT_MISSING (R478): the region is lost, and R22 applies. -/
def execHeartbeatMissing (t region : Nat) (s : State) : Host.Outcome State Fault Refusal :=
  s.runOn t fun s => if region ≤ 16 then s.polderFails region 1 else s.regionFails region 2

/-- ROOT_WATCH_MISMATCH (R479). -/
def execRootWatchMismatch (t : Nat) (s : State) : Host.Outcome State Fault Refusal :=
  s.runOn t fun s => s.safeHold 5 23

end Sys2Proof.Machine
end

