-- ==== Sys2Proof/Machine/TimeNetwork.lean ====
section
/-! DEFINITION. Machine/TimeNetwork.lean: the commands of chapter 14: the ports, the switch, the ring, PTP, the local
clock, its triggers and captures, and PPS. -/
namespace Sys2Proof.Machine

/-! ### The switch -/

/-- PHY_POLL (R374, R373): `autoNeg` is the SGMII word, `phyLink` register 1 of the PHY. -/
def execPhyPoll (t port : Nat) (autoNeg phyLink gigabitFull : Bool) (s : State) : Host.Outcome State Fault Refusal :=
  s.runOn t fun s =>
    if port = 1 ∨ port = 2 then
      let s := (s.servePort port).emit (.mdio port (s.regN (o7200.PHY_ADDR + (port - 1))) 1)
      s.setPort port (autoNeg && phyLink && gigabitFull && s.flag (o7200.PORT_ENABLE + (port - 1)) && !s.islandLost 9)
    else s

/-- Destination MAC address of a frame. -/
def frameDst (d : Octets) : Nat := numberOf (d.take 6)
/-- Source MAC address of a frame. -/
def frameSrc (d : Octets) : Nat := numberOf ((d.drop 6).take 6)
/-- Octets of a frame before its EtherType: 12, or 16 with a VLAN tag. -/
def typeAt (d : Octets) : Nat := if numberOf ((d.drop 12).take 2) = 0x8100 then 16 else 12
/-- EtherType of a frame behind any VLAN tag. -/
def etherType (d : Octets) : Nat := numberOf ((d.drop (typeAt d)).take 2)
/-- A frame from its EtherType on. -/
def frameBody (d : Octets) : Octets := d.drop (typeAt d + 2)
/-- n octets of a frame body at an offset, as a number. -/
def bodyField (d : Octets) (at_ n : Nat) : Nat := numberOf (((frameBody d).drop at_).take n)

/-- A PTP message's messageType. -/
def ptpType (d : Octets) : Nat := bits (bodyField d 0 1) 3 0
/-- A PTP message's sequenceId. -/
def ptpSeq (d : Octets) : Nat := bodyField d 30 2
/-- A PTP message's sourcePortIdentity. -/
def ptpSource (d : Octets) : Nat := bodyField d 20 10
/-- A PTP message's correctionField in 2⁻¹⁶ ns. -/
def ptpCorrection (d : Octets) : Int := signed 64 (bodyField d 8 8)
/-- Whether a PTP message is two-step. -/
def ptpTwoStep (d : Octets) : Bool := bit (bodyField d 6 1) 1
/-- A 10-octet PTP timestamp in 2⁻¹⁶ ns. -/
def ptpTime (d : Octets) (at_ : Nat) : Int := ((bodyField d at_ 6 * 1000000000 + bodyField d (at_ + 6) 4 : Nat) : Int) * 65536

/-- A PTP message with its correctionField raised (R385). -/
def ptpCorrected (d : Octets) (add : Int) : Octets :=
  let at_ := typeAt d + 2 + 8
  d.take at_ ++ octetsOf 8 (unsigned 64 (ptpCorrection d + add)) ++ d.drop (at_ + 8)

/-- R385, R397: what the switch adds to the correction of a forwarded event message. -/
def State.transit (s : State) (f : NetFrame) : Int :=
  let peer := if f.port = 1 then s.time.peer0 else s.time.peer1
  if s.regN o7001.DELAY_MECHANISM = 2 then
    f.residence + peer + divOpen 397 (s.reg (o7002.ASYMMETRY_PS + (f.port - 1)) * 65536) 1000
  else f.residence

/-- R376: one frame to one egress port, or dropped when its queue there is full. -/
def State.forward (f : NetFrame) (high : Bool) (d : Octets) (s : State) (port : Nat) : State :=
  if f.full.contains port then s.incReg (o7201.DROPPED + (port - 1)) else s.putFrame high d port

/-- R375: the switch learns the source address of a frame; a full table keeps what it holds. -/
def State.learn (s : State) (mac port : Nat) : State :=
  if bit mac 40 then s
  else
    let rest := s.net.table.filter fun a => a.mac != mac
    if rest.length < 1024 then
      { s with net := { s.net with table := { mac := mac, port := port, seen := s.now } :: rest } }
    else s

/-- Whether a frame is a ring frame (R377). -/
def isRing (d : Octets) : Bool := etherType d == 0x88B6 && frameDst d == 0x034652000001
/-- Whether a frame is a PTP message. -/
def isPtp (d : Octets) : Bool := etherType d == 0x88F7

/-- R385: the frame to forward, and the two-step Syncs still awaited: event messages take the transit correction, a
two-step Sync leaves it to its Follow_Up. -/
def State.correct (f : NetFrame) (s : State) : Octets × State :=
  let d := f.data
  if isPtp d = false then (d, s)
  else if ptpType d = 0 ∧ ptpTwoStep d = true then
    let w : TwoStep := { port := f.port, seq := ptpSeq d, source := ptpSource d,
                         received := s.receivedAt s.now f.port, add := s.transit f }
    let rest := s.time.twoStep.filter fun x => x.source != w.source
    (d, if rest.length < 8 then { s with time := { s.time with twoStep := rest ++ [w] } } else s)
  else if ptpType d < 4 then (ptpCorrected d (s.transit f), s)
  else if ptpType d = 8 then
    match s.time.twoStep.find? fun w => w.source == ptpSource d && w.seq == ptpSeq d with
    | some w => (ptpCorrected d w.add, s)
    | none => (d, s.incReg o7201.TC_UNMATCHED)
  else (d, s)

/-- R375 to R377, R385: a good frame is learned, filtered and forwarded. The Bool says whether it is delivered to port 0. -/
def State.switchFrame (f : NetFrame) (s : State) : Bool × State :=
  let d := f.data
  if s.netOn = false ∨ s.portUp f.port = false then (false, s)
  else
    let s := s.incReg (o7201.FRAMES_IN + (f.port - 1))
    if f.fcsOk = false then (false, s.incReg (o7201.FCS_ERRORS + (f.port - 1)))
    else if 1518 < d.length ∨ d.length < 14 then (false, s)
    else
      let role := s.regN o7200.RING_ROLE
      let ring := isRing d && decide (role ≠ 0)
      let peerMsg := isPtp d && decide (ptpType d = 2 ∨ ptpType d = 3 ∨ ptpType d = 10)
      if s.net.blocked = true ∧ f.port = 2 ∧ ring = false ∧ peerMsg = false then (false, s)
      else if ring then
        if role = 1 then (false, s.forward f true d (3 - f.port)) else (false, s)
      else
        let s := s.learn (frameSrc d) f.port
        let dst := frameDst d
        let mine := dst == Config.mac % 2 ^ 48
        let (out, s) := s.correct f
        let high := isPtp d && decide (ptpType d < 4)
        let stays := mine || (peerMsg && decide (s.regN o7001.DELAY_MECHANISM = 2))
        let s := if stays then s else (s.egress dst f.port false).foldl (State.forward f high out) s
        (mine || bit dst 40, s)

/-- Whether a frame is one with a row of its own: a ring frame of a member or manager, or a PTP message. -/
def State.ownRow (s : State) (f : NetFrame) : Bool := isPtp f.data || (isRing f.data && s.regN o7200.RING_ROLE != 0)

/-- SWITCH_FRAME_RX (R375); a PTP message or ring frame comes as a command of its own row, when its FCS is right. -/
def execSwitchFrameRx (t : Nat) (f : NetFrame) (s : State) : Host.Outcome State Fault Refusal :=
  s.runOn t fun s => if f.fcsOk && s.ownRow f then s else (s.switchFrame f).2

/-- ADDRESS_AGEING (R375). -/
def execAddressAgeing (t mac : Nat) (s : State) : Host.Outcome State Fault Refusal :=
  s.runOn t fun s =>
    { s with net := { s.net with table := s.net.table.filter fun a =>
        !(a.mac == mac && decide (a.seen + s.regN o7200.AGEING_S * 1000000000 ≤ s.now)) } }

/-! ### The ring -/

/-- A ring frame of this manager from both ports (Table 14-1); each frame takes the next `SEQ`. -/
def State.sendRing (s : State) (kind state : Nat) : State :=
  [1, 2].foldl (fun s port =>
    let seq := (s.net.ringSeq + 1) % 65536
    let s := { s with net := { s.net with ringSeq := seq } }
    let d := macOctets 0x034652000001 ++ macOctets (Config.mac % 2 ^ 48) ++ octetsOf 2 0x88B6 ++ octetsOf 1 kind
      ++ octetsOf 1 state ++ octetsOf 2 (s.regN o7200.RING_ID) ++ octetsOf 2 seq ++ macOctets (Config.mac % 2 ^ 48)
      ++ List.replicate 34 0
    s.putFrame true d port) s

/-- RING_CHECK_SEND (R377). -/
def execRingCheckSend (t : Nat) (s : State) : Host.Outcome State Fault Refusal :=
  s.runOn t fun s => if s.regN o7200.RING_ROLE = 2 ∧ s.netOn = true then s.sendRing 1 0 else s

/-- R378: the manager's ring changes state; with a second manager port 2 is unblocked, which TOPOLOGY_CHANGE names open (log
entry 89). -/
def State.ringChange (s : State) (state : Nat) : State :=
  let s := (s.setRegN o7200.RING_STATE state).incReg o7200.RING_CHANGES
  let s := { s with net := { s.net with blocked := decide (state = 2), table := [] } }
  let s := if state = 3 then s.raise 98 0 1 22 else s.raise 97 0 0 22 (decide (state = 1))
  s.sendRing 2 (if state = 2 then 2 else 1)

/-- RING_CHECK_RX (R378). -/
def execRingCheckRx (t : Nat) (f : NetFrame) (s : State) : Host.Outcome State Fault Refusal :=
  s.runOn t fun s =>
    let d := f.data
    if s.netOn = false ∨ s.portUp f.port = false ∨ f.fcsOk = false ∨ isRing d = false ∨ bodyField d 0 1 ≠ 1 then s
    else
      let s := (s.switchFrame f).2
      if s.regN o7200.RING_ROLE = 2 ∧ bodyField d 2 2 = s.regN o7200.RING_ID then
        if bodyField d 6 6 = Config.mac % 2 ^ 48 then
          let s := { s with net := { s.net with lastCheck := s.now } }
          if s.regN o7200.RING_STATE = 2 ∨ s.regN o7200.RING_STATE = 3 then s else s.ringChange 2
        else if s.regN o7200.RING_STATE = 3 then s
        else s.ringChange 3
      else s

/-- RING_CHECK_TIMEOUT (R378). -/
def execRingCheckTimeout (t : Nat) (s : State) : Host.Outcome State Fault Refusal :=
  s.runOn t fun s =>
    if s.regN o7200.RING_ROLE = 2 ∧ s.netOn = true ∧ s.regN o7200.RING_STATE ≠ 1 ∧
        s.net.lastCheck + 3 * s.regN o7200.RING_CHECK_MS * 1000000 ≤ s.now then s.ringChange 1
    else s

/-- TOPOLOGY_CHANGE_RX (R377, R378). -/
def execTopologyChangeRx (t : Nat) (f : NetFrame) (s : State) : Host.Outcome State Fault Refusal :=
  s.runOn t fun s =>
    let d := f.data
    if s.netOn = false ∨ s.portUp f.port = false ∨ f.fcsOk = false ∨ isRing d = false ∨ bodyField d 0 1 ≠ 2 then s
    else
      let s := (s.switchFrame f).2
      if bodyField d 2 2 = s.regN o7200.RING_ID then { s with net := { s.net with table := [] } } else s

/-! ### PTP -/

/-- The EUI-64 of a MAC address (IEEE 1588: FFFEh between its halves). -/
def eui64 (mac : Nat) : Nat := place (bits mac 47 24) 63 40 + place 0xFFFE 39 24 + bits mac 23 0

/-- The chip's clockIdentity: its MAC address as an EUI-64. -/
def ownIdentity : Nat := eui64 (Config.mac % 2 ^ 48)

/-- Whether the chip's own clock uses PTP messages now: its domain, and not while INVALID (R384, R396). -/
def State.usesPtp (s : State) (d : Octets) : Bool :=
  s.timeValid && isPtp d && bodyField d 4 1 == s.regN o7001.DOMAIN

/-- The PTP header and body of a message of the chip's own clock. -/
def State.ptpMessage (s : State) (type seq : Nat) (correction logInterval : Int) (body : Octets) : Octets :=
  octetsOf 1 type ++ octetsOf 1 0x12 ++ octetsOf 2 (34 + body.length) ++ octetsOf 1 (s.regN o7001.DOMAIN)
    ++ octetsOf 1 0 ++ octetsOf 2 0 ++ octetsOf 8 (unsigned 64 correction) ++ octetsOf 4 0 ++ octetsOf 8 ownIdentity
    ++ octetsOf 2 1 ++ octetsOf 2 seq ++ octetsOf 1 0 ++ octetsOf 1 (unsigned 8 logInterval) ++ body

/-- A PTP message in an Ethernet frame (Annex E): peer-delay messages go to the link-local address. -/
def State.ptpFrame (s : State) (peer : Bool) (message : Octets) : Octets :=
  let _ := s
  macOctets (if peer then 0x0180C200000E else 0x011B19000000) ++ macOctets (Config.mac % 2 ^ 48) ++ octetsOf 2 0x88F7
    ++ message

/-- A 10-octet PTP timestamp of a local time in 2⁻¹⁶ ns. -/
def ptpStamp (fine : Int) : Octets :=
  let ns := (fine / 65536).toNat
  octetsOf 6 (ns / 1000000000) ++ octetsOf 4 (ns % 1000000000)

/-- R395: a path change; `why` is the detail of Table 18-1. -/
def State.pathChange (s : State) (why : Nat) : State :=
  let s := ((s.setRegN o7000.STATE 2).incReg o7000.PATH_CHANGES).raise 101 why 0 22
  { s.setRegN o7000.MEAN_PATH_NS 0 with time := { s.time with delays := [], jumps := 0, within := 0 } }

/-- Table 14-4: Syncs in a row within `LOCK_NS`; the sixteenth locks the clock. -/
def State.judgeLock (s : State) (theta : Int) : State :=
  let n := if theta.natAbs < s.regN o7000.LOCK_NS * 65536 then s.time.within + 1 else 0
  let s := { s with time := { s.time with within := n } }
  if s.regN o7000.STATE = 2 ∧ 16 ≤ n then (s.setRegN o7000.STATE 3).raise 100 0 0 22 else s

/-- R393: one step of the servo for an offset in 2⁻¹⁶ ns. -/
def State.servo (s : State) (theta : Int) : State :=
  let slew := divOpen 3931 (s.reg o7000.SLEW_LIMIT_PPB * 2 ^ 40) 1000000000
  let c := clamp (-slew) slew (divOpen 3932 (-theta * 2 ^ 24) (s.regN o7000.SERVO_TC_MS * 1000000))
  let f := s.reg o7000.RATE_ESTIMATE
  let s := s.setRate (f + c)
  let s := s.setReg o7000.RATE_ESTIMATE (clamp (-549755814) 549755814 (f + divOpen 3933 c 64))
  let s := { s with time := { s.time with lastTheta := some theta, jumps := 0 } }
  let big := decide (1000000 * 65536 < theta.natAbs) && s.regN o7000.STATE == 2
  let s := if big && !s.time.large then (s.raise 104 0 0 22) else s
  State.judgeLock { s with time := { s.time with large := big } } theta

/-- R392: the slope of eight offsets in 2⁻⁴⁰, where they lie on one line; the rule states no estimate for others. -/
def State.slope (s : State) (os : List (Nat × Int)) : Int × State :=
  match os.head?, os.getLast? with
  | some (t1, a1), some (t0, a0) =>
    let line := os.all fun o => decide ((o.2 - a0) * ((t1 : Int) - t0) = (a1 - a0) * ((o.1 : Int) - t0))
    if line ∧ t0 < t1 then (divOpen 3921 ((a1 - a0) * 2 ^ 24) (t1 - t0), s)
    else
      let (v, s) := s.draw 30
      ((v : Int) - 2 ^ 29, s)
  | _, _ => (0, s)

/-- R392: an offset while ACQUIRING. -/
def State.acquire (s : State) (theta : Int) : State :=
  let os := ((s.now, theta) :: s.time.offsets).take 8
  let s := { s with time := { s.time with offsets := os } }
  let hi := os.foldl (fun m o => max m o.2) theta
  let lo := os.foldl (fun m o => min m o.2) theta
  if os.length = 8 ∧ hi - lo ≤ 1000 * 65536 then
    let mean := divOpen 392 (os.foldl (fun a o => a + o.2) 0) 8
    let (sl, s) := s.slope os
    let s := s.setReg o7000.RATE_ESTIMATE (clamp (-549755814) 549755814 (s.reg o7000.RATE - sl))
    let s := (s.stepClock (-mean)).setReg o7000.TAI_VALID 1
    { (s.setRegN o7000.STATE 2) with time := { s.time with offsets := [], within := 0, lastTheta := none, jumps := 0 } }
  else s

/-- The average of the last `DELAY_AVG` path delays in 2⁻¹⁶ ns (R391). -/
def State.meanPath (s : State) : Int :=
  if s.time.delays.isEmpty then 0
  else divOpen 391 (s.time.delays.foldl (· + ·) 0) s.time.delays.length

/-- R391 to R395: one Sync of the selected master: its port, identity, and t₂ − t₁ less the corrections. -/
def State.syncOffset (s : State) (port identity : Nat) (forward : Int) : State :=
  let delay := if s.regN o7001.DELAY_MECHANISM = 1 then s.meanPath else if port = 1 then s.time.peer0 else s.time.peer1
  let asym := divOpen 3971 (s.reg (o7002.ASYMMETRY_PS + (port - 1)) * 65536) 1000
  let theta := forward - delay - asym
  let otherPort := decide (s.regN o7002.SYNC_PORT ≠ 0 ∧ s.regN o7002.SYNC_PORT ≠ port)
  let otherMaster := decide (s.time.master ≠ 0 ∧ s.time.master ≠ identity)
  let s := (s.incReg o7001.SYNCS_RECEIVED).setRegN o7002.SYNC_PORT port
  let s := { s with time := { s.time with lastSync := s.now, master := identity, forward := some forward } }
  let s := s.setReg o7000.OFFSET_NS (divOpen 3911 theta 65536)
  match s.regN o7000.STATE with
  | 0 => (s.setRegN o7000.STATE 1).acquire theta
  | 1 => s.acquire theta
  | 4 => (s.pathChange 3).servo theta
  | 5 => s
  | _ =>
    if otherMaster then (s.pathChange 3).servo theta
    else if otherPort then (s.pathChange 1).servo theta
    else
      let jump := match s.time.lastTheta with
        | some p => decide (s.regN o7000.PATH_JUMP_NS * 65536 < (theta - p).natAbs)
        | none => false
      if jump then
        let s := s.incReg o7000.OUTLIERS
        let n := s.time.jumps + 1
        if n < 3 then State.judgeLock { s with time := { s.time with jumps := n } } theta
        else (s.pathChange 2).servo theta
      else s.servo theta

/-- Whether a message comes from the selected master (R384). -/
def State.fromMaster (s : State) (d : Octets) : Bool :=
  s.regN o7001.PTP_ROLE == 1 && numberOf (s.blob o7000.MASTER_IDENTITY) == ptpSource d / 65536

/-- Whether a frame is a PTP message of a type that the port takes in. -/
def State.ptpTaken (f : NetFrame) (type : Nat) (s : State) : Bool :=
  s.netOn && s.portUp f.port && f.fcsOk && isPtp f.data && ptpType f.data == type

/-- A PTP message enters: switched and, if it is an event message, timestamped (R381); `use` is what the clock does. -/
def State.ptpTake (f : NetFrame) (type : Nat) (use : State → State) (s : State) : State :=
  let d := f.data
  if s.ptpTaken f type = false then s
  else
    let s := (s.switchFrame f).2
    let s := if type < 4 then
        s.stampReceive (s.receivedAt s.now f.port) 1 f.port (ptpSeq d) type else s
    if s.usesPtp d then use s else s

/-- A PTP message enters. -/
def State.ptpIn (t : Nat) (f : NetFrame) (type : Nat) (use : State → State) (s : State) :
    Host.Outcome State Fault Refusal :=
  s.runOn t (State.ptpTake f type use)

/-- SYNC_RX (R393, R391): a one-step Sync gives an offset at once, a two-step Sync waits for its Follow_Up. -/
def execSyncRx (t : Nat) (f : NetFrame) (s : State) : Host.Outcome State Fault Refusal :=
  s.ptpIn t f 0 fun s =>
    let d := f.data
    if s.fromMaster d = false then s
    else
      let s := { s with time := { s.time with logSync := signed 8 (bodyField d 33 1) } }
      if ptpTwoStep d then { s with time := { s.time with lastSync := s.now } }
      else s.syncOffset f.port (ptpSource d / 65536) (s.receivedAt s.now f.port - ptpTime d 34 - ptpCorrection d)

/-- R385: a Follow_Up gives the offset of the two-step Sync that it follows. -/
def State.followUp (f : NetFrame) (s : State) : State :=
  let d := f.data
  match s.time.twoStep.find? fun w => w.source == ptpSource d && w.seq == ptpSeq d && w.port == f.port with
  | some w =>
    if s.fromMaster d then
      s.syncOffset f.port (ptpSource d / 65536) (w.received - ptpTime d 34 - ptpCorrection d)
    else s
  | none => s

/-- R385: no two-step message waits any longer for the Follow_Up that has come. -/
def State.followed (d : Octets) (s : State) : State :=
  { s with time := { s.time with twoStep := s.time.twoStep.filter fun w => !(w.source == ptpSource d && w.seq == ptpSeq d) } }

/-- FOLLOW_UP_RX (R385). -/
def execFollowUpRx (t : Nat) (f : NetFrame) (s : State) : Host.Outcome State Fault Refusal :=
  s.runOn t fun s =>
    let x := s.ptpTake f 8 (State.followUp f)
    if s.ptpTaken f 8 then x.followed f.data else x

/-- Sends one event message of the chip's own clock from a port and awaits its answer (R382, R386, R391). -/
def State.sendRequest (s : State) (type : Nat) (peer : Bool) (bodyLen port : Nat) : State :=
  let seq := (s.time.sequence + 1) % 65536
  let at_ := s.sentAt (s.departs port) port
  let frame := s.ptpFrame peer
    (s.ptpMessage type seq 0 (s.reg o7001.LOG_DELAY_INTERVAL) (List.replicate bodyLen 0))
  let s := s.putFrame true frame port
  let (kept, s) := s.stampSend at_ 1 seq type
  let rq : DelayRequest := { port := port, seq := seq, sent := if kept then some at_ else none, back := none }
  { s with time := { s.time with sequence := seq, requests := (rq :: s.time.requests).take 4 } }

/-- DELAY_REQ_SEND (R391). -/
def execDelayReqSend (t : Nat) (s : State) : Host.Outcome State Fault Refusal :=
  s.runOn t fun s =>
    let p := s.regN o7002.SYNC_PORT
    if s.regN o7001.DELAY_MECHANISM = 1 ∧ s.regN o7001.PTP_ROLE = 1 ∧ s.timeValid = true ∧ s.portUp p = true then
      s.sendRequest 1 false 10 p
    else s

/-- The chip's own request that a response answers: requestingPortIdentity and sequenceId. -/
def State.ownRequest (s : State) (d : Octets) : Option DelayRequest :=
  if bodyField d 44 8 = ownIdentity then s.time.requests.find? fun r => r.seq == ptpSeq d else none

/-- A request whose answer has come is awaited no longer. -/
def State.endRequest (s : State) (seq : Nat) : State :=
  { s with time := { s.time with requests := s.time.requests.filter fun r => r.seq != seq } }

/-- DELAY_RESP_RX (R391). -/
def execDelayRespRx (t : Nat) (f : NetFrame) (s : State) : Host.Outcome State Fault Refusal :=
  s.ptpIn t f 9 fun s =>
    let d := f.data
    match s.ownRequest d with
    | none => s
    | some r =>
      let s := s.endRequest r.seq
      match r.sent, s.time.forward with
      | some t3, some fwd =>
        let delay := divOpen 3912 (fwd + (ptpTime d 34 - t3 - ptpCorrection d)) 2
        let s := { s with time := { s.time with delays := (delay :: s.time.delays).take (s.regN o7001.DELAY_AVG) } }
        s.setReg o7000.MEAN_PATH_NS (clamp 0 4294967295 (divOpen 3913 s.meanPath 65536))
      | _, _ => s

/-- PDELAY_REQ_SEND (R386): on every port that is up, a blocked one included. -/
def execPdelayReqSend (t : Nat) (s : State) : Host.Outcome State Fault Refusal :=
  s.runOn t fun s =>
    if s.regN o7001.DELAY_MECHANISM = 2 ∧ s.timeValid = true then
      [1, 2].foldl (fun s p => if s.portUp p then s.sendRequest 2 true 20 p else s) s
    else s

/-- PDELAY_REQ_RX (R385): answered with a one-step Pdelay_Resp that carries the turnaround time. -/
def execPdelayReqRx (t : Nat) (f : NetFrame) (s : State) : Host.Outcome State Fault Refusal :=
  s.ptpIn t f 2 fun s =>
    let d := f.data
    if s.regN o7001.DELAY_MECHANISM = 2 then
      let body := octetsOf 10 0 ++ octetsOf 10 (ptpSource d)
      let frame := s.ptpFrame true (s.ptpMessage 3 (ptpSeq d) (ptpCorrection d + f.residence) 127 body)
      s.putStamped true { data := frame, stamp := some (1, ptpSeq d, 3) } f.port
    else s

/-- R386: a measured peer delay of a port. -/
def State.setPeer (s : State) (port : Nat) (delay : Int) : State :=
  let s := if port = 1 then { s with time := { s.time with peer0 := delay } }
    else { s with time := { s.time with peer1 := delay } }
  s.setReg (o7002.PEER_DELAY_NS + (port - 1)) (clamp 0 4294967295 (divOpen 386 delay 65536))

/-- PDELAY_RESP_RX (R386): a Pdelay_Resp, or the Pdelay_Resp_Follow_Up of a two-step one. -/
def execPdelayRespRx (t : Nat) (f : NetFrame) (s : State) : Host.Outcome State Fault Refusal :=
  let d := f.data
  s.ptpIn t f (if ptpType d = 10 then 10 else 3) fun s =>
    match s.ownRequest d with
    | none => s
    | some r =>
      match r.sent, r.back with
      | none, _ => s.endRequest r.seq
      | some t1, none =>
        if ptpType d ≠ 3 then s
        else if ptpTwoStep d then
          let back := (s.receivedAt s.now f.port - ptpCorrection d, ptpTime d 34)
          { s with time := { s.time with requests := s.time.requests.map fun q =>
              if q.seq == r.seq then { q with back := some back } else q } }
        else (s.endRequest r.seq).setPeer f.port (divOpen 3861 (s.receivedAt s.now f.port - t1 - ptpCorrection d) 2)
      | some t1, some (t4, t2) =>
        if ptpType d = 10 then
          (s.endRequest r.seq).setPeer f.port (divOpen 3862 (t4 - t1 - (ptpTime d 34 - t2) - ptpCorrection d) 2)
        else s

/-- The BMCA quantities of clause 9.3 as one number; the smaller is the better master (R384). -/
def masterRank (p1 quality p2 identity steps : Nat) : Nat :=
  place p1 135 128 + place quality 127 96 + place p2 95 88 + place identity 87 24 + place steps 23 8

/-- A time of 2 to a power of seconds, in ns. -/
def logSeconds (l : Int) : Nat := if l < 0 then 1000000000 / 2 ^ l.natAbs else 1000000000 * 2 ^ l.natAbs

/-- R384: masters whose Announces have stayed away for three intervals, the default announceReceiptTimeout of IEEE 1588, are
known no longer (log entry 90). -/
def State.ageMasters (s : State) : State :=
  { s with time := { s.time with masters := s.time.masters.filter fun m => decide (s.now < m.heard + 3 * logSeconds m.interval) } }

/-- R384: the best master known, and the role of the chip's own clock. -/
def State.selectMaster (s : State) : State :=
  let s := s.ageMasters
  let best := s.time.masters.foldl (fun (b : Option Master) m =>
    match b with
    | some x => if m.rank < x.rank then some m else b
    | none => some m) none
  let own := masterRank (s.regN o7001.PRIORITY1) (place (s.regN o7001.CLOCK_CLASS) 31 24 + 0xFEFFFF)
    (s.regN o7001.PRIORITY2) ownIdentity 0
  match best with
  | none => s.setRegN o7001.PTP_ROLE (if s.flag o7001.MASTER_CAPABLE then 2 else 0)
  | some m =>
    if s.flag o7001.MASTER_CAPABLE ∧ own < m.rank then s.setRegN o7001.PTP_ROLE 2
    else (s.setRegN o7001.PTP_ROLE 1).setBlob o7000.MASTER_IDENTITY (octetsOf 8 m.identity)

/-- ANNOUNCE_RX (R384). -/
def execAnnounceRx (t : Nat) (f : NetFrame) (s : State) : Host.Outcome State Fault Refusal :=
  s.ptpIn t f 11 fun s =>
    let d := f.data
    let m : Master := { rank := masterRank (bodyField d 47 1) (bodyField d 48 4) (bodyField d 52 1) (bodyField d 53 8)
                          (bodyField d 61 2),
                        identity := ptpSource d / 65536, port := f.port, heard := s.now,
                        interval := clamp (-8) 8 (signed 8 (bodyField d 33 1)) }
    let rest := s.time.masters.filter fun x => x.identity != m.identity
    { s with time := { s.time with masters := (m :: rest).take 8 } }.selectMaster

/-- SYNC_SEND (R385): a one-step Sync from every port that is up, each with its own timestamp. -/
def execSyncSend (t : Nat) (s : State) : Host.Outcome State Fault Refusal :=
  s.runOn t fun s =>
    if s.regN o7001.PTP_ROLE = 2 ∧ s.timeValid = true then
      let seq := (s.time.sequence + 1) % 65536
      let s := { s with time := { s.time with sequence := seq } }
      [1, 2].foldl (fun s p =>
        if s.portUp p && !(s.net.blocked && p == 2) then
          let at_ := s.sentAt (s.departs p) p
          let msg := s.ptpMessage 0 seq (at_ % 65536) (s.reg o7001.LOG_SYNC_INTERVAL) (ptpStamp at_)
          s.putStamped true { data := s.ptpFrame false msg, stamp := some (1, seq, 0) } p
        else s) s
    else s

/-! ### The clock -/

/-- R390: HOLDOVER at the estimated rate. -/
def State.holdover (s : State) : State :=
  (((s.setRate (s.reg o7000.RATE_ESTIMATE)).setRegN o7000.STATE 4).raise 102 0 0 22).selectMaster

/-- The Sync interval of the selected master in ns. -/
def State.syncInterval (s : State) : Nat := logSeconds s.time.logSync

/-- TIME_HOLDOVER (R390, Table 14-4): TRACKING or LOCKED with no Sync for `HOLDOVER_SYNCS` intervals. -/
def execTimeHoldover (t : Nat) (s : State) : Host.Outcome State Fault Refusal :=
  s.runOn t fun s =>
    if (s.regN o7000.STATE = 2 ∨ s.regN o7000.STATE = 3) ∧
        s.time.lastSync + s.regN o7000.HOLDOVER_SYNCS * s.syncInterval ≤ s.now then s.holdover
    else s

/-- TSCLK_RESTORED (R396): local time is carried on from island 11; `tau` is the counter at this moment. -/
def execTsclkRestored (t tau : Nat) (s : State) : Host.Outcome State Fault Refusal :=
  s.runOn t fun s =>
    if s.regN o7000.STATE = 5 then
      let b := s.localFine s.now
      let s := { s with time := { s.time with base := b, tauBase := tau, pairs := [(s.now, tau)] },
                        sys := { s.sys with islandsLost := s.sys.islandsLost.filter fun n => n != 10 } }
      s.setRegN o7000.STATE (if s.flag o7000.TAI_VALID then 2 else 0)
    else s

/-- TSCLK_CAPTURE (R390). -/
def execTsclkCapture (t tau : Nat) (s : State) : Host.Outcome State Fault Refusal :=
  s.run t fun s =>
    if s.islandLost 10 || s.islandLost 11 then s
    else { s with time := { s.time with pairs := ((t, tau) :: s.time.pairs).take 2 } }

/-- Whether a time trigger is due (R399). -/
def State.triggerDue (s : State) (n : Nat) : Bool :=
  bit (s.regN (o7003.TRIGGER_CTRL + n)) 31 && s.timeValid && decide (s.regN (o7003.TRIGGER_TIME + n) ≤ s.localTime s.now)

/-- R398 to R400: an armed trigger whose time local time has reached fires. -/
def State.fireTrigger (s : State) (n : Nat) : State :=
  if s.triggerDue n = false then s
  else
    let kc := o7003.TRIGGER_CTRL + n
    let kt := o7003.TRIGGER_TIME + n
    let ctrl := s.regN kc
    let s := if s.time.late.contains n then s.incReg o7003.LATE_TRIGGERS else s
    let s := { s with time := { s.time with late := s.time.late.filter fun m => m != n } }
    let period := bits ctrl 27 0 * 1000
    let s := if period = 0 then s.setRegN kc (setBit ctrl 31 false) else s.setRegN kt ((s.regN kt + period) % 2 ^ 64)
    if n = 6 then s.commitTime
    else if n = 7 then s
    else
      let s := if bits ctrl 30 28 = 1 then s.capture (4 + n) s.now else s
      s.raise 105 n 0 22

/-- TIME_TRIGGER_FIRE (R399): the triggers of a lower number that are due in the same instant fire first. -/
def execTimeTriggerFire (t trigger : Nat) (s : State) : Host.Outcome State Fault Refusal :=
  s.runOn t fun s =>
    if 8 ≤ trigger ∨ s.triggerDue trigger = false then s
    else
      let same (n : Nat) : Bool := n == trigger || (s.triggerDue n &&
        s.regN (o7003.TRIGGER_TIME + n) == s.regN (o7003.TRIGGER_TIME + trigger))
      ((List.range (trigger + 1)).filter same).foldl State.fireTrigger s

/-- TRIG_EDGE (R400): the level of one of TRIG0–3 from a sample on, and for how many ns it then holds; accepted by
`TRIG_FILTER_NS` as in R39, it captures on the edges that `TRIG_EDGE` selects. -/
def execTrigEdge (t input : Nat) (high : Bool) (held : Nat) (s : State) : Host.Outcome State Fault Refusal :=
  s.runOn t fun s =>
    if 4 ≤ input ∨ held < s.regN o7004.TRIG_FILTER_NS ∨ bit s.time.trigHigh input = high then s
    else
      let s := { s with time := { s.time with trigHigh := setBit s.time.trigHigh input high } }
      if bit (s.regN o7004.TRIG_EDGE) (2 * input + if high then 0 else 1) then s.capture input s.now else s

/-- PPS_OUT_EDGE (R401): a whole second of local time, within 4 ns. -/
def execPpsOutEdge (t : Nat) (s : State) : Host.Outcome State Fault Refusal :=
  s.runOn t fun s =>
    let past := s.localTime s.now % 1000000000
    if s.regN o7004.PPS_WIDTH_US ≠ 0 ∧ s.timeValid = true ∧ (past ≤ 4 ∨ 999999996 ≤ past) then
      { s with time := { s.time with ppsUntil := some (s.now + s.regN o7004.PPS_WIDTH_US * 1000) } }.emit
        (.pps (s.regN o7004.PPS_WIDTH_US))
    else s

/-- PPS_IN_EDGE (R402): the edge's local time minus the nearest whole second. -/
def execPpsInEdge (t : Nat) (s : State) : Host.Outcome State Fault Refusal :=
  s.runOn t fun s =>
    let ns : Int := s.localTime s.now
    s.setReg o7004.PPS_IN_OFFSET_NS (ns - divNear ns 1000000000 * 1000000000)

end Sys2Proof.Machine
end

