-- ==== Sys2Proof/Machine/Checks.lean ====
section
/-! DEFINITION. Machine/Checks.lean: what the chapters check of a written value: the mode a subindex needs (R414), the
range and ordering of its table (R432, R433), and the state of what it commands. -/
namespace Sys2Proof.Machine

/-- Whether a subindex is one of the n that begin at `base`. -/
def among (k base n : Nat) : Bool := decide (base ≤ k ∧ k < base + n)

/-- Whether a subindex is that of one of the objects of one layout for axes 0 to 3. -/
def ofAxis (k base : Nat) : Bool := decide (base ≤ k ∧ k < base + 1024) && k % 256 == base % 256

/-- The axis of such a subindex. -/
def axisOf (k base : Nat) : Nat := (k - base) / 256

/-- Whether a subindex holds octets rather than a number. -/
def isOctets (k : Nat) : Bool :=
  match rowOf k with
  | some r => r.type == .str || r.type == .octets || r.type == .domain
  | none => false

/-! ### Check 5: the mode -/

/-- The code that refuses a write for the present mode, or for its path, beyond the rule of class Q (R414). -/
def State.modeCode (s : State) (k : Nat) (o : Octets) (path : Path) : Nat :=
  let m := readMotion o
  let n := axisOf k o6000.COMMAND
  if k / 256 = 0x2102 ∧ path = .network then 0x02000F04
  else if (k = o4003.LOOP ∨ k = o4003.PRBS_RUN) ∧ s.mode ≠ 6 then 0x05000000
  else if k = o4405.TRAIN ∧ s.mode ≠ 2 then 0x05000000
  else if ofAxis k o6011.LEARN ∧ s.mode ≠ 2 then 0x05000D02
  else if (k = o7801.VERIFY_ITEM ∨ k = o7801.CLEAR_TRIM) ∧ s.mode ≠ 2 then 0x05001401
  else if ofAxis k o6000.COMMAND ∧ o.length = 32 ∧ 1 ≤ m.op ∧ m.op ≤ 7 ∧ s.motionAllowed n m.op = false then 0x05000D01
  else if k = o7E02.SWAP ∧ s.mode = 0 then 0x05001201
  else 0

/-! ### Check 6: bits, ranges and orderings -/

/-- Whether every bit that a layout leaves unused is 0 (R432, step 2). -/
def unusedZero (k : Nat) (v : Int) : Bool :=
  let n := v.toNat
  if among k o3601.PULSE_ENTRY 64 then bits n 17 0 == 0
  else if among k o3602.DIE_ENERGY 64 then bits n 11 8 == 0
  else if among k o5001.TILE 16 then bits n 8 0 == 0
  else if among k o6010.LIM_MAP 8 then bits n 5 4 == 0 && bits n 0 0 == 0
  else true

/-- The abort code of a value outside the range of its table (R432, step 3). -/
def rangeCode (k : Nat) : Nat :=
  let i := k / 256
  if fitChecked k then 0x04000602
  else if 0x5200 ≤ i ∧ i ≤ 0x5205 then 0x04000B01
  else if 0x6000 ≤ i ∧ i ≤ 0x6014 then 0x04000D01
  else if 0x7000 ≤ i ∧ i ≤ 0x7200 then 0x04000E01
  else if k = o3803.ID_DIE ∨ k = o3805.MAP_DIE then 0x04000802
  else if k = o3401.WINDOW_COLUMN then 0x04000502
  else 0x04000001

/-- The values a table lists singly, where its range is not a plain interval. -/
def listed (k : Nat) (v : Int) : Bool :=
  let n := v.toNat
  if k = o3100.LINE_PITCH then n == 600 || n == 1200
  else if k = o4400.DEVICE_WIDTH then [4, 8, 16].contains n
  else if k = o4400.DENSITY_GBIT then [8, 16, 24, 32].contains n
  else if k = o4400.DATA_RATE then [3200, 4000, 4800, 5600, 6400].contains n
  else if k = o4400.MIRROR_MIB then n % 256 == 0
  else if among k o5000.LANES 2 then [1, 2, 4].contains n
  else if among k o5000.I2C_KHZ 2 then [100, 400, 1000].contains n
  else if among k o5000.BIND 2 then [0, 1, 255].contains n
  else if k = o3404.PROBE_ODD_ROW ∨ k = o3404.PROBE_EVEN_ROW then decide (n ≤ 3) || n == 255
  else if k = o3401.WINDOW_COLUMN then n % 16 == 0
  else if ofAxis k o6000.MICROSTEP then [1, 2, 4, 8, 16, 32, 64, 128, 256].contains n
  else if among k o7003.TRIGGER_CTRL 6 then decide (bits n 30 28 ≤ 1)
  else if k = o1010.SAVE then n == 0x65766173
  else if k = o1011.LOAD then n == 0x64616F6C
  else true

/-- The subindices whose tables name a code of their own for one value, or for one form of it. -/
def ownCode (k : Nat) (v : Int) (o : Octets) : Nat :=
  let n := v.toNat
  if k = o3403.MAP ∧ o.length ≠ 65536 then 0x04000503
  else if among k o5200.COLUMN_ORIGIN 2 ∧ n % 2 = 1 then 0x04000B02
  else if k = o7C00.SAG_SOURCES ∧ n = 0 then 0x04001402
  else if (k = o7801.VERIFY_ITEM ∨ k = o7801.CLEAR_TRIM) ∧ 5 < n then 0x04001401
  else if (k = o7E02.SWAP ∧ n ≠ 0x73776170) ∨ (k = o7E02.CONFIRM ∧ n ≠ 0x636F6E66) then 0x04001203
  else if among k o7400.BINDING 32 then
    let ok (m : Nat) : Bool := m == 1 || decide (3 ≤ m ∧ m ≤ 7)
    if ok (bits n 7 4) = false ∨ ok (bits n 3 0) = false ∨ bits n 7 4 = bits n 3 0 then 0x04001303 else 0
  else 0

/-- The least `LATENCY_NS` of port i (Table 04-8). -/
def leastLatency (k : Nat) : Int := resetValue k

/-- Whether a list does not fall. -/
def rising : List Int → Bool
  | a :: b :: rest => decide (a ≤ b) && rising (b :: rest)
  | _ => true

/-- The orderings between subindices (R433), by the values of `look` with the written one in place: the code that one
broken by a write of k brings, or 0. -/
def State.orderCode (s : State) (k : Nat) (v : Int) (look : Nat → Int) : Nat :=
  let at_ (q : Nat) : Int := if q = k then v else look q
  let bad (b : Bool) (code : Nat) : Nat := if b then 0 else code
  if k = o4401.ENTRY_MS ∨ k = o4401.WARN_MS then bad (decide (at_ o4401.WARN_MS ≤ at_ o4401.ENTRY_MS)) 0x04000001
  else if among k o4402.LATENCY_NS 10 then bad (decide (leastLatency k ≤ v)) 0x04000001
  else if k = o3404.PROBE_LAST then
    bad (decide (at_ o3404.PROBE_FIRST ≤ v ∧ v ≤ at_ o3404.PROBE_FIRST + 4095)) 0x04000001
  else if k = o3610.SOFT_LIMIT ∨ k = o3610.HARD_LIMIT ∨ k = o3610.KW_TARGET then
    bad (decide (at_ o3610.SOFT_LIMIT ≤ at_ o3610.HARD_LIMIT - 50 ∧ at_ o3610.KW_TARGET < at_ o3610.SOFT_LIMIT)) 0x04000604
  else if among k o3603.BAND_EDGE 7 then
    bad (rising ((List.range 7).map fun b => at_ (o3603.BAND_EDGE + b))) 0x04000604
  else if k = o5201.OUT_FRACTION ∨ k = o5201.PROBATION_FRACTION then
    bad (decide (at_ o5201.PROBATION_FRACTION < at_ o5201.OUT_FRACTION)) 0x04000B01
  else if among k o5202.DENSITY 13 then
    bad (rising ((List.range 13).map fun n => at_ (o5202.DENSITY + n))) 0x04000B01
  else if k = o5402.KNEE_C ∨ k = o5402.ZERO_C then
    bad (decide (at_ o5402.KNEE_C ≤ at_ o5402.ZERO_C - 100)) 0x04000C04
  else if k = o7C00.VBUS_RESTART_MV ∨ k = o7C00.VBUS_THRESHOLD_MV then
    bad (decide (at_ o7C00.VBUS_THRESHOLD_MV + 200 ≤ at_ o7C00.VBUS_RESTART_MV)) 0x04001402
  else if k = o7000.SERVO_TC_MS then bad (decide (4 * s.syncInterval ≤ v.toNat * 1000000)) 0x04000E01
  else if 0x6000 ≤ k / 256 ∧ k / 256 ≤ 0x6003 then
    let b := k / 256 * 256 - 0x600000
    let q (r : Nat) : Int := at_ (r + b)
    bad (decide (q o6000.V_START ≤ q o6000.HOME_SPEED ∧ q o6000.HOME_SPEED ≤ q o6000.V_MAX ∧
      q o6000.V_START ≤ q o6000.V_MAX ∧ q o6000.DECEL ≤ q o6000.LIMIT_DECEL) || ofAxis k o6000.COMMAND ||
      ofAxis k o6000.POSITION_PRESET) 0x04000D01
  else if 0x6011 ≤ k / 256 ∧ k / 256 ≤ 0x6014 then
    let b := k / 256 * 256 - 0x601100
    let q (r : Nat) : Int := at_ (r + b)
    bad (decide (q o6011.I_MIN_MA ≤ q o6011.I_MAX_MA ∧ q o6011.I_HOLD_MA ≤ q o6011.I_MAX_MA) || ofAxis k o6011.LEARN)
      0x04000D01
  else 0

/-- The largest exposure of R295: the camera line period at `MAX_LINE_RATE` less 200 ns, compared as products. -/
def State.exposureFits (s : State) (v : Nat) : Bool :=
  let span := if s.regN o3100.LINE_PITCH = 600 then 1000000000 else 2000000000
  decide ((v + 200) * max 1 (s.regN o3100.MAX_LINE_RATE) ≤ span)

/-- The checks of a whole set after the write (R283, R295, R327, R330). -/
def State.setCode (s : State) (k : Nat) (v : Int) : Nat :=
  let s' := s.setReg k v
  if among k o5002.EXPOSURE_NS 2 ∧ s.exposureFits v.toNat = false then 0x04000A02
  else if (among k o5002.EXPOSURE_NS 2 ∨ k / 256 = 0x5400) ∧ (s'.lampFits 0 = false ∨ s'.lampFits 1 = false) then 0x04000C01
  else if (k = o5401.SENSE_MOHM ∨ among k o5401.COL_CURRENT_MA 16 ∨ k = o5400.COLS_FITTED) ∧ s'.columnsFit = false then
    0x04000C02
  else if among k o5001.TILE 16 then
    let p := (k - o5001.TILE) / 8
    if tilesFit ((List.range 8).map (s'.tileWord p)) then 0 else 0x04000A01
  else 0

/-! ### What a command needs of the state -/

/-- R517: whether the conditions of a verify run that the chip sees are met. -/
def State.verifyReady (s : State) (item : Nat) : Bool :=
  if item = 0 then s.fittedDies.any fun d => (s.die d).up
  else if item = 4 then s.light.pulse.isNone
  else if item = 5 then [0, 1, 2, 3].all fun n => s.axisState n == 0
  else true

/-- Whether an image transfer is under way. -/
def State.transferring (s : State) : Bool := s.regN o7E01.TRANSFER_STATE == 1

/-- Whether a firmware swap runs (Table 17-14). -/
def State.swapping (s : State) : Bool := s.regN o7E02.SWAP_STATE == 1 || s.regN o7E02.SWAP_STATE == 2

/-- The code that refuses a command written to a subindex for the state of what it acts on, or 0. -/
def State.commandCode (s : State) (k : Nat) (v : Int) (o : Octets) : Nat :=
  let n := v.toNat
  if among k o5000.BIND 2 then s.bindCode (k - o5000.BIND) n
  else if k = o5003.HOST_RELEASE then s.releaseCode n
  else if k = o5203.APPROVE ∨ k = o5203.REJECT then s.proposalCode n
  else if among k o5403.RESTORE 2 ∧ n = 1 ∧ s.lampState (k - o5403.RESTORE) ≠ 2 then 0x04000C03
  else if ofAxis k o6000.COMMAND then
    let a := axisOf k o6000.COMMAND
    let m := readMotion o
    if motionReserved o = false ∨ s.motionFits a m = false then 0x04000D02 else motionAbort (s.motionState a m)
  else if ofAxis k o6000.POSITION_PRESET then if (s.axis (axisOf k o6000.POSITION_PRESET)).moving then 0x06000D03 else 0
  else if ofAxis k o6011.LEARN ∧ n = 1 then if s.axisState (axisOf k o6011.LEARN) ≠ 1 then 0x06000D03 else 0
  else if k = o3020.FORCE_TAKEOVER then s.forceCode n
  else if k = o3020.RETURN_POLDER then s.returnCode n
  else if k = o3404.PROBE_ARM ∧ n = 1 then
    let first := s.reg o3404.PROBE_FIRST
    let last := s.reg o3404.PROBE_LAST
    if last < first ∨ first + 4095 < last ∨ (s.regN o3404.PROBE_ODD_ROW = 255 ∧ s.regN o3404.PROBE_EVEN_ROW = 255) then 0x04000501
    else if s.regN o3404.PROBE_STATE ≠ 0 then 0x06000501 else 0
  else if k = o3802.RETRY then if (s.die n).link ≠ 5 then 0x04000801 else 0
  else if k = o3802.QUARANTINE_MASK then s.quarantineCode n
  else if k = o1010.SAVE then if s.regN o1010.SAVE_STATUS = 1 then 0x06001003 else 0
  else if k = o7E02.SWAP then
    if s.regN (o7E00.IMAGE_STATE + (1 - s.regN o7E00.RUNNING)) ≠ 1 then 0x06001203
    else if s.swapping ∨ s.transferring then 0x06001202 else 0
  else if k = o7E02.CONFIRM then if s.regN o7E02.SWAP_STATE ≠ 2 then 0x04001203 else 0
  else if k = o7801.VERIFY_ITEM then
    if s.power.verifyItem.isSome then 0x06001401 else if s.verifyReady n then 0 else 0x06001402
  else if among k o7400.BINDING 32 then if s.mbFull (k - o7400.BINDING) then 0x06001304 else 0
  else 0

/-- The class of an abort code. -/
def abortClass (code : Nat) : Nat := code / 2 ^ 24

/-- Check 6 beyond type and BOOLEAN (R432, steps 2 and 3): unused bits, range, ordering, the whole set, and what a class
04h code of a command finds. -/
def State.valueCode (s : State) (k : Nat) (v : Int) (o : Octets) (look : Nat → Int) : Nat :=
  if unusedZero k v = false then 0x04000001
  else
    let own := ownCode k v o
    let row : Bool := match rowOf k with
      | some r => !isOctets k && decide (v < r.lo ∨ r.hi < v)
      | none => false
    if own ≠ 0 then own
    else if row = true ∨ listed k v = false then rangeCode k
    else
      let order := s.orderCode k v look
      if order ≠ 0 then order
      else
        let fit := if fitChecked k then s.fitCode fun q => if q = k then v else look q else 0
        if fit ≠ 0 then fit
        else
          let set_ := s.setCode k v
          if set_ ≠ 0 then set_
          else
            let c := s.commandCode k v o
            if abortClass c = 4 then c else 0

/-- Checks 7 and 8 of a command: a code of another class. -/
def State.stateCode (s : State) (k : Nat) (v : Int) (o : Octets) : Nat :=
  let c := s.commandCode k v o
  if abortClass c = 4 then 0 else c

end Sys2Proof.Machine
end

