-- ==== Sys2Proof/Machine/WebPosition.lean ====
section
/-! DEFINITION. Machine/WebPosition.lean: the commands of chapter 02: edges, indexes, the wheel, standstill, the
cross-check and the writes of the position objects. -/
namespace Sys2Proof.Machine

/-- R40, R44: one count; `down` is its sign before `INVERT`. -/
def State.oneCount (ch : Nat) (down : Bool) (s : State) : State :=
  let back := down != (s.regN (o6400.INVERT + 256 * ch) == 1)
  if s.mode = 7 then s.setCount ch (if back then s.countOf ch + (2 ^ 48 - 1) else s.countOf ch + 1)
  else s.countEdge ch back s.now

/-- R42: one quadrature error: counted, reported at most once per 1 ms, and more than 8 in 1 ms fail the channel. -/
def State.quadError (ch : Nat) (s : State) : State :=
  if 2 ≤ ch ∨ s.regN (o6400.FORMAT + 256 * ch) ≠ 0 ∨ s.mode = 7 then s
  else
    let t := s.now
    let c := s.channel ch
    let quad := t :: c.quad.filter fun q => decide (t - q < 1000000)
    let s := (s.incReg (o6400.QUAD_ERRORS + 256 * ch)).setChannel ch { c with quad := quad }
    let s := s.noteIndicator ch
    let w := s.pos.window
    let w := if some ch = s.pacer then { w with quadActive := true }
      else if some ch = s.pos.checking then { w with quadCheck := true } else w
    let s := { s with pos := { s.pos with window := w } }
    if 8 < quad.length ∧ s.statusBit ch 8 = false then
      let s := (s.raise 80 ch 1 20).noteLimit (80 * 65536 + ch)
      let wasPacer := decide (some ch = s.pacer)
      let s := s.setStatus ch 8 true
      if wasPacer then s.pacerFailed else s
    else if s.limited (80 * 65536 + ch) 1000000 then s
    else (s.raise 80 ch 0 20).noteLimit (80 * 65536 + ch)

/-- Table 02-1, R40 to R43: what a change of a channel's accepted levels counts: none, or one edge with its sign before
`INVERT` (true is −1). In format 0 A leads B forward; in format 1 the sign is the DIR level before the sample; in format 2
an UP and a DOWN edge of one sample count nothing. -/
def edgeOf (format : Nat) (a0 b0 a b : Bool) : Option Bool :=
  match format with
  | 0 => if a0 ≠ a ∧ b0 = b then some (a == b) else if a0 = a ∧ b0 ≠ b then some (a != b) else none
  | 1 => if a0 = false ∧ a = true then some b0 else none
  | _ =>
    let up := !a0 && a
    let down := !b0 && b
    if up = down then none else some down

/-- R39: the levels of a channel's inputs are accepted once they have held for `FILTER_NS`; what they count (R40 to R43). -/
def State.acceptLevels (ch : Nat) (x : Levels) (s : State) : State :=
  if 2 ≤ ch ∨ s.islandLost 11 = true ∨ x.held < s.regN (o6400.FILTER_NS + 256 * ch) then s
  else
    let c := s.channel ch
    let format := s.regN (o6400.FORMAT + 256 * ch)
    let s := s.setChannel ch { c with a := x.a, b := x.b }
    match edgeOf format c.a c.b x.a x.b with
    | some down => s.oneCount ch down
    | none => if format = 0 ∧ c.a ≠ x.a ∧ c.b ≠ x.b then s.quadError ch else s

/-- POSITION_EDGE (R39, R40, R41). -/
def execPositionEdge (t ch : Nat) (x : Levels) (s : State) : Host.Outcome State Fault Refusal :=
  s.run t (State.acceptLevels ch x)

/-- ENC_QUAD_ERROR (R42): A and B of a channel in format 0 change in one sample. -/
def execEncQuadError (t ch held : Nat) (s : State) : Host.Outcome State Fault Refusal :=
  s.run t fun s =>
    if s.regN (o6400.FORMAT + 256 * ch) ≠ 0 then s
    else State.acceptLevels ch { a := !(s.channel ch).a, b := !(s.channel ch).b, held := held } s

/-- UP_DOWN_SAME_SAMPLE (R43): UP and DOWN of a channel in format 2 rise in one sample, which counts as no edge at all. -/
def execUpDownSameSample (t ch held : Nat) (s : State) : Host.Outcome State Fault Refusal :=
  s.run t fun s =>
    if s.regN (o6400.FORMAT + 256 * ch) ≠ 2 then s else State.acceptLevels ch { a := true, b := true, held := held } s

/-- R45: a preset loads the count and the high-water mark, and re-arms the index checks of the channel. -/
def State.presetCount (ch v : Nat) (s : State) : State :=
  let c := s.channel ch
  let s := (s.setCount ch v).setChannel ch { c with index := none, back := false, missing := false }
  if s.pacer = some ch then
    let s := (s.setReg o6402.HWM_COUNT ((v % 2 ^ 48 : Nat) : Int)).setReg o6402.DEPTH 0
    { s with pos := { s.pos with frac := 0, excursion := false } }
  else s

/-- R69: a write of `FORMAT` clears `FAILED`, and a recovered channel becomes the checking channel with a new window. -/
def State.writeFormat (ch v : Nat) (s : State) : State :=
  let s := (s.setReg (o6400.FORMAT + 256 * ch) (v : Int)).setStatus ch 8 false
  let src := s.regN o3101.SOURCE
  let other : Bool := match s.pacer with
    | some p => decide (p ≠ ch ∧ ((src = 3 ∨ src = 4) ∨ (src = 6 ∧ p = 5 ∧ ch = 0)))
    | none => false
  if other then
    let s := { s with pos := { s.pos with checking := some ch, window := CheckWindow.fresh } }
    s.showRoles
  else s

/-- R47 to R50: the index of a channel at this moment. -/
def State.indexAt (ch : Nat) (s : State) : State :=
  let k := 256 * ch
  let n := s.countOf ch
  let c := s.channel ch
  let nominal := s.regN (o6400.INDEX_NOMINAL + k)
  let s := s.setReg (o6400.LAST_INDEX_COUNT + k) (n : Int)
  let good (s : State) : State := if s.regN (o6400.INDEX_SOURCE + k) = 1 then s.setStatus ch 5 true else s
  let s := match c.index with
    | some x =>
      if nominal = 0 then good s
      else if c.back then s
      else
        let delta := signed 48 (n + (2 ^ 48 - x.count)) - nominal
        let s := s.setReg (o6400.LAST_INDEX_DELTA + k) delta
        if (s.regN (o6400.INDEX_TOL + k) : Int) < delta.natAbs then
          ((((s.setStatus ch 4 true).noteIndicator ch).noteBad ch).incReg (o6400.INDEX_FAULTS + k)).raise 81 ch 0 20
        else
          let s := if s.statusBit ch 4 then s.noteBad ch else s
          good (s.setStatus ch 4 false)
    | none => if nominal = 0 then good s else s
  let s := s.setChannel ch { s.channel ch with index := some (s.latchAt ch s.now), back := false, missing := false }
  if s.pos.originDue ∧ s.pacer = some ch then
    { s.setReg o6402.LINE_ORIGIN (n : Int) with pos := { s.pos with originDue := false } }
  else s

/-- R47: a change of A or B in the same sample is applied first. -/
def State.sameSample (ch : Nat) (edge : Option Levels) (s : State) : State :=
  match edge with
  | some x => s.acceptLevels ch x
  | none => s

/-- INDEX_EVENT (R39, R47): a rising edge of Z of a channel whose `INDEX_SOURCE` is 1, and what A and B did in its sample. -/
def execIndexEvent (t ch held : Nat) (edge : Option Levels) (s : State) : Host.Outcome State Fault Refusal :=
  s.run t fun s =>
    let s := s.sameSample ch edge
    if s.mode ≠ 7 ∧ ch < 2 ∧ s.regN (o6400.FILTER_NS + 256 * ch) ≤ held ∧ s.regN (o6400.INDEX_SOURCE + 256 * ch) = 1 then
      s.indexAt ch
    else s

/-- R49: the count has advanced by more than 1.5 × `INDEX_NOMINAL` since the last index. -/
def State.indexMissing (ch : Nat) (s : State) : State :=
  let k := 256 * ch
  let c := s.channel ch
  let nominal := s.regN (o6400.INDEX_NOMINAL + k)
  match c.index with
  | some x =>
    if ch < 2 ∧ nominal ≠ 0 ∧ c.missing = false ∧
        (3 * nominal : Int) < 2 * signed 48 (s.countOf ch + (2 ^ 48 - x.count)) then
      let s := s.setChannel ch { c with missing := true }
      ((((s.setStatus ch 4 true).noteIndicator ch).noteBad ch).incReg (o6400.INDEX_FAULTS + k)).raise 81 ch 0 20 true
    else s
  | none => s

/-- INDEX_MISSING (R49). -/
def execIndexMissing (t ch : Nat) (s : State) : Host.Outcome State Fault Refusal :=
  s.runOn t (State.indexMissing ch)

/-- R51, R52: a rising edge on WHEELn. -/
def State.wheelTooth (ch : Nat) (s : State) : State :=
  let k := 256 * ch
  let t := s.now
  let c := s.channel ch
  let gap := c.wheelEdge.map fun e => t - e
  let isRef : Bool := match gap, c.wheelGap with
    | some g, some g0 =>
      if s.regN (o6400.WHEEL_MODE + k) = 0 then decide (3 * g0 < 2 * g) else decide (4 * g < 3 * g0)
    | _, _ => false
  let c := { c with wheelEdge := some t, wheelGap := gap, teeth := c.teeth + 1 }
  if isRef then
    if c.refSeen ∧ c.teeth ≠ s.regN (o6400.WHEEL_TEETH + k) then
      let c := { c with wheelEdge := none, wheelGap := none, teeth := 0, refSeen := false, goodRevs := 0 }
      ((s.setChannel ch c).setStatus ch 5 false).raise 82 ch 1 20
    else
      let good := if c.refSeen then min 2 (c.goodRevs + 1) else c.goodRevs
      let s := s.setChannel ch { c with teeth := 0, refSeen := true, goodRevs := good, wheelRef := some (s.latchAt ch t) }
      let s := if good = 2 then s.setStatus ch 5 true else s
      if s.regN (o6400.INDEX_SOURCE + k) = 2 then s.indexAt ch else s
  else s.setChannel ch c

/-- WHEEL_EDGE (R39, R51): a rising edge of WHEELn, and what A and B did in its sample. -/
def execWheelEdge (t ch held : Nat) (edge : Option Levels) (s : State) : Host.Outcome State Fault Refusal :=
  s.run t fun s =>
    let s := s.sameSample ch edge
    if s.mode ≠ 7 ∧ ch < 2 ∧ s.regN (o6400.FILTER_NS + 256 * ch) ≤ held then s.wheelTooth ch else s

/-- R55: no edge for `STANDSTILL_MS`, timed from the release of RESET_N before the first edge. -/
def State.standstill (ch : Nat) (s : State) : State :=
  let c := s.channel ch
  let since := c.times.headD s.sys.releasedAt
  if ch < 2 ∧ s.statusBit ch 3 = false ∧ s.regN (o6400.STANDSTILL_MS + 256 * ch) * 1000000 ≤ s.now - since then
    let s := if s.pacer = some ch then s.extrapolate s.now else s
    let s := s.setChannel ch { c with run := 0 }
    let s := (s.setStatus ch 3 true).setStatus ch 1 false
    (s.noteIndicator ch).raise 83 ch 0 20
  else s

/-- WEB_STANDSTILL (R55). -/
def execWebStandstill (t ch : Nat) (s : State) : Host.Outcome State Fault Refusal :=
  s.runOn t (State.standstill ch)

/-- Net lines at 1200 lpi of a source's net counts, as a fraction (R59, R67). -/
def State.netLines (s : State) (ch : Nat) (counts : Int) : Int × Nat :=
  let sc := s.scaleOf ch
  (counts * sc.1, sc.2)

/-- Whether a source stands still (R67): `STANDSTILL`, or for the step generator an axis 0 that does not move. -/
def State.still (s : State) (ch : Nat) : Bool :=
  if ch = 5 then decide (s.reg o6000.VELOCITY = 0) else s.statusBit ch 3

/-- R68: whether a source shows a fault indicator within the window: quadrature errors or `INDEX_BAD` seen in it, either
bit of Table 02-9 now, or the standstill of R67. -/
def State.suspect (s : State) (ch : Nat) (quad bad early : Bool) : Bool :=
  quad || bad || s.statusBit ch 4 || s.statusBit ch 8 || early

/-- R68, R69: a window that disagrees; `early` names the source whose standstill made it disagree at once. -/
def State.disagree (early : Option Nat) (s : State) : State :=
  match s.pacer, s.pos.checking with
  | some a, some c =>
    let w := s.pos.window
    let badA := s.suspect a w.quadActive w.badActive (decide (early = some a))
    let badC := s.suspect c w.quadCheck w.badCheck (decide (early = some c))
    let s := { s with pos := { s.pos with window := { CheckWindow.fresh with good := w.good, atEdge := w.atEdge } } }
    if badA = badC then
      let s := { s with pos := { s.pos with window := CheckWindow.fresh } }
      (s.setReg o3101.XCHECK_UNRESOLVED 1).raise 86 0xFF 1 20
    else if badC then
      let s := { s with pos := { s.pos with window := CheckWindow.fresh } }
      (s.dropChecking c).raise 86 c 1 20
    else if s.regN o3101.FAILOVER = 1 then
      let s := { s with pos := { s.pos with window := w } }
      let s := if a < 2 then s.setStatus a 8 true else s
      s.failover c
    else
      let s := { s with pos := { s.pos with window := CheckWindow.fresh } }
      let s := s.raise 86 a 1 20
      if s.statusBit a 8 then s.pacingLost else s
  | _, _ => s

/-- R67: whether the window has ended, and then whether it disagrees. -/
def State.windowEnd (s : State) : State :=
  match s.pacer, s.pos.checking with
  | some a, some c =>
    let w := s.pos.window
    let la := s.netLines a w.active
    let lc := s.netLines c w.checking
    if (s.regN o3101.XCHECK_WINDOW * la.2 : Nat) ≤ la.1.natAbs then
      if s.regN o3101.XCHECK_TOL * (la.2 * lc.2) < 16 * (la.1 * lc.2 - lc.1 * la.2).natAbs then s.disagree none
      else
        let s := { s with pos := { s.pos with window := CheckWindow.fresh } }
        s.setReg o3101.XCHECK_UNRESOLVED 0
    else s
  | _, _ => s

/-- XCHECK_WINDOW_END (R67). -/
def execXcheckWindowEnd (t : Nat) (s : State) : Host.Outcome State Fault Refusal :=
  s.runOn t State.windowEnd

/-- R67: 64 net lines of one source while the other stands still. -/
def State.earlyDisagree (s : State) : State :=
  match s.pacer, s.pos.checking with
  | some a, some c =>
    let w := s.pos.window
    let la := s.netLines a w.active
    let lc := s.netLines c w.checking
    if 64 * la.2 ≤ la.1.natAbs ∧ s.still c then s.disagree (some c)
    else if 64 * lc.2 ≤ lc.1.natAbs ∧ s.still a then s.disagree (some a)
    else s
  | _, _ => s

/-- XCHECK_EARLY_DISAGREE (R67). -/
def execXcheckEarlyDisagree (t : Nat) (s : State) : Host.Outcome State Fault Refusal :=
  s.runOn t State.earlyDisagree

end Sys2Proof.Machine
end

