-- ==== Sys2Proof/Machine/Effects.lean ====
section
/-! DEFINITION. Machine/Effects.lean: what a written value does beside being held: the effect of every subindex that
commands something, by the rule of its chapter. -/
namespace Sys2Proof.Machine

/-- ENABLE of 4000h: 0 stops the link, 1 brings it up (Table 03-10). -/
def State.writeLinkEnable (s : State) (on : Bool) : State :=
  let s := s.setFlag o4000.ENABLE on
  if on = false then ((((s.setRegN o4000.STATE 0).setRegN o4000.RATE 0).setRegN o4000.WIDTH 0).showLanes 0 0 0).startTraining
  else if s.regN o4000.STATE = 0 then s.resetLink.enterDetect else s

/-- LOOP (R105): a loop is entered, or left by a full bring-up. -/
def State.writeLoop (s : State) (v : Nat) : State :=
  let s := s.setRegN o4003.LOOP v
  let state := s.regN o4000.STATE
  if state = 0 then s
  else if v ≠ 0 then ((s.setRegN o4000.STATE 7).setRegN o4000.WIDTH 0).startTraining
  else if state = 7 then s.enterDetect else s

/-- PRBS_RUN (R105): 1 clears the error counts. -/
def State.writePrbs (s : State) (on : Bool) : State :=
  let s := s.setFlag o4003.PRBS_RUN on
  if on then (List.range 8).foldl (fun s n => s.setRegN (o4003.PRBS_ERRORS + n) 0) s else s

/-- TRAIN (R145): both channels train; what is found comes with the command, and is open where it does not. -/
def State.writeTrain (s : State) : State :=
  match s.dram.found with
  | some f => s.trained f
  | none =>
    let (result, s) := s.draw 2
    let (s, eyes) := (List.range 20).foldl (fun (a : State × List Nat) _ =>
      let (e, s) := a.1.draw 32
      (s, a.2 ++ [e])) (s, [])
    s.trained { steps := [List.replicate 7 (!bit result 0), List.replicate 7 (!bit result 1)], eyes := eyes, rfm := s.dram.rfm }

/-- The line tail of a camera write: buffers and blindness are judged again. -/
def State.cameraChanged (s : State) (p : Nat) : State := (s.refreshBuffers p).judgeBlind p

/-- GAIN_CDB (R291, R341): a new generation; a gain with its compensation above 4,800 is too much for the light. -/
def State.writeSetting (s : State) (p k : Nat) (v : Int) : State :=
  let s := (s.setReg k v).newSettings p
  if 4800 < s.reg (o5002.GAIN_CDB + p) + s.reg (o5402.GAIN_COMP_CDB + p) then s.lampHot p else s

/-- REG_LIMIT (R321): a raised limit lets the ranks that it has stopped go on. -/
def State.writeRegLimit (s : State) (v : Int) : State :=
  let raised := decide (s.reg o5204.REG_LIMIT < v)
  let s := s.setReg o5204.REG_LIMIT v
  let free (z : Zone) : Zone := { z with even := { z.even with limited := false }, odd := { z.odd with limited := false } }
  if raised then
    s.withInspect fun q => { q with units := q.units.map fun (u : Inspect) => { u with zones := u.zones.map free } }
  else s

/-- RESTEP (R392): the clock returns to ACQUIRING; nothing while it is in FREE_RUN or INVALID. -/
def State.restep (s : State) : State :=
  let st := s.regN o7000.STATE
  if 1 ≤ st ∧ st ≤ 4 then
    { (s.setRegN o7000.STATE 1) with time := { s.time with offsets := [], within := 0, lastTheta := none, jumps := 0 } }
  else s

/-- RING_ROLE (R377): the ring protocol begins again. -/
def State.writeRingRole (s : State) (v : Nat) : State :=
  let s := (s.setRegN o7200.RING_ROLE v).setRegN o7200.RING_STATE 0
  { s with net := { s.net with blocked := false, lastCheck := s.now } }

/-- Trigger 7 fires the control cycle of the motion pair every `MOTION_CYCLE_US` (R398). -/
def State.armMotionCycle (s : State) : State :=
  let us := s.regN o7003.MOTION_CYCLE_US
  s.armTrigger 7 ((s.localTime s.now + us * 1000) % 2 ^ 64) (place 1 31 31 + us)

/-- A role secret is stored, and the role's other sessions end (R422). -/
def State.writeSecret (s : State) (role : Nat) (o : Octets) (who : Asker) : State :=
  let s := { s with flash := { s.flash with secrets := s.flash.secrets.set (role - 1) o } }
  s.closeRole role who.id

/-- VERIFY_ITEM (R517): a run starts. -/
def State.startVerify (s : State) (item : Nat) : State :=
  let s := ((s.setRegN o7801.VERIFY_ITEM item).setRegN o7801.VERIFY_STATE 1).setRegN o7801.VERIFY_REASON 0
  { s with power := { s.power with verifyItem := some item } }

/-- LOAD (R444): the stored configuration becomes the defaults; a save that runs writes them too (log entry 100). -/
def State.loadDefaults (s : State) : State :=
  { (s.setRegN o1020.STORED_CRC (Config.storedCrc [] % 2 ^ 32)) with
    flash := s.flash.writeCopy [] true, modes := { s.modes with saving := s.modes.saving.map fun _ => [] } }

/-- SAVE (R443): a save starts; it copies the values of this moment. -/
def State.startSave (s : State) : State :=
  { (s.setRegN o1010.SAVE_STATUS 1) with modes := { s.modes with saving := some s.saveValues } }

/-- REQUEST (R452). -/
def State.writeRequest (s : State) (v : Nat) (who : Asker) : State :=
  s.requestMode v { kind := 3, master := who.master, role := who.role, reqId := who.reqId, session := who.id }

/-- Commands of chapters 02 to 05; none for another subindex. -/
def State.applyPress (s : State) (k : Nat) (v : Int) : Option State :=
  let n := v.toNat
  if k = o3101.SOURCE then some (s.setReg k v).selectSource
  else if k = o6400.FORMAT ∨ k = o6400.FORMAT + 256 then some (s.writeFormat ((k - o6400.FORMAT) / 256) n)
  else if k = o6400.COUNT_PRESET ∨ k = o6400.COUNT_PRESET + 256 then some (s.presetCount ((k - o6400.COUNT_PRESET) / 256) n)
  else if k = o6402.ORIGIN_MODE then some (s.settleEnd.setReg k v)
  else if k = o3100.PIXEL_BITS then some (s.abortWaiting.setReg k v)
  else if k = o3100.LINE_PITCH then some ((s.setReg k v).refreshGeometry)
  else if k = o4000.ENABLE then some (s.writeLinkEnable (n == 1))
  else if k = o4000.AUTO_WIDEN then
    let s := s.setReg k v
    some (if n = 1 then s.widen else s)
  else if k = o4000.RETRAIN then some (if n = 1 ∧ s.regN o4000.STATE = 4 then s.beginRetrain else s)
  else if k = o4003.LOOP then some (s.writeLoop n)
  else if k = o4003.PRBS_RUN then some (s.writePrbs (n == 1))
  else if k = o4400.CHANNEL_RESTORE then
    let lost := (List.range 2).find? fun c => !s.channelUp c
    some (if n = 1 then s.withDram fun d => { d with restoring := lost } else s)
  else if k = o4405.TRAIN then some (if n = 1 then s.writeTrain else s)
  else if k = o4802.LOG_SEQ then some (s.withPages fun q => { q with logRead := n })
  else none

/-- Commands of chapters 06 to 09. -/
def State.applyBar (s : State) (k : Nat) (v : Int) (o : Octets) : Option State :=
  let n := v.toNat
  if k = o3000.DIES then some ((s.setDies n).fitDies n)
  else if k = o3000.RANK_OFFSET ∨ among k o3001.ROW_OFFSET 4 then some ((s.setReg k v).refreshGeometry)
  else if k = o3020.FORCE_TAKEOVER then some (s.takeOver n 5 s.now)
  else if among k o3401.COLUMN_HEALTH 16 then some (s.writeWindow (k - o3401.COLUMN_HEALTH) n)
  else if k = o3403.MAP then some (s.writeMap o)
  else if k = o3802.RETRY then some (s.dieTrain n)
  else none

/-- Commands of chapters 10 to 12. -/
def State.applyVision (s : State) (k : Nat) (v : Int) : Option State :=
  let n := v.toNat
  if among k o5000.BIND 2 then some (s.bindPipeline (k - o5000.BIND) n)
  else if among k o5001.TILE 16 then some ((s.setReg k v).cameraChanged ((k - o5001.TILE) / 8))
  else if among k o5002.EXPOSURE_NS 2 then some (s.writeSetting (k - o5002.EXPOSURE_NS) k v)
  else if among k o5002.GAIN_CDB 2 then some (s.writeSetting (k - o5002.GAIN_CDB) k v)
  else if among k o5003.VIEW_OFFSET 2 then some ((s.setReg k v).cameraChanged (k - o5003.VIEW_OFFSET))
  else if among k o5003.FRAME_LINES 2 then some ((s.setReg k v).cameraChanged (k - o5003.FRAME_LINES))
  else if k = o5003.HOST_HOLD then some (s.setReg k v).dropHeld
  else if k = o5003.HOST_RELEASE then some (s.hostRelease n)
  else if among k o5004.RESTART 2 then
    some (s.writeRestart (k - o5004.RESTART) n)
  else if among k o5200.COLUMN_ORIGIN 2 then some ((s.setReg k v).judgeBlind (k - o5200.COLUMN_ORIGIN))
  else if k = o5203.APPROVE then some (s.approve n)
  else if k = o5203.REJECT then some (s.reject n)
  else if k = o5204.REG_LIMIT then some (s.writeRegLimit v)
  else if among k o5400.ENABLE 2 then some (s.enableLamp (k - o5400.ENABLE) (n == 1))
  else if among k o5403.RESTORE 2 then some (if n = 1 then s.startTest (k - o5403.RESTORE) else s)
  else none

/-- Commands of chapters 13 and 14. -/
def State.applyMotion (s : State) (k : Nat) (v : Int) (o : Octets) : Option State :=
  let n := v.toNat
  if ofAxis k o6000.COMMAND then some (s.runMotion (axisOf k o6000.COMMAND) (readMotion o))
  else if ofAxis k o6000.DECEL then some (s.writeDecel (axisOf k o6000.DECEL) n)
  else if ofAxis k o6000.POSITION_PRESET then some (s.presetAxis (axisOf k o6000.POSITION_PRESET) v)
  else if ofAxis k o6011.LEARN then some (if n = 1 then s.learnStart (axisOf k o6011.LEARN) else s)
  else if k = o7000.RESTEP then some (if n = 1 then s.restep else s)
  else if among k o7003.TRIGGER_TIME 6 then
    let i := k - o7003.TRIGGER_TIME
    some (s.armTrigger i n (s.regN (o7003.TRIGGER_CTRL + i)))
  else if among k o7003.TRIGGER_CTRL 6 then
    let i := k - o7003.TRIGGER_CTRL
    some (s.armTrigger i (s.regN (o7003.TRIGGER_TIME + i)) n)
  else if k = o7003.MOTION_CYCLE_US then some (s.setReg k v).armMotionCycle
  else if among k o7200.PORT_ENABLE 2 then
    let s := s.setReg k v
    some (if n = 0 then s.setPort (k - o7200.PORT_ENABLE + 1) false else s)
  else if k = o7200.RING_ROLE then some (s.writeRingRole n)
  else none

/-- Commands of chapters 15 to 19. -/
def State.applySystem (s : State) (k : Nat) (v : Int) (o : Octets) (who : Asker) : Option State :=
  let n := v.toNat
  if among k o2102.SECRET_OPERATOR 3 then some (s.writeSecret (k + 1 - o2102.SECRET_OPERATOR) o who)
  else if k = o1010.SAVE then some s.startSave
  else if k = o1011.LOAD then some s.loadDefaults
  else if k = o2000.REQUEST then some (s.writeRequest n who)
  else if k = o2801.CLEAR ∨ k = o2801.CLEAR + 1 then some (s.clearFlags (k - o2801.CLEAR) n 0)
  else if k = o7E02.SWAP then some s.swapStart
  else if k = o7E02.CONFIRM then some s.swapConfirm
  else if k = o7801.VERIFY_ITEM then some (s.startVerify n)
  else if k = o7801.CLEAR_TRIM then some (s.setTrim n none)
  else none

/-- The first answer of two. -/
def orElse {α : Type} (a b : Option α) : Option α :=
  match a with
  | some x => some x
  | none => b

/-- An accepted write of a class other than B, or of the staged health map, takes effect (R437 to R441): the command of
its subindex, and otherwise the value is held. -/
def State.applyWrite (s : State) (k : Nat) (v : Int) (o : Octets) (who : Asker) : State :=
  let command := orElse (s.applyPress k v) (orElse (s.applyBar k v o) (orElse (s.applyVision k v)
    (orElse (s.applyMotion k v o) (s.applySystem k v o who))))
  match command with
  | some s' => s'
  | none => if isOctets k then s.setBlob k o else s.setReg k v

end Sys2Proof.Machine
end

