-- ==== Sys2Proof/Machine/Computed.lean ====
section
/-! DEFINITION. Machine/Computed.lean: the subindices whose value is made at a read from the state of their block, and the
two reads that change state (R434: captures by R400, the time fraction by R389). -/
namespace Sys2Proof.Machine

/-- ASCII digits of a number. -/
def digits : Nat → Nat → Octets
  | 0, _ => []
  | fuel + 1, n => if n < 10 then [BitVec.ofNat 8 (48 + n)] else digits fuel (n / 10) ++ [BitVec.ofNat 8 (48 + n % 10)]

/-- `IMAGE_VERSION` of the running image (R8). -/
def State.runningVersion (s : State) : Nat := s.regN (o7E00.IMAGE_VERSION + s.regN o7E00.RUNNING)

/-- The texts of 1008h, 1009h and 100Ah (Table 16-5). -/
def State.text (s : State) (index : Nat) : Octets :=
  if index = 0x1008 then [0x4F, 0x52, 0x4E, 0x2D, 0x35, 0x31, 0x32, 0x30]
  else if index = 0x1009 then [BitVec.ofNat 8 Config.stepping.1, BitVec.ofNat 8 (48 + Config.stepping.2)]
  else
    let v := s.runningVersion
    (digits 3 (bits v 31 24) ++ [0x2E] ++ digits 3 (bits v 23 16) ++ [0x2E] ++ digits 5 (bits v 15 0)).take 16

/-- A session entry (Table 15-12). -/
def State.sessionEntry (s : State) (slot : Nat) : Nat :=
  match s.aqlet.sessions.find? fun x => x.slot == slot with
  | none => 0
  | some x =>
    let idle := min 2047 ((s.now - x.lastValid) / 1000000000)
    match x.path with
    | .network => place x.role 63 62 + place (if x.isOpen then 2 else 1) 61 60 + 2 ^ 59 + place idle 58 48 + place x.src 47 0
    | .raster => place x.role 63 62 + place (if x.isOpen then 2 else 1) 61 60 + place idle 58 48

/-- The audit records that the chip holds, newest first. -/
def State.auditRecords (s : State) : List AuditRecord := s.aqlet.unwritten ++ s.flash.audit

/-- The journal records that the chip holds, newest first. -/
def State.journalRecords (s : State) : List JournalRecord := s.events.journal ++ s.flash.journal

/-- R426: up to 1,024 records from `AUDIT_SELECT` onward. -/
def State.auditWindow (s : State) : Octets :=
  let l := s.auditRecords.reverse.filter fun r => decide (s.regN o2103.AUDIT_SELECT ≤ r.seq)
  (l.take 1024).flatMap fun r => octetsOfWords r.words

/-- Table 18-15: up to 2,048 records from `JOURNAL_SELECT` onward. -/
def State.journalWindow (s : State) : Octets :=
  let l := s.journalRecords.reverse.filter fun r => decide (s.regN o2803.JOURNAL_SELECT ≤ r.seq)
  (l.take 2048).flatMap fun r => octetsOfWords r.words

/-- The pages with lines in progress. -/
def State.firingPages (s : State) : List Page := s.pageStore.pages.filter s.isFiring

/-- R362: the mean chop frequency of the last 1 ms over both phases in kHz; its rounding is open (log entry 5). -/
def State.chopKhz (s : State) (n : Nat) : Int :=
  divOpen 1362 (((s.axis n).chops.filter fun e => decide (s.now ≤ e + 1000000)).length : Nat) 2

/-- What the identity memory of the die that `ID_DIE` names says (Table 09-10); what it says of a die that has not been
read is open (log entry 6). -/
def State.identityValue (s : State) (k : Nat) : Int :=
  let d := s.regN o3803.ID_DIE
  let m := (s.die d).memory
  let l := s.lifeNow d
  if among k o3803.FIRES 4 then ((l.fires.getD (k - o3803.FIRES) 0 : Nat) : Int)
  else if k = o3803.POWERED_MIN then ((l.poweredMin : Nat) : Int)
  else if m.isEmpty then Config.unstated 3803 k
  else if k = o3803.DIE_VENDOR then ((memNum m 2 4 : Nat) : Int)
  else if k = o3803.RES_RANK then ((memNum m 16 1 : Nat) : Int)
  else if k = o3803.DW_RANK then ((memNum m 17 1 : Nat) : Int)
  else if k = o3803.DIE_SOFT_LIMIT then signed 16 (memNum m 18 2)
  else if k = o3803.DIE_HARD_LIMIT then signed 16 (memNum m 20 2)
  else ((memNum m 22 2 : Nat) : Int)

/-- `SPEED` of a channel, bounded by the time since its latest edge (R54, R55). -/
def State.speedNow (s : State) (ch : Nat) : Int :=
  let c := s.channel ch
  let v := c.speed
  let since := s.now - c.times.headD 0
  let v := if v.1 * since ≤ v.2 then v else (1, since)
  let d : Int := if s.isBackward ch then -1 else 1
  divOpen 54 (d * (v.1 * 1000000000 : Nat)) v.2

/-- `STATUS` of a channel, with SIGNAL_OK of this instant (Table 02-9). -/
def State.statusNow (s : State) (ch : Nat) : Nat :=
  setBit (s.regN (o6400.STATUS + 256 * ch)) 0 ((s.channel ch).quad.all fun q => decide (1000000 ≤ s.now - q))

/-- Computed values of chapters 02 to 05, as a number; none for another subindex. -/
def State.computedPress (s : State) (k : Nat) : Option Int :=
  let num (n : Nat) : Option Int := some (n : Int)
  if k = o6402.FIRING_LINE then num (unsigned 64 s.firingLine)
  else if k = o6402.LINE_FRACTION then num (s.firingPos % 65536).toNat
  else if k = o6402.LINE_RATE then
    let r := s.lineRate
    some (divOpen 56 (r.1 * 1000000000 : Nat) r.2)
  else if k = o6400.SPEED ∨ k = o6400.SPEED + 256 then some (s.speedNow (k / 256 - 0x6400))
  else if k = o6400.STATUS ∨ k = o6400.STATUS + 256 then num (s.statusNow (k / 256 - 0x6400))
  else if k = o4400.SIZE_MIB then num (1024 * s.sizeGib)
  else if k = o4400.ECC_MODE then num (if s.regN o4400.DEVICE_WIDTH = 4 then 1 else 2)
  else if k = o4401.FREE_MIB then some (divOpen 1112 ((s.storeGranules - s.reservedGranules : Nat) : Int) 16384)
  else if k = o4401.STORE_MIB then num s.storeMib
  else if k = o4404.PAGES_OPEN then num (s.pageStore.pages.filter fun p => !p.committed).length
  else if k = o4404.PAGES_QUEUED then num (s.pageStore.pages.filter s.isQueued).length
  else if k = o4404.FIRING_TAG then
    match s.firingPages with
    | [] => none
    | p :: _ => num p.tag
  else if k = o4404.FIRING_PAGES then num s.firingPages.length
  else if k = o4406.HORIZON_LINES then num s.horizon
  else if k = o4406.MIRROR_USED_MIB then some (divOpen 1137 (s.mirrorGranules : Nat) 16384)
  else if k = o4406.MISSING_BLOCKS then num s.missingBlocks
  else if k = o4801.IN_VERIFY then
    num ((s.pageStore.queue0 ++ s.pageStore.queue1).filter fun a => match a with
      | .block _ _ _ _ => true
      | .commit _ _ => false).length
  else none

/-- Computed values of chapters 06 to 11. -/
def State.computedBar (s : State) (k : Nat) : Option Int :=
  let num (n : Nat) : Option Int := some (n : Int)
  if among k o3020.POLDER_STATUS 16 then
    let p := k - o3020.POLDER_STATUS
    num (statusWord (s.polder p) (s.polderLevel p))
  else if k = o3020.SPARE_STATUS then
    let level := match s.polders.serving with
      | some p => s.polderLevel p
      | none => 0
    num (statusWord s.polders.spare level)
  else if k = o3020.SERVING then num (s.polders.serving.getD 0xFF)
  else if k = o3020.SHADOWED then num (s.polders.shadowed.getD 0xFF)
  else if k = o3400.GOOD then num (s.nozzlesIn 0)
  else if k = o3400.WEAK then num (s.nozzlesIn 1)
  else if k = o3400.PROBATION then num (s.nozzlesIn 2)
  else if k = o3400.OUT then num (s.nozzlesIn 3)
  else if k = o3400.PENDING then num s.pendingHealth
  else if among k o3400.COLUMNS_3 4 then num (s.columnsWith (3 - (k - o3400.COLUMNS_3)))
  else if k = o3400.REFILL_LINES then num s.refillLines
  else if among k o3401.COLUMN_HEALTH 16 then num (s.windowByte (k - o3401.COLUMN_HEALTH))
  else if k = o3600.FIRING_TIME then num (fireTime s.now)
  else if k = o3600.FIT_SLOT then num s.fitSlot
  else if k = o3600.FIT_SPARE then some (fitSpare s.reg (s.regN o3000.DIES))
  else if k = o3600.PEAK_CURRENT ∨ k = o3600.PEAK_HEATERS then
    let p := peakOf s.reg s.fitSlot s.drawing
    if k = o3600.PEAK_HEATERS then num p.1 else some (divOpen 1241 (p.2.1 : Nat) p.2.2)
  else if k = o3610.HOTTEST_DIE then num ((s.hottest.map fun h => h.1).getD 0)
  else if k = o3610.HOTTEST_TEMP then some ((s.hottest.map fun h => h.2).getD 0)
  else if among k o3611.DIE_THERMAL 64 then num (s.thermalWord (k - o3611.DIE_THERMAL))
  else if k = o3800.DIES_UP then num (s.fittedDies.filter fun d => (s.die d).up).length
  else if among k o3801.DIE_LINK 64 then num (s.linkWord (k - o3801.DIE_LINK))
  else if o3803.DIE_VENDOR ≤ k ∧ k ≤ o3803.POWERED_MIN then some (s.identityValue k)
  else if among k o5200.EXPECT_DEPTH 2 then num (s.expectDepth (k - o5200.EXPECT_DEPTH))
  else none

/-- Computed values of chapters 13 to 19. -/
def State.computedSystem (s : State) (k : Nat) : Option Int :=
  let num (n : Nat) : Option Int := some (n : Int)
  let flag_ (b : Bool) : Option Int := some (if b then 1 else 0)
  if ofAxis k o6011.CHOP_KHZ then some (s.chopKhz (axisOf k o6011.CHOP_KHZ))
  else if k = o7000.LOCAL_TIME then num (s.localTime s.now)
  else if among k o2101.SESSION_ENTRY 8 then num (s.sessionEntry (k - o2101.SESSION_ENTRY))
  else if k = o2102.SECRETS_SET then num (maskOf ((List.range 3).filter fun i => s.secretSet (i + 1)))
  else if k = o2103.AUDIT_NEWEST then num s.aqlet.auditSeq
  else if k = o2103.AUDIT_OLDEST then num ((s.flash.audit.getLast?.map fun r => r.seq).getD 0)
  else if k = o2103.AUDIT_ERASED then num s.flash.erased
  else if k = o2803.JOURNAL_NEWEST then num s.events.journalSeq
  else if k = o2803.JOURNAL_OLDEST then num ((s.flash.journal.getLast?.map fun r => r.seq).getD 0)
  else if k = o1018.REVISION then
    num (place Config.stepping.1 31 24 + place Config.stepping.2 23 16 + s.runningVersion % 65536)
  else if k = o1018.SERIAL then num (Config.serial % 2 ^ 32)
  else if k = o1020.RUNNING_DIFFERS then flag_ s.runningDiffers
  else if k = o1020.B_PENDING then flag_ s.bPending
  else if k = o1030.OBJECT_COUNT then num objects.length
  else if k = o1030.SUB_COUNT then num subCount
  else if among k o7800.FACTORY_DATE 4 then num (Config.factoryDate (k - o7800.FACTORY_DATE) % 256)
  else none

/-- The value that a subindex of a numeric type reads as. -/
def State.computed (s : State) (k : Nat) : Int :=
  match orElse (s.computedPress k) (orElse (s.computedBar k) (s.computedSystem k)) with
  | some v => v
  | none => s.reg k

/-- The resistance map of the die that `MAP_DIE` names (Table 09-21). -/
def State.resistanceMap (s : State) : Octets :=
  let m := (s.die (s.regN o3805.MAP_DIE)).meter.map
  (List.range 4096).flatMap fun n => octetsOf 2 (Cells.get (fun _ => 0xFFFF) m n)

/-- A value of n octets that the spec leaves open (log entry 6). -/
def openOctets (n : Nat) (site : Nat) (at_ : Int) : Octets :=
  (List.range n).map fun (i : Nat) => BitVec.ofInt 8 (Config.unstated site (at_ * 256 + i))

/-- The octets that a subindex of an octet type reads as. One of fixed length that nothing has set reads zero. -/
def State.computedBlob (s : State) (k : Nat) : Octets :=
  let held := s.blob k
  if k / 256 = 0x1008 ∨ k / 256 = 0x1009 ∨ k / 256 = 0x100A then s.text (k / 256)
  else if k = o1030.DIRECTORY then directory
  else if k = o1030.DESCRIPTIONS then descriptions
  else if k = o2103.AUDIT_WINDOW then s.auditWindow
  else if k = o2803.JOURNAL_WINDOW then s.journalWindow
  else if k = o3403.MAP then s.mapOctets false
  else if k = o3403.CAUSE_MAP then s.mapOctets true
  else if k = o3803.DIE_SERIAL then
    let m := (s.die (s.regN o3803.ID_DIE)).memory
    if m.isEmpty then openOctets 8 3803 k else memAt m 6 8
  else if k = o3803.ID_MEMORY then (s.die (s.regN o3803.ID_DIE)).memory
  else if k = o3805.RES_MAP then s.resistanceMap
  else if k = o5203.HELD_PROPOSAL then
    match s.inspect.held[s.regN o5203.HELD_SELECT]? with
    | some h => octetsOfWords h.words
    | none => openOctets 32 5203 (s.reg o5203.HELD_SELECT)
  else if k = o7200.MAC_ADDRESS then octetsOf 6 Config.mac
  else if held.isEmpty then
    match rowOf k with
    | some r => if r.type = .octets then List.replicate r.len 0 else []
    | none => []
  else held

/-- R389, R400: the reads that change state. -/
def State.noteRead (s : State) (k : Nat) : State :=
  if k = o7000.LOCAL_TIME then s.setRegN o7000.LOCAL_FRACTION (s.localFine s.now % 65536).toNat
  else if among k o7004.CAPTURE 10 then s.captureRead (k - o7004.CAPTURE)
  else s

end Sys2Proof.Machine
end

