-- ==== Sys2Proof/Machine/Lanes.lean ====
section
/-! DEFINITION. Machine/Lanes.lean: chapter 03, the lane layer: what the receive lanes carry (R74, R77–R82, R101), and the
block position that the chip sends (R78, R79, R81, R84, R96). -/
namespace Sys2Proof.Machine

/-! ### Receiving -/

/-- The block lock of lane n (R77); `LANE_STATUS` holds whether it has lock. -/
def State.lockOf (s : State) (n : Nat) : BlockLock :=
  { locked := bit (s.regN (o4001.LANE_STATUS + n)) 0, tested := (s.unit n).tested, invalid := (s.unit n).invalid }

/-- What lane n carries, read by the chip: its lock where `blocks` begin and after them, the blocks without their scrambling and
with the right polarity, none of them without lock, the line bits before the next block, and the polarity. -/
structure LaneHeard where
  before   : BlockLock
  after    : BlockLock
  blocks   : List LineBlock
  last     : Nat
  inverted : Bool

/-- Whether a block is a control block of Table 03-2. -/
def isControl (b : LineBlock) : Bool := b.sync == 2 && b.isValid

/-- R74, R77: lane n hears a run. A lane that gains lock takes the polarity in which it reads control blocks (log entry 47). -/
def State.hearRun (s : State) (n : Nat) (r : LaneRun) : LaneHeard :=
  let before := (s.lockOf n).seeClean r.clean
  let d := descrambleRun (r.last.getD (s.unit n).rxBits) r.blocks
  let other := d.1.map LineBlock.invert
  let inverted :=
    if (s.lockOf n).locked then bit (s.regN (o4001.LANE_STATUS + n)) 4 else !d.1.any isControl && other.any isControl
  { before := before, after := r.blocks.foldl (fun x b => x.see b.syncOk) before,
    blocks := if before.locked then (if inverted then other else d.1) else [], last := d.2, inverted := inverted }

/-- What the 8 lanes carry, read by the chip; a lane that the chip may not use is idle (Table 03-16). -/
def State.hearAll (s : State) (x : Reception) : List LaneHeard :=
  (List.range 8).map fun n =>
    s.hearRun n (if bit s.laneLimit n then x.lanes.getD n { clean := 0, last := none, blocks := [] }
      else { clean := 0, last := none, blocks := [] })

/-- The blocks of lane n. -/
def blocksOf8 (h : List LaneHeard) (n : Nat) : List LineBlock := match h[n]? with
  | some l => l.blocks
  | none => []

/-- The columns of a list of lanes: per block position, each lane's block where it has one. -/
def columnsOf (h : List LaneHeard) (lanes : List Nat) : List (List (Option LineBlock)) :=
  (List.range ((lanes.map fun n => (blocksOf8 h n).length).foldl max 0)).map fun i => lanes.map fun n => (blocksOf8 h n)[i]?

/-- R78: whether a block position is a column of one type on every lane that carries a block. -/
def columnIs (type : Nat) (c : List (Option LineBlock)) : Bool :=
  (c.any fun b => b.isSome) && c.all fun b => b.all fun b => b.isType type

/-- R84: the link blocks of the lanes that packets are striped over, AM, FILL and LINK columns taken out. A lane without lock
gives a data block (log entry 47). -/
def State.linkBlocks (s : State) (h : List LaneHeard) : List LineBlock :=
  ((columnsOf h (lanesOf s.link.lanes.stripe)).filter fun c =>
    !(columnIs blockAM c || columnIs blockFILL c || columnIs blockLINK c)).flatMap fun c =>
      c.map fun b => b.getD { sync := 1, data := 0 }

/-- The packet that a reception carries (R83, R84). -/
def State.packetIn (s : State) (x : Reception) : Option Packet := packetAmong (s.linkBlocks (s.hearAll x))

/-- The lanes in use that are not failed. -/
def State.workingLanes (s : State) : List Nat := lanesOf (s.regN o4000.ACTIVE_LANES ||| s.regN o4000.STANDBY_LANES)

/-- R102: the LINK value that at least 2 of 4 consecutive columns carry on every lane. -/
def State.linkIn (s : State) (x : Reception) : Option Nat :=
  let h := s.hearAll x
  let cols := ((columnsOf h s.workingLanes).dropWhile fun c => !columnIs blockLINK c).take 4
  let values := (cols.filter (columnIs blockLINK)).filterMap fun c =>
    match c.filterMap id with
    | b :: rest => if rest.all fun d => d.fields == b.fields then some b.fields else none
    | [] => none
  values.find? fun v => decide (2 ≤ (values.filter fun w => w == v).length)

/-- Octets 1–7 of the last block of a type that lane n carries. -/
def lastOf (h : List LaneHeard) (type n : Nat) : Option Nat :=
  ((blocksOf8 h n).reverse.find? fun b => b.isType type).map fun b => b.fields

/-- R82: one column received while the chip's clock takes `drain` out: a FILL column is deleted while the buffer is more than
half full, and FILL is inserted next to it while it is less than half full. Level, columns deleted, columns inserted. -/
def elasticStep (level drain : Nat) (fill : Bool) : Nat × Nat × Nat :=
  let level := min 32 (level + 1 - drain)
  if fill = false then (level, 0, 0)
  else if 16 < level then (level - 1, 1, 0)
  else (16, 0, 16 - level)

/-- R82: the elastic buffer over the columns of a reception. -/
def State.elasticRun : List Nat → List (List (Option LineBlock)) → State → State
  | _, [], s => s
  | drains, c :: rest, s =>
    let e := elasticStep s.link.lanes.elastic (drains.headD 1) (columnIs blockFILL c)
    let s := (s.addReg o4002.FILL_DELETED e.2.1).addReg o4002.FILL_INSERTED e.2.2
    State.elasticRun (drains.drop 1) rest (s.withLanes fun l => { l with elastic := e.1 })

/-- A cursor after a request of a TRN block, and its status (Table 03-9): hold, increase, decrease, preset. -/
def cursorAfter (value limit preset request : Nat) : Nat × Nat :=
  let v := match request with
    | 0 => value
    | 1 => min limit (value + 1)
    | 2 => value - 1
    | _ => preset
  (v, if request = 0 then 0 else if v = 0 then 2 else if v = limit then 3 else 1)

/-- A preset of R76: the place tells which: 0 pre-cursor, 1 post-cursor, 2 peaking, 3 on the taps (log entry 6). -/
def presetOf (place_ limit : Nat) : Nat := (Config.unstated 76 place_ % (limit + 1)).toNat

/-- R76: the equalisers at their presets. -/
def presetEqualiser : Equaliser :=
  { pre := presetOf 0 15, post := presetOf 1 31, ctle := presetOf 2 15, taps := (List.range 8).map fun i => presetOf (3 + i) 255 }

/-- The requests of one TRN block of the peer act on the transmitter of lane n (R76, R96). -/
def Lane.onTrn (u : Lane) (f : Nat) : Lane :=
  let a := cursorAfter u.eq.pre 15 (presetOf 0 15) (bits f 37 36)
  let b := cursorAfter u.eq.post 31 (presetOf 1 31) (bits f 35 34)
  { u with eq := { u.eq with pre := a.1, post := b.1 }, preStat := a.2, postStat := b.2 }

/-- PRBS31 errors of a run of blocks, and the last 31 bits (R105). -/
def prbsRun : Nat → List LineBlock → Nat × Nat
  | h, [] => (0, h)
  | h, b :: rest =>
    let e := prbsErrors h b.line
    let r := prbsRun e.2 rest
    (e.1 + r.1, r.2)

/-- Whether lane n runs PRBS31 (Table 03-20). -/
def State.prbsOn (s : State) (n : Nat) : Bool := s.flag o4003.PRBS_RUN && bit (s.regN o4003.PRBS_MASK) n

/-- What one lane has heard changes its lock, its polarity and its equalisers; a lane under PRBS31 counts errors. -/
def State.hearLane (s : State) (n : Nat) (r : LaneRun) (h : LaneHeard) : State :=
  let was := (s.lockOf n).locked
  let s := s.laneStatus n fun w =>
    setBit (setBit w 0 h.after.locked) 4 (if was then bit w 4 else h.after.locked && h.inverted)
  let e := prbsRun (s.unit n).rxPrbs r.blocks
  let s := if s.prbsOn n then s.setRegN (o4003.PRBS_ERRORS + n) ((s.regN (o4003.PRBS_ERRORS + n) + e.1) % 2 ^ 32) else s
  s.withUnit n fun u =>
    ((h.blocks.filter fun b => b.isType blockTRN).map fun b => b.fields).foldl Lane.onTrn
      { u with tested := h.after.tested, invalid := h.after.invalid, rxBits := h.last, rxPrbs := e.2 }

/-- The block sent by a lane, scrambled (R77), and the lane after it, with the parity since the last AM (R79, log entry 54). -/
def Lane.send (u : Lane) (b : LineBlock) : LineBlock × Lane :=
  let r := scramble u.txBits b.data
  ({ b with data := r.1 }, { u with txBits := r.2, txParity := if b.isType blockAM then 0 else u.txParity ^^^ bip8 b.data })

/-- One block position leaves the 8 lanes: each lane scrambles its block; a lane without one is electrically idle, and a lane under
PRBS31 sends 66 bits of it. -/
def State.sendColumn (s : State) (c : List (Option LineBlock)) : List (Option LineBlock) × State :=
  let out := (List.range 8).map fun n => match c.getD n none with
    | some b =>
      let u := s.unit n
      if s.prbsOn n then
        let p := prbsLine u.txPrbs
        (some (blockOfLine p.1), { u with txPrbs := p.2 })
      else ((some (u.send b).1, (u.send b).2) : Option LineBlock × Lane)
    | none => (none, s.unit n)
  (out.map fun x => x.1, s.withLanes fun l => { l with units := out.map fun x => x.2 })

/-- LOOP 3 (Table 03-14): the columns received go out again, with FILL deleted or inserted as R82 did from this buffer level. -/
def State.farEnd : Nat → List Nat → List (List (Option LineBlock)) → State → State
  | _, _, [], s => s
  | level, drains, c :: rest, s =>
    let e := elasticStep level (drains.headD 1) (columnIs blockFILL c)
    let times := 1 + e.2.2 - e.2.1
    let s := (List.range times).foldl (fun s _ => let r := s.sendColumn c; r.2.emit (.column r.1)) s
    State.farEnd e.1 (drains.drop 1) rest s

/-- The receive side of the lane layer: every lane hears its run; lanes that lose block lock fail (R101); the elastic buffer
works (R82). -/
def State.hearRuns (s : State) (x : Reception) : State :=
  let h := s.hearAll x
  let lost := (List.range 8).filter fun n => (s.lockOf n).locked && match h[n]? with
    | some l => !l.after.locked
    | none => false
  let cols := columnsOf h ((List.range 8).filter fun n => !(blocksOf8 h n).isEmpty)
  let level := s.link.lanes.elastic
  let s := (h.zipIdx).foldl (fun s l =>
    s.hearLane l.2 (x.lanes.getD l.2 { clean := 0, last := none, blocks := [] }) l.1) s
  let s := State.elasticRun x.drains cols s
  let s := if s.regN o4003.LOOP = 3 then State.farEnd level x.drains (columnsOf h (List.range 8)) s else s
  s.failLanes (maskOf lost)

/-- The chip hears its receive lanes; in loops 1 and 2 it hears itself instead (Table 03-14). -/
def State.hear (s : State) (x : Reception) : State :=
  if s.regN o4003.LOOP = 1 ∨ s.regN o4003.LOOP = 2 then s else s.hearRuns x

/-- A packet of one kind arrives; whatever arrives, the lanes hear it. -/
def State.hearPacket (isKind : Packet → Bool) (deliver : Packet → State → State) (x : Reception) (s : State) : State :=
  match s.packetIn x with
  | some p => State.receive isKind deliver p (s.hear x)
  | none => s.hear x

/-! ### Sending -/

/-- The place of lane n in the stripe order (R84). -/
def logicalOf (mask n : Nat) : Nat := if bit mask n then ((List.range n).filter fun m => bit mask m).length else 0

/-- The AM block of lane n (Table 03-3). -/
def State.amBlock (s : State) (n : Nat) : LineBlock :=
  let l := s.link.lanes
  controlBlock blockAM (amFields n (logicalOf l.stripe n) (s.regN o4000.RATE) (s.regN o4000.ACTIVE_LANES) l.txCount (s.unit n).txParity)

/-- The TRN block of lane n (Table 03-9). Until the lane has been tested, what it asks of the peer's cursors, and whether it has
finished adapting, are open (log entry 4). -/
def State.trnBlock (s : State) (n : Nat) : LineBlock × State :=
  let u := s.unit n
  let l := s.link.lanes
  let r := if u.verdict = 0 then s.draw 5 else (0, s)
  (controlBlock blockTRN (trnFields n s.rateLimit (l.nextRate.getD (s.regN o4000.RATE)) l.countdown (bits r.1 1 0) (bits r.1 3 2)
    u.preStat u.postStat (if u.verdict = 0 then 4 * bits r.1 4 4 else u.verdict) (bits (s.regN (o4001.LANE_STATUS + n)) 15 8)), r.2)

/-- A column of one block on the lanes of a mask. -/
def columnOn (mask : Nat) (b : Nat → LineBlock) : List (Option LineBlock) :=
  (List.range 8).map fun n => if bit mask n then some (b n) else none

/-- A FILL block. -/
def fillBlock : LineBlock := controlBlock blockFILL 0

/-- What a lane outside UP, or a failed lane, carries at a block position (R96, R104): TRN once in 16, and FILL. -/
def State.trainingColumn (s : State) (mask : Nat) : List (Option LineBlock) × State :=
  if s.link.lanes.txPos % 16 = 8 then
    (List.range 8).foldl (fun (a : List (Option LineBlock) × State) n =>
      if bit mask n then
        let r := a.2.trnBlock n
        (a.1 ++ [some r.1], r.2)
      else (a.1 ++ [none], a.2)) ([], s)
  else (columnOn mask fun _ => fillBlock, s)

/-- The next column of UP and RESIZE on the lanes that work (R78, R81, R84, R102): a LINK block under way, else the next blocks of a
packet, else FILL; between packets FILL comes in time for R81. A packet begins on the first logical lane, and lanes beyond its
last block carry FILL (log entry 48). -/
def State.trafficColumn (s : State) : List (Option LineBlock) × State :=
  let l := s.link.lanes
  let working := s.regN o4000.ACTIVE_LANES ||| s.regN o4000.STANDBY_LANES
  let fill (s : State) : List (Option LineBlock) × State :=
    (columnOn working fun _ => fillBlock, s.withLanes fun l => { l with fillAge := 0 })
  match l.txLinks, l.txPackets with
  | (b, k) :: rest, _ =>
    (columnOn working fun _ => controlBlock blockLINK b,
      s.withLanes fun l => { l with txLinks := if k ≤ 1 then rest else (b, k - 1) :: rest })
  | [], p :: rest =>
    let starts := p.head?.any fun b => b.isType blockSTART
    if starts = true ∧ 2048 ≤ l.fillAge then fill s
    else
      let w := (lanesOf l.stripe).length
      let left := p.drop w
      (columnOn working fun n => if bit l.stripe n then p.getD (logicalOf l.stripe n) fillBlock else fillBlock,
        s.withLanes fun l => { l with txPackets := if left.isEmpty then rest else left :: rest })
  | [], [] => fill s

/-- One block position as the chip forms it: every 16,384th is an AM column (R79). -/
def State.nextColumn (s : State) : List (Option LineBlock) × State :=
  let l := s.link.lanes
  let mask := s.laneLimit
  let onward (s : State) : State := s.withLanes fun l => { l with txPos := (l.txPos + 1) % 16384, fillAge := l.fillAge + 1 }
  if l.txPos = 0 then
    (columnOn mask s.amBlock, onward (s.withLanes fun l => { l with txCount := (l.txCount + 1) % 65536 }))
  else if s.linkUp then
    let a := s.trafficColumn
    let b := a.2.trainingColumn (without mask (s.regN o4000.ACTIVE_LANES ||| s.regN o4000.STANDBY_LANES))
    ((a.1.zip b.1).map fun x => x.1.orElse fun _ => x.2, onward b.2)
  else
    let c := s.trainingColumn mask
    (c.1, onward (if l.txPos % 16 = 8 then c.2.withLanes fun l => { l with countdown := l.countdown - 1 } else c.2))

/-- One block position of the transmitter: on the lanes, or in loops 1 and 2 back to the receiver; in loop 3 the lanes carry
only what they receive (Table 03-14). With the link DISABLED, in reset or after a sag every lane is idle. -/
def State.lineTick (s : State) : State :=
  if s.sys.inReset ∨ s.regN o4000.STATE = 0 ∨ (s.mode = 7 ∧ s.power.holding ≠ .afterFault) ∨ s.regN o4003.LOOP = 3 then s
  else
    let c := s.nextColumn
    let r := c.2.sendColumn c.1
    if s.regN o4003.LOOP = 1 ∨ s.regN o4003.LOOP = 2 then
      let run (b : Option LineBlock) : LaneRun := { clean := 0, last := none, blocks := b.toList }
      r.2.hearRuns { lanes := r.1.map run, drains := [] }
    else r.2.emit (.column r.1)

end Sys2Proof.Machine
end

