-- ==== Sys2Proof/Machine/Serve.lean ====
section
/-! DEFINITION. Machine/Serve.lean: chapter 15, how the chip serves one Aqlet request: the checks of Table 15-3 in their
order, and the effect of each operation of Table 15-2. -/
namespace Sys2Proof.Machine

/-- The region that owns an object and can be lost without SAFE-HOLD (R22, R416). -/
def State.ownerLost (s : State) (k : Nat) : Bool :=
  let i := k / 256
  (s.regionLost 21 && 0x5000 ≤ i && i ≤ 0x54FF) || (s.regionLost 22 && 0x7000 ≤ i && i ≤ 0x72FF)

/-- The rights of a role to a subindex: 1 r, 2 w, 3 rw (R10, R428). -/
def rightsOf (role k : Nat) : Nat :=
  if k % 256 = 0 then 1
  else match rowOf k with
    | some r => if role = 1 then r.rights.1 else if role = 2 then r.rights.2.1 else r.rights.2.2
    | none => 0

/-- Check 3: the index and subindex exist (R430). -/
def check3 (k : Nat) : Nat :=
  match objectAt (k / 256) with
  | none => 0x03000001
  | some o => if o.highest < k % 256 then 0x03000002 else 0

/-- Check 4 (R10, R421): `bit_` is 1 to read and 2 to write. -/
def check4 (role k bit_ : Nat) : Nat := if rightsOf role k / bit_ % 2 = 1 then 0 else 0x02000001

/-- The apply class of a subindex. -/
def applyOf (k : Nat) : Apply :=
  match rowOf k with
  | some r => r.apply
  | none => .none

/-- R457, R509: what the recovery loader serves: `op` on subindex k. -/
def State.loaderAllows (s : State) (op k role : Nat) (path : Path) : Bool :=
  let i := k / 256
  if path != .raster then false
  else if s.modes.loader then
    op == 0x10 || op == 0x11 || (0x1000 ≤ i && i ≤ 0x1030) || i == 0x2001 || i == 0x7E00 || i == 0x7E01
  else
    let reads := (op == 1 || op == 3) &&
      ((0x1000 ≤ i && i ≤ 0x1030) || i == 0x2001 || (0x2800 ≤ i && i ≤ 0x2803) || (0x7C00 ≤ i && i ≤ 0x7C10))
    let writes := s.power.configBad && op == 2 && 2 ≤ role &&
      ((i == 0x4400 && ((1 ≤ k % 256 && k % 256 ≤ 4) || k % 256 == 7 || k % 256 == 8)) || k == o1011.LOAD || k == o1010.SAVE)
    op == 0x10 || op == 0x11 || reads || writes

/-- Check 5 for an operation on a subindex: class Q outside CAPPED, READY and SERVICE, and the modes a chapter names
(R414, R440). -/
def State.check5 (s : State) (op k : Nat) (o : Octets) (role : Nat) (path : Path) : Nat :=
  if s.loaderOnly then
    if s.loaderAllows op k role path then 0
    else if (k = o7E01.IMAGE ∧ op = 4) ∨ (k = o7E02.SWAP ∧ (op = 2 ∨ op = 4)) then 0x05001201
    else 0x05000000
  else if op = 2 ∨ op = 4 ∨ op = 5 ∨ op = 6 then
    let c := s.modeCode k o path
    if c ≠ 0 then c else if applyOf k = .q ∧ s.quiet = false then 0x05000000 else 0
  else 0

/-- Step 1 of R432: `TYPE` and length agree with the subindex (Table 16-1); `withType` is false in a WRITE_BLOCK. -/
def typeOk (k type len : Nat) (withType : Bool) : Bool :=
  match rowOf k with
  | none => false
  | some r =>
    (!withType || r.type.code == type) &&
      (match r.type with
       | .str => decide (len ≤ r.len)
       | .domain => decide (len ≤ r.len)
       | _ => len == r.len)

/-- The number that a value's octets spell in the type of a subindex (Table 16-1). -/
def valueOf (k : Nat) (o : Octets) : Int :=
  match rowOf k with
  | some r =>
    match r.type with
    | .i8 => signed 8 (numberOf o)
    | .i16 => signed 16 (numberOf o)
    | .i32 => signed 32 (numberOf o)
    | .str => 0
    | .octets => 0
    | .domain => 0
    | _ => numberOf o
  | none => 0

/-- The value of a subindex with a session's staged entries in place (R433). -/
def State.lookStaged (s : State) (x : Session) (k : Nat) : Int :=
  match x.staged.find? fun e => e.1 == k with
  | some e => e.2
  | none => s.reg k

/-- Check 6 (R432): type and length, then a BOOLEAN's values, then the range and ordering of the owning table, against the
values that `look` gives (R433). -/
def State.check6 (s : State) (k type : Nat) (o : Octets) (withType : Bool) (look : Nat → Int) : Nat :=
  if typeOk k type o.length withType = false then 0x04000002
  else
    let v := valueOf k o
    match rowOf k with
    | none => 0x03000002
    | some r =>
      if r.type = .bool ∧ 1 < v then 0x04000001
      else s.valueCode k v o look

/-- Whether a class-T write goes into the staged health map at once (R417). -/
def stagedHealth (k : Nat) : Bool := k == o3403.MAP || (o3401.COLUMN_HEALTH ≤ k && k ≤ o3401.COLUMN_HEALTH + 15)

/-- `VALUE` of an accepted write (Table 15-8). -/
def writeAudit (k : Nat) (o : Octets) : Nat :=
  if k / 256 = 0x2102 then 0 else if o.length ≤ 4 then numberOf o else crc32c o

/-- The octets of a read value of n octets. -/
def valueOctets (n : Nat) (v : Int) : Octets := octetsOf n (unsigned (8 * n) v)

/-- The whole value of a subindex at a read (R434). -/
def State.readValue (s : State) (k : Nat) : Octets :=
  if k % 256 = 0 then
    match objectAt (k / 256) with
    | some o => [BitVec.ofNat 8 o.highest]
    | none => []
  else
    match rowOf k with
    | none => []
    | some r => if isOctets k then s.computedBlob k else valueOctets r.len (s.computed k)

/-- `TYPE` code of a subindex; subindex 00h is an UNSIGNED8. -/
def typeCode (k : Nat) : Nat :=
  if k % 256 = 0 then 5
  else match rowOf k with
    | some r => r.type.code
    | none => 0

/-- Who asks, for commits and mode changes. -/
def askerOf (rq : Request) (r : Req) (x : Session) : Asker :=
  { id := x.id, seq := r.seq, reqId := r.reqId, op := r.op, role := x.role, master := masterOf rq }

/-- An accepted request is answered; an accepted write of an installer or maker is recorded first (R424). -/
def State.accept (s : State) (rq : Request) (r : Req) (x : Session) (k : Option Nat) (value : Nat) (data : Octets)
    (last : Bool) : State :=
  let s := match k with
    | some k =>
      if x.role < 2 then s
      else s.audit { auditOf rq r x.role with kind := 1, index := k / 256, sub := k % 256, value := value }
    | none => s
  s.answerSession x (replyTo rq r) 0 data last

/-- The first check that fails, or 0. -/
def firstCode : List Nat → Nat
  | [] => 0
  | c :: rest => if c ≠ 0 then c else firstCode rest

/-- A request that executes until later (R412, R418). -/
def State.startRunning (s : State) (r : Req) (rq : Request) (x : Session) : State :=
  s.mapSession x.id fun y =>
    { y with running := { seq := r.seq, reqId := r.reqId, op := r.op, ts := r.ts, vlan := rq.vlan } :: y.running }

/-- A refused write of a command that shows its answer in its object too: `LAST_ABORT` of a mode request, the result of a
motion command (R352, R452). -/
def State.showRefusal (s : State) (k : Nat) (o : Octets) (code : Nat) : State :=
  if k = o2000.REQUEST then s.setRegN o2000.LAST_ABORT code
  else if ofAxis k o6000.COMMAND ∧ o.length = 32 ∧ motionResult code ≠ 0 then
    s.refuseMotion (axisOf k o6000.COMMAND) (readMotion o) (motionResult code)
  else s

/-- Checks 6 to 8 of a whole value, and its execution (R413, R437 to R441). `timeout` is R416's missing answer. -/
def State.writeWhole (s : State) (rq : Request) (r : Req) (x : Session) (type : Nat) (o : Octets) (withType timeout : Bool) :
    State :=
  let k := r.key
  let who := askerOf rq r x
  let v := valueOf k o
  let mode := decide (k = o2000.REQUEST)
  let commitBusy := if applyOf k = .t ∧ stagedHealth k = false ∧ s.modes.commit.isSome then 0x06000002 else 0
  let code := firstCode
    [s.check5 2 k o x.role x.path, s.check6 k type o withType s.reg, if mode then s.requestCheck v.toNat x.role else 0,
     s.stateCode k v o, commitBusy,
     if timeout ∨ s.ownerLost k then 0x07000001 else 0]
  if code ≠ 0 then (s.showRefusal k o code).refuse rq r x code
  else
    match applyOf k with
    | .t =>
      if stagedHealth k then (s.applyWrite k v o who).accept rq r x (some k) (writeAudit k o) (if r.op = 2 then octetsOf 8 0 else []) false
      else (s.startRunning r rq x).beginCommit (.session who) [(k, v)] 0
    | .b => (s.bootValue k v).accept rq r x (some k) (writeAudit k o) [] false
    | _ =>
      let s := (s.applyWrite k v o who)
      s.accept rq r x (some k) (writeAudit k o) [] false

/-- READ (R406). -/
def State.serveRead (s : State) (rq : Request) (r : Req) (x : Session) (timeout : Bool) : State :=
  let k := r.key
  let code := firstCode [check3 k, check4 x.role k 1, s.check5 1 k [] x.role x.path]
  if code ≠ 0 then s.refuse rq r x code
  else
    let v := s.readValue k
    if 1400 < v.length then s.refuse rq r x 0x01000F05
    else if timeout ∨ s.ownerLost k then s.refuse rq r x 0x07000001
    else
      let head := octetsOf 8 (place (k / 256) 63 48 + place (k % 256) 47 40 + place (typeCode k) 39 24 + v.length)
      (s.noteRead k).accept rq r x none 0 (head ++ v) false

/-- READ_BLOCK (R445). -/
def State.serveReadBlock (s : State) (rq : Request) (r : Req) (x : Session) (timeout : Bool) : State :=
  let k := r.key
  let off := bits (r.word 1) 63 32
  let cnt := bits (r.word 1) 31 0
  let code := firstCode [check3 k, check4 x.role k 1, s.check5 3 k [] x.role x.path]
  if code ≠ 0 then s.refuse rq r x code
  else if off % 8 ≠ 0 ∨ cnt % 8 ≠ 0 ∨ cnt < 8 ∨ 1400 < cnt then s.refuse rq r x 0x04001001
  else
    let shot : Option Transfer :=
      if off = 0 then
        let v := s.readValue k
        some { key := k, total := v.length, data := v, last := s.now }
      else match x.snapshot with
        | some y => if y.key = k then some y else none
        | none => none
    match shot with
    | none => s.refuse rq r x 0x06001001
    | some y =>
      if off ≠ 0 ∧ y.total ≤ off then s.refuse rq r x 0x04001001
      else if timeout ∨ s.ownerLost k then s.refuse rq r x 0x07000001
      else
        let part := (y.data.drop off).take (min cnt (y.total - off))
        let last := decide (y.total ≤ off + cnt)
        let s := if off = 0 then s.noteRead k else s
        let s := s.mapSession x.id fun z => { z with snapshot := if last then none else some { y with last := s.now } }
        s.accept rq r x none 0 (octetsOf 8 (place off 63 32 + place y.total 31 0) ++ part) last

/-- R465: the area takes the first segment of an image. -/
def State.imageReceiving (s : State) : State :=
  let other := 1 - s.regN o7E00.RUNNING
  { ((s.setRegN (o7E00.IMAGE_STATE + other) 3).setRegN o7E01.TRANSFER_STATE 1) with
    flash := { s.flash with images := s.flash.images.set other (0, 3) } }

/-- R465: an image has arrived whole, and its length, CRC and signature are checked. -/
def State.imageArrived (s : State) (rq : Request) (r : Req) (x : Session) (o : Octets) (check : ImageCheck) : State :=
  let other := 1 - s.regN o7E00.RUNNING
  let settle (s : State) (version state transfer abort : Nat) : State :=
    let s := ((s.setRegN (o7E00.IMAGE_STATE + other) state).setRegN (o7E00.IMAGE_VERSION + other) version)
    let s := (s.setRegN o7E01.TRANSFER_STATE transfer).setRegN o7E01.TRANSFER_ABORT abort
    { s with flash := { s.flash with images := s.flash.images.set other (version, state) } }
  let code :=
    if 16777216 < o.length ∨ check.crcOk = false then 0x04001201
    else if check.signatureOk = false then 0x04001202 else 0
  if code ≠ 0 then (settle s 0 2 4 code).refuse rq r x code
  else
    let s := settle s (check.version % 2 ^ 32) 1 3 0
    let s := if x.role < 2 then s else s.audit { auditOf rq r x.role with kind := 1, value := crc32c o }
    s.answerSession x (replyTo rq r) 0 [] false

/-- R465, R466: what a segment of an image must meet before it is written to its area. -/
def State.imageCode (s : State) (id : Nat) : Nat :=
  let another := s.aqlet.sessions.any fun x => x.id != id &&
    match x.assembly with
    | some y => y.key == o7E01.IMAGE
    | none => false
  if s.swapping || another then 0x06001202 else 0

/-- WRITE (R413). An image that fits one WRITE is checked as R465 has it (log entry 34). -/
def State.serveWrite (s : State) (rq : Request) (r : Req) (x : Session) (timeout : Bool) : State :=
  let k := r.key
  let w := r.word 0
  let o := (r.body.drop 8).take (bits w 15 0)
  let code := firstCode [check3 k, check4 x.role k 2, s.check5 2 k o x.role x.path]
  if code ≠ 0 then (s.showRefusal k o code).refuse rq r x code
  else if k = o7E01.IMAGE then
    let code := firstCode [s.check6 k (bits w 39 24) o true s.reg, s.imageCode x.id]
    let f := Config.imageFound o
    if code ≠ 0 then s.refuse rq r x code
    else s.imageReceiving.imageArrived rq r x o { crcOk := f.1, signatureOk := f.2.1, version := f.2.2 }
  else s.writeWhole rq r x (bits w 39 24) o true timeout

/-- WRITE_BLOCK (R446). `image` is what the chip's check of an image finds (R465). -/
def State.serveWriteBlock (s : State) (rq : Request) (r : Req) (x : Session) (image : ImageCheck)
    (timeout : Bool) : State :=
  let k := r.key
  let off := bits (r.word 1) 63 32
  let total := bits (r.word 1) 31 0
  let data := r.body.drop 16
  let max_ := match rowOf k with
    | some q => q.len
    | none => 0
  let code := firstCode [check3 k, check4 x.role k 2, s.check5 4 k [] x.role x.path]
  if code ≠ 0 then (s.dropAssembly x.id).refuse rq r x code
  else
    let s := if off = 0 then s.dropAssembly x.id else s
    let have_ : Option Transfer :=
      if off = 0 then some { key := k, total := total, data := [], last := s.now }
      else match x.assembly with
        | some y => if y.key = k ∧ y.total = total ∧ y.data.length = off then some y else none
        | none => none
    match have_ with
    | none => s.refuse rq r x 0x06001002
    | some y =>
      let take_ := min data.length (total - off)
      let reaches := decide (total ≤ off + take_)
      if max_ < total then s.refuse rq r x 0x04001001
      else if k = o7E01.IMAGE ∧ s.imageCode x.id ≠ 0 then s.refuse rq r x (s.imageCode x.id)
      else if r.last ≠ reaches then (s.dropAssembly x.id).refuse rq r x 0x04001002
      else if (reaches = false ∧ take_ < 8) ∨ allZero (data.drop take_) = false then s.refuse rq r x 0x04001001
      else
        let y := { y with data := y.data ++ data.take take_, last := s.now }
        if reaches then
          let s := s.mapSession x.id fun z => { z with assembly := none }
          if k = o7E01.IMAGE then s.imageArrived rq r x y.data image
          else s.writeWhole rq r x 0 y.data false timeout
        else
          let s := s.mapSession x.id fun z => { z with assembly := some y }
          let s := if k = o7E01.IMAGE then s.imageReceiving else s
          s.accept rq r x none 0 [] false

/-- STAGE (R417). -/
def State.serveStage (s : State) (rq : Request) (r : Req) (x : Session) (timeout : Bool) : State :=
  let k := r.key
  let w := r.word 0
  let o := (r.body.drop 8).take (bits w 15 0)
  let v := valueOf k o
  let has := x.staged.any fun e => e.1 == k
  let code := firstCode
    [check3 k, check4 x.role k 2, s.check5 5 k o x.role x.path, s.check6 k (bits w 39 24) o true (s.lookStaged x),
     if applyOf k ≠ .t ∨ stagedHealth k ∨ 8 < o.length ∨ isOctets k then 0x06000F03 else 0,
     if has = false ∧ 64 ≤ x.staged.length then 0x06000F02 else 0, s.stateCode k v o,
     if timeout ∨ s.ownerLost k then 0x07000001 else 0]
  if code ≠ 0 then s.refuse rq r x code
  else
    let staged := (x.staged.filter fun e => e.1 != k) ++ [(k, v)]
    let s := s.mapSession x.id fun z => { z with staged := staged }
    s.accept rq r x none 0 (octetsOf 8 (place staged.length 63 48)) false

/-- COMMIT (R418). -/
def State.serveCommit (s : State) (rq : Request) (r : Req) (x : Session) (timeout : Bool) : State :=
  let w := r.word 0
  let action := bits w 63 56
  let lead := bits w 31 0
  let empty (s : State) : State := s.mapSession x.id fun z => { z with staged := [] }
  let entryCode : Nat :=
    if action = 1 then
      firstCode (x.staged.map fun e => firstCode [check4 x.role e.1 2, s.check5 6 e.1 [] x.role x.path])
    else 0
  let range : Nat :=
    if ¬(action = 1 ∨ action = 2) ∨ ¬(lead = 0 ∨ (2048 ≤ lead ∧ lead ≤ 1048576)) then 0x04000001 else 0
  if s.loaderOnly then s.refuse rq r x 0x05000000
  else if entryCode ≠ 0 then (empty s).refuse rq r x entryCode
  else if range ≠ 0 then (empty s).refuse rq r x range
  else if action = 2 then
    if timeout then (empty s).refuse rq r x 0x07000001
    else (empty s).accept rq r x none 0 (octetsOf 8 0 ++ octetsOf 8 0) false
  else
    let code := firstCode
      [firstCode (x.staged.map fun e => s.commandCode e.1 e.2 []), if s.modes.commit.isSome then 0x06000002 else 0,
       if timeout then 0x07000001 else 0]
    if code ≠ 0 then (empty s).refuse rq r x code
    else
      ((empty s).startRunning r rq x).beginCommit (.session (askerOf rq r x)) x.staged lead

/-- SUBSCRIBE (R419). -/
def State.serveSubscribe (s : State) (rq : Request) (r : Req) (x : Session) (timeout : Bool) : State :=
  if s.loaderOnly then s.refuse rq r x 0x05000000
  else if timeout then s.refuse rq r x 0x07000001
  else
    let mask := r.word 0 + r.word 1 * 2 ^ 64
    let s := s.mapSession x.id fun z =>
      { z with notices := { z.notices with mask := mask, queue := if mask = 0 then [] else z.notices.queue } }
    s.accept rq r x none 0 (octetsOf 8 (r.word 0) ++ octetsOf 8 (r.word 1)) false

/-- TRIGGER (R420). -/
def State.serveTrigger (s : State) (rq : Request) (r : Req) (x : Session) (timeout : Bool) : State :=
  let w := r.word 0
  let n := bits w 63 56
  let ctrl := bits w 31 0
  let code := firstCode
    [if x.role < 2 then 0x02000001 else 0, if s.loaderOnly then 0x05000000 else 0, if 5 < n then 0x04000001 else 0,
     if 1 < bits ctrl 30 28 then 0x04000E01 else 0,
     if timeout ∨ s.regionLost 22 then 0x07000001 else 0]
  if code ≠ 0 then s.refuse rq r x code
  else
    let s := s.armTrigger n (r.word 1) ctrl
    let rx : Int := if rq.path = .network then s.receivedAt rq.rx rq.port else s.localFine rq.rx
    let rx := if s.timeValid then rx else 0
    let data := octetsOf 8 ((rx / 65536).toNat) ++ octetsOf 8 (place (rx % 65536).toNat 63 48)
    let shot := if bit w 55 then octetsOfWords (s.captureWords rq.rx 0) else []
    s.accept rq r x (some (o7003.TRIGGER_CTRL + n)) ctrl (data ++ shot) false

/-- CLOSE (R409): answered in the session, which then ends; the loader of SAFE-HOLD refuses it (R509), and the one of R457,
which serves sessions, does not. -/
def State.serveClose (s : State) (rq : Request) (r : Req) (x : Session) : State :=
  if s.mode = 7 then s.refuse rq r x 0x05000000
  else (s.accept rq r x none 0 [] false).closeSession x 1

/-- A new session identifier: random, never 0 and never that of a session (R407). -/
def State.newId (s : State) (drawn : Nat) : Nat :=
  let ids := (List.range 10).map fun i => (drawn + i) % 2 ^ 32
  (ids.find? fun n => n != 0 && s.aqlet.sessions.all fun x => x.id != n).getD 1

/-- OPEN (R407, R410, R411). -/
def State.serveOpen (s : State) (rq : Request) (r : Req) : State :=
  let role := bits (r.word 0) 63 62
  let refuse (abort : Nat) : State :=
    let s := (s.incReg o2100.REQUESTS_REFUSED).audit { auditOf rq r role with abort := abort }
    s.sendResponse (replyTo rq r) [] (responseBody abort []) false false
  if r.tag ≠ List.replicate 8 0 then s.discard rq r 0x01000F03
  else if s.lockedOut role rq then refuse 0x02000F02
  else if s.loaderOnly ∧ rq.path = .network then refuse 0x05000000
  else if role = 0 then refuse 0x04000001
  else if s.secretSet role = false ∧ rq.path = .network then refuse 0x02000F03
  else
    match (List.range 8).find? fun n => s.aqlet.sessions.all fun x => x.slot != n with
    | none => refuse 0x06000F01
    | some slot =>
      let (drawn, s) := s.draw 32
      let (n1, s) := s.draw 64
      let (n2, s) := s.draw 64
      let chip := octetsOf 8 n1 ++ octetsOf 8 n2
      let id := s.newId drawn
      let x : Session :=
        { slot := slot, id := id, role := role, path := rq.path, src := rq.src, isOpen := false,
          hostNonce := (r.body.drop 8).take 16, chipNonce := chip, key := [], startedAt := s.now, lastValid := s.now,
          highest := none, cache := [], done := [], running := [], staged := [],
          notices := { mask := 0, seq := 0, lost := 0, queue := [], windowStart := s.now, sent := 0 },
          snapshot := none, assembly := none }
      let s := { s with aqlet := { s.aqlet with sessions := s.aqlet.sessions ++ [x] } }
      s.sendResponse (replyTo rq r) [] (responseBody 0 (octetsOf 8 (place id 63 32) ++ chip)) false false

/-- R410: a failed AUTH, and the lockout it may bring. -/
def State.authFailed (s : State) (rq : Request) (r : Req) (x : Session) : State :=
  let s := ((s.incReg o2100.AUTH_FAILURES).incReg o2100.REQUESTS_REFUSED).audit
    { auditOf rq r x.role with kind := 5, abort := 0x02000F01 }
  let s := s.sendResponse (replyTo rq r) [] (responseBody 0x02000F01 []) false false
  let s := s.raiseLimited 106 0 x.role 0 23 1000000000
  let same (a : Attempt) : Bool := a.role == x.role && a.path == x.path && a.src == x.src
  let recent := (s.aqlet.failures.filter fun a => decide (s.now - a.time < 60000000000))
  let all := { role := x.role, path := x.path, src := x.src, time := s.now : Attempt } :: recent
  if s.regN o2100.LOCKOUT_FAILS ≤ (all.filter same).length then
    let s := { s with aqlet := { s.aqlet with failures := all.filter fun a => !same a,
                                              lockouts := { role := x.role, path := x.path, src := x.src, time := s.now }
                                                :: s.aqlet.lockouts.filter fun a => !same a } }
    ((s.incReg o2100.LOCKOUTS).raise 107 x.role 0 23).audit
      { kind := 7, master := masterOf rq, role := x.role, reqId := r.reqId, op := r.op, session := x.id }
  else { s with aqlet := { s.aqlet with failures := all } }

/-- AUTH (R407). -/
def State.serveAuth (s : State) (rq : Request) (r : Req) : State :=
  match s.sessionFor r.session rq with
  | none => s.discard rq r 0x01000F01
  | some x =>
    if r.tag ≠ List.replicate 8 0 then s.discard rq r 0x01000F03
    else if x.isOpen then
      match x.cache.find? fun c => c.seq == r.seq && c.reqId == r.reqId with
      | some c =>
        if r.seq = 0 then (s.incReg o2100.CACHED_REPLIES).sendResponse (replyTo rq r) [] c.frame true false
        else s.discard rq r 0x01000F01
      | none => s.discard rq r 0x01000F01
    else if r.seq ≠ 0 then s.discard rq r 0x01000F02
    else
      let secret := s.secret x.role
      if r.body = hmac secret (proofMessage 0x48 x) then
        let body := responseBody 0 (hmac secret (proofMessage 0x43 x))
        let s := s.mapSession x.id fun y =>
          { y.answered 0 r.reqId body with isOpen := true, key := hmac secret (proofMessage 0x4B x), lastValid := s.now }
        let s := s.countSessions.audit { auditOf rq r x.role with kind := 4 }
        s.sendResponse (replyTo rq r) [] body false false
      else s.authFailed rq r x

/-- R381: a received Aqlet frame that asks for it is timestamped. -/
def State.stampRequest (s : State) (rq : Request) (r : Req) : State :=
  if r.ts ∧ rq.path = .network then s.stampReceive (s.receivedAt rq.rx rq.port) 2 rq.port r.reqId 0 else s

/-- R413: serves one request; `image` and `timeout` are what R465 and R416 find. -/
def State.serve (s : State) (image : ImageCheck) (timeout : Bool) (rq : Request) : State :=
  let s := s.lapse
  let r := readFrame rq.frame
  let c := r.check1 rq
  if c ≠ 0 then s.discard rq r c
  else
    let s := s.stampRequest rq r
    if r.op = 0x10 then s.serveOpen rq r
    else if r.op = 0x11 then s.serveAuth rq r
    else
      match s.sessionFor r.session rq with
      | none => s.discard rq r 0x01000F01
      | some x =>
        if x.isOpen = false then s.discard rq r 0x01000F01
        else if r.tag ≠ tagOf x.key r.signed then s.discard rq r 0x01000F03
        else
          let s := s.mapSession x.id fun y => { y with lastValid := s.now }
          match x.checkSeq r.seq r.reqId with
          | .ignore => s
          | .refuse code => s.discard rq r code
          | .cached c => (s.incReg o2100.CACHED_REPLIES).sendResponse (replyTo rq r) x.key c.frame true false
          | .execute =>
            match r.op with
            | 1 => s.serveRead rq r x timeout
            | 2 => s.serveWrite rq r x timeout
            | 3 => s.serveReadBlock rq r x timeout
            | 4 => s.serveWriteBlock rq r x image timeout
            | 5 => s.serveStage rq r x timeout
            | 6 => s.serveCommit rq r x timeout
            | 7 => s.serveSubscribe rq r x timeout
            | 8 => s.serveTrigger rq r x timeout
            | _ => s.serveClose rq r x

/-- The requests of a session that wait on ring 13 (R37): they are unanswered as those still executing are (R412). -/
def State.waitingOf (s : State) (x : Session) : List Req :=
  (s.aqlet.waiting.filter fun w => w.1.path == x.path && w.1.src == x.src).filterMap fun w =>
    let r := readFrame w.1.frame
    if r.session = x.id then some r else none

/-- R37: a request that meets a restarting supervisor waits on ring 13; one beyond its slots is counted (R490). -/
def State.enqueue (s : State) (image : ImageCheck) (rq : Request) : State :=
  let fits := decide (s.ringEntries 13 < ringSlots 13)
  let s := s.ringPut 13 (frameWords rq.frame)
  if fits then { s with aqlet := { s.aqlet with waiting := s.aqlet.waiting ++ [(rq, image)] } } else s

/-- R415: a request passes through ring 13 to the supervisor, which serves it; the recovery loader takes it at once. -/
def State.serveNow (s : State) (image : ImageCheck) (timeout : Bool) (rq : Request) : State :=
  if s.loaderOnly then s.serve image timeout rq
  else if s.ringEntries 13 < ringSlots 13 then
    ((s.ringPut 13 (frameWords rq.frame)).ringTake 13).serve image timeout rq
  else s.ringPut 13 (frameWords rq.frame)

/-- R37, R412: a request that meets a restarting supervisor: the repeat of one that waits is discarded, the seventeenth
unanswered one of its session is refused, and any other waits. -/
def State.await (s : State) (image : ImageCheck) (rq : Request) : State :=
  let r := readFrame rq.frame
  match s.sessionFor r.session rq with
  | none => s.enqueue image rq
  | some x =>
    if r.check1 rq ≠ 0 ∨ r.op = 0x10 ∨ r.op = 0x11 ∨ x.isOpen = false ∨ r.tag ≠ tagOf x.key r.signed then
      s.enqueue image rq
    else
      let waits := s.waitingOf x
      if waits.any fun w => w.seq == r.seq && w.reqId == r.reqId then s
      else if waits.any fun w => w.seq == r.seq then s.discard rq r 0x01000F02
      else if 16 ≤ waits.length + x.running.length then s.discard rq r 0x01000F04
      else s.enqueue image rq

/-- An Aqlet request has arrived. -/
def State.arrive (s : State) (image : ImageCheck) (timeout : Bool) (rq : Request) : State :=
  if s.loaderOnly = true ∨ s.sys.supervisor.state = .running then s.serveNow image timeout rq else s.await image rq

/-- A request comes by its path (R404): over the network while that is on (R509); over the raster link as the CTRL packet that
the lanes carry, which passes the receive side of R93 and whose units come free (R86, R89). -/
def State.byPath (rq : Request) (wants : Request → Bool) (f : Request → State → State) (s : State) : State :=
  match rq.path with
  | .network => if s.netOn = true ∧ wants rq = true then f rq s else s
  | .raster =>
    if s.mode = 7 ∧ s.power.holding ≠ .afterFault then s
    else
      State.hearPacket (fun p => packetType p == 3 && wants { rq with frame := p.payload, src := 0 })
        (fun p s => (f { rq with frame := p.payload, src := 0 } s).freeCredit true (packetCost (packetLen p))) rq.lanes s

/-- Whether a request is one of a kind; a frame that fails check 1 is answered whatever it spells. -/
def asksFor (ops : Req → Bool) (rq : Request) : Bool :=
  (readFrame rq.frame).check1 rq != 0 || ops (readFrame rq.frame)

/-- A command that carries an Aqlet request of one operation. -/
def State.request (ops : Req → Bool) (t : Nat) (rq : Request) (s : State) : Host.Outcome State Fault Refusal :=
  s.run t (State.byPath rq (asksFor ops) fun rq s => s.arrive ImageCheck.none false rq)

/-- Whether a request is a WRITE, or a WRITE_BLOCK, of a subindex of a list. -/
def writesKey (keys : List Nat) (r : Req) : Bool := (r.op == 2 || r.op == 4) && keys.contains r.key

end Sys2Proof.Machine
end

