-- ==== Sys2Proof/Machine/AxisCommands.lean ====
section
/-! DEFINITION. Machine/AxisCommands.lean: the commands of chapter 13, each over the operations of
Machine/AxisMotion.lean. -/
namespace Sys2Proof.Machine

/-- A motion command of one operation, or of one outside Table 13-2, on an axis: the next descriptor of ring 12, or a
write of `COMMAND` (R350). -/
def State.motionCommand (op t axis : Nat) (source : MotionSource) (s : State) : Host.Outcome State Fault Refusal :=
  let ops (n : Nat) : Bool := n == op || n == 0 || decide (7 < n)
  match source with
  | .ring => s.runOn t fun s => if axis < 4 then s.ringMotion axis ops else s
  | .write rq =>
    s.request (fun r => decide (axis < 4) && r.op == 2 && r.key == o6000.COMMAND + 256 * axis &&
      ops (readMotion (r.body.drop 8)).op) t rq

/-- MOVE_ABS (R351). -/
def execMoveAbs (t axis : Nat) (source : MotionSource) (s : State) : Host.Outcome State Fault Refusal :=
  s.motionCommand 1 t axis source

/-- MOVE_REL (R351). -/
def execMoveRel (t axis : Nat) (source : MotionSource) (s : State) : Host.Outcome State Fault Refusal :=
  s.motionCommand 2 t axis source

/-- VELOCITY (R351). -/
def execVelocity (t axis : Nat) (source : MotionSource) (s : State) : Host.Outcome State Fault Refusal :=
  s.motionCommand 3 t axis source

/-- STOP (R354). -/
def execStop (t axis : Nat) (source : MotionSource) (s : State) : Host.Outcome State Fault Refusal :=
  s.motionCommand 4 t axis source

/-- HOME (R360). -/
def execHome (t axis : Nat) (source : MotionSource) (s : State) : Host.Outcome State Fault Refusal :=
  s.motionCommand 5 t axis source

/-- ENABLE (R366, R367). -/
def execEnable (t axis : Nat) (source : MotionSource) (s : State) : Host.Outcome State Fault Refusal :=
  s.motionCommand 6 t axis source

/-- DISABLE (R352, R366). -/
def execDisable (t axis : Nat) (source : MotionSource) (s : State) : Host.Outcome State Fault Refusal :=
  s.motionCommand 7 t axis source

/-- AXIS_STEP (R346 to R349). -/
def execAxisStep (t axis duty : Nat) (s : State) : Host.Outcome State Fault Refusal :=
  s.runOn t (State.axisStep axis duty)

/-- The subindices of one name for the four axes. -/
def allAxes (k : Nat) : List Nat := [k, k + 256, k + 512, k + 768]

/-- DECEL_WRITE (R353). -/
def execDecelWrite (t : Nat) (rq : Request) (s : State) : Host.Outcome State Fault Refusal :=
  s.request (writesKey (allAxes o6000.DECEL)) t rq

/-- POSITION_PRESET_WRITE (R346). -/
def execPositionPresetWrite (t : Nat) (rq : Request) (s : State) : Host.Outcome State Fault Refusal :=
  s.request (writesKey (allAxes o6000.POSITION_PRESET)) t rq

/-- LIMIT_EDGE (R358 to R361). -/
def execLimitEdge (t input first : Nat) (high : Bool) (s : State) : Host.Outcome State Fault Refusal :=
  s.runOn t (State.limitEdge input first high)

/-- LIMIT_RELEASE (R359). -/
def execLimitRelease (t input : Nat) (s : State) : Host.Outcome State Fault Refusal :=
  s.runOn t (State.limitRelease input)

/-- CHOP_CYCLE (R362, R363). -/
def execChopCycle (t axis phase current mean : Nat) (s : State) : Host.Outcome State Fault Refusal :=
  s.runOn t (State.chop axis phase current mean)

/-- AXIS_HOLD_CURRENT (R364). -/
def execAxisHoldCurrent (t axis : Nat) (s : State) : Host.Outcome State Fault Refusal :=
  s.runOn t (State.holdCurrent axis)

/-- LEARN_WRITE (R365). -/
def execLearnWrite (t : Nat) (rq : Request) (s : State) : Host.Outcome State Fault Refusal :=
  s.request (writesKey (allAxes o6011.LEARN)) t rq

/-- LEARN_DONE (R365). -/
def execLearnDone (t axis : Nat) (s : State) : Host.Outcome State Fault Refusal :=
  s.runOn t (State.learnDone axis)

/-- AXIS_DRIVE_FAULT (R367). -/
def execAxisDriveFault (t axis : Nat) (figures : List Nat) (s : State) : Host.Outcome State Fault Refusal :=
  s.runOn t (State.driveFault axis figures)

end Sys2Proof.Machine
end

