-- ==== Sys2Proof/Machine/CameraIntake.lean ====
section
/-! DEFINITION. Machine/CameraIntake.lean: the commands of chapter 10, each over the operations of Machine/CameraPorts.lean
and, for writes, Machine/Serve.lean. -/
namespace Sys2Proof.Machine

/-- CSI_LINE_PACKET (R279, R280, R284). -/
def execCsiLinePacket (t port header vc dataType : Nat) (crcOk : Bool) (codes : List Nat) (s : State) : Host.Outcome State Fault Refusal :=
  s.runOn t (State.linePacket port header vc dataType crcOk codes)

/-- CSI_EMBEDDED_PACKET (R280). -/
def execCsiEmbeddedPacket (t port header vc : Nat) (crcOk : Bool) (data : Octets) (s : State) : Host.Outcome State Fault Refusal :=
  s.runOn t (State.embeddedPacket port header vc crcOk data)

/-- CSI_FRAME_START (R290). -/
def execCsiFrameStart (t port header number : Nat) (s : State) : Host.Outcome State Fault Refusal :=
  s.runOn t (State.frameStart port header number)

/-- CSI_FRAME_END (R290). -/
def execCsiFrameEnd (t port header : Nat) (s : State) : Host.Outcome State Fault Refusal :=
  s.runOn t (State.frameEndPacket port header)

/-- CSI_PACKET_IGNORED (R279). -/
def execCsiPacketIgnored (t port header : Nat) (s : State) : Host.Outcome State Fault Refusal :=
  s.runOn t (State.packetIgnored port header)

/-- CSI_LANE_SYNC_ERROR (R300). -/
def execCsiLaneSyncError (t port : Nat) (s : State) : Host.Outcome State Fault Refusal :=
  s.runOn t (State.laneSyncError port)

/-- CSI_LANES_ULPS (R279): all lanes of the port lose their signal. -/
def execCsiLanesUlps (t port : Nat) (s : State) : Host.Outcome State Fault Refusal :=
  s.runOn t fun s => s.cameraPortLost port

/-- CAMERA_LINE_TRIGGER (R286 to R290). -/
def execCameraLineTrigger (t pipeline : Nat) (s : State) : Host.Outcome State Fault Refusal :=
  s.runOn t (State.lineTrigger pipeline)

/-- FRAME_END (R297). -/
def execFrameEnd (t pipeline : Nat) (s : State) : Host.Outcome State Fault Refusal :=
  s.runOn t (State.endFrame pipeline)

/-- The subindices of one name for the two pipelines. -/
def bothPipelines (k : Nat) : List Nat := [k, k + 1]

/-- SETTINGS_WRITE (R291): a write of `EXPOSURE_NS` or `GAIN_CDB`. -/
def execSettingsWrite (t : Nat) (rq : Request) (s : State) : Host.Outcome State Fault Refusal :=
  s.request (writesKey (bothPipelines o5002.EXPOSURE_NS ++ bothPipelines o5002.GAIN_CDB)) t rq

/-- BIND_WRITE (R281). -/
def execBindWrite (t : Nat) (rq : Request) (s : State) : Host.Outcome State Fault Refusal :=
  s.request (writesKey (bothPipelines o5000.BIND)) t rq

/-- HOST_RELEASE_WRITE (R297). -/
def execHostReleaseWrite (t : Nat) (rq : Request) (s : State) : Host.Outcome State Fault Refusal :=
  s.request (writesKey [o5003.HOST_RELEASE]) t rq

/-- CAMERA_RESTART_WRITE (R300). -/
def execCameraRestartWrite (t : Nat) (rq : Request) (s : State) : Host.Outcome State Fault Refusal :=
  s.request (writesKey (bothPipelines o5004.RESTART)) t rq

/-- CAMERA_I2C_START (R292). -/
def execCameraI2cStart (t pipeline : Nat) (s : State) : Host.Outcome State Fault Refusal :=
  s.runOn t (State.startWrite pipeline)

/-- CAMERA_I2C_DONE (R293, R294). -/
def execCameraI2cDone (t pipeline : Nat) (acknowledged : Bool) (s : State) : Host.Outcome State Fault Refusal :=
  s.runOn t (State.writeDone pipeline acknowledged)

/-- CAMERA_LANES_READY (R300). -/
def execCameraLanesReady (t pipeline mbps : Nat) (s : State) : Host.Outcome State Fault Refusal :=
  s.runOn t (State.lanesReady pipeline mbps)

/-- CAMERA_RESTART_END (R300). -/
def execCameraRestartEnd (t pipeline : Nat) (ready : Bool) (mbps : Nat) (s : State) : Host.Outcome State Fault Refusal :=
  s.runOn t (State.restartEnd pipeline ready mbps)

end Sys2Proof.Machine
end

