-- ==== Sys2Proof/Machine/Codec.lean ====
section
/-! DEFINITION. Machine/Codec.lean: the commands of chapter 05: verification, the codec jobs, and the writes of 3100h:02
and `LOG_SEQ`. A job finds and makes everything when its descriptor is taken, and its result shows at its end. -/
namespace Sys2Proof.Machine

/-- BLOCK_VERIFY (R155). -/
def execBlockVerify (t stream : Nat) (s : State) : Host.Outcome State Fault Refusal :=
  s.runOn t fun s => if stream < 2 then s.verifyNext stream else s

/-- PIXEL_BITS_WRITE (R160). -/
def execPixelBitsWrite (t : Nat) (rq : Request) (s : State) : Host.Outcome State Fault Refusal :=
  s.request (writesKey [o3100.PIXEL_BITS]) t rq

/-- LOG_SEQ_WRITE (R170). -/
def execLogSeqWrite (t : Nat) (rq : Request) (s : State) : Host.Outcome State Fault Refusal :=
  s.request (writesKey [o4802.LOG_SEQ]) t rq

/-! ### Descriptors (Table 05-5) -/

/-- Word n of a descriptor. -/
def Job.word (j : Job) (n : Nat) : Nat := j.words.getD n 0
/-- `JOB_ID`. -/
def Job.id (j : Job) : Nat := bits (j.word 0) 63 48
/-- `KIND`. -/
def Job.kind (j : Job) : Nat := bits (j.word 0) 47 40
/-- `TO_PAGE`. -/
def Job.toPage (j : Job) : Bool := bit (j.word 0) 37
/-- `FROM_PAGE`. -/
def Job.fromPage (j : Job) : Bool := bit (j.word 0) 35
/-- `STREAM`. -/
def Job.stream (j : Job) : Nat := bits (j.word 0) 36 36
/-- `BILEVEL`. -/
def Job.bilevel (j : Job) : Bool := bit (j.word 0) 34
/-- `BANDS`. -/
def Job.bands (j : Job) : Nat := bits (j.word 6) 63 32
/-- `BLOCK_COLS`. -/
def Job.cols (j : Job) : Nat := bits (j.word 6) 31 16
/-- `SRC_BYTES`. -/
def Job.srcBytes (j : Job) : Nat := bits (j.word 2) 63 32
/-- `STRIDE`. -/
def Job.stride (j : Job) : Nat := bits (j.word 2) 31 0
/-- `DST_BYTES`. -/
def Job.dstBytes (j : Job) : Nat := bits (j.word 4) 63 32
/-- `PAGE_TAG`. -/
def Job.tag (j : Job) : Nat := bits (j.word 5) 63 32
/-- `SRC_PAGE_TAG`. -/
def Job.srcTag (j : Job) : Nat := bits (j.word 7) 63 32
/-- Octets of one block's part of a raw line. -/
def Job.lineBytes (j : Job) : Nat := if j.bilevel then 32 else 64
/-- The blocks of the rectangle as (r, c), in the order of R166. -/
def Job.blocksOf (j : Job) : List (Nat × Nat) :=
  (List.range (j.bands * j.cols)).map fun n => (n / j.cols, n % j.cols)
/-- Block index of (r, c) on the destination side. -/
def Job.dstIndex (j : Job) (k : Nat) (rc : Nat × Nat) : Nat := bits (j.word 5) 31 0 + rc.1 * k + rc.2
/-- Block index of (r, c) on the source side. -/
def Job.srcIndex (j : Job) (k : Nat) (rc : Nat × Nat) : Nat := bits (j.word 7) 31 0 + rc.1 * k + rc.2

/-- A job that has done nothing yet. -/
def Job.fresh (words : List Nat) : Job :=
  { words, status := 0, reason := 0, done := 0, failed := 0, bytes := 0, rawBack := 0, verBack := 0, blocks := [], writes := [] }

/-- Whether the window holds a range. -/
def inWindow (a n : Nat) : Bool := decide (a + n ≤ windowSize)

/-- Octets of the raw lines of a rectangle from its first to its last. -/
def Job.rawBytes (j : Job) : Nat := (64 * j.bands - 1) * j.stride + j.cols * j.lineBytes

/-- Table 05-7, 03h: a field outside its range (log entry 18). -/
def Job.bad (j : Job) (k : Nat) : Bool :=
  let size := decide (j.bands < 1 ∨ j.cols < 1 ∨ k < j.cols ∨ 262144 < j.bands * j.cols)
  let stride := decide (j.stride < j.cols * j.lineBytes)
  let src := !j.fromPage && !inWindow (j.word 1) j.srcBytes
  let dst := !j.toPage && !inWindow (j.word 3) j.dstBytes
  match j.kind with
  | 1 => size || stride || j.fromPage || src || dst || decide (j.srcBytes < j.rawBytes) || (!j.toPage && decide (j.word 3 % 8 ≠ 0))
  | 2 => size || stride || j.toPage || src || dst || (!j.fromPage && decide (j.word 1 % 8 ≠ 0))
  | 3 => size || !j.fromPage || !j.toPage
  | _ => true

/-- A source block of a page. -/
def State.sourceBlock (s : State) (j : Job) (rc : Nat × Nat) : Option Octets :=
  match s.pageOf j.stream j.srcTag with
  | some p => ((p.resident (j.srcIndex p.columns rc)).filter fun b => !b.lost).map fun b => b.data
  | none => none

/-- R168 and the state of the source page: 0, 1 for the mode, 2 for a page. -/
def State.jobAllowed (s : State) (j : Job) : Nat :=
  if j.toPage ∧ s.pageMode = false then 1
  else
    let dst := !j.toPage || match s.pageOf j.stream j.tag with
      | some p => !p.committed
      | none => false
    let src := !j.fromPage || j.blocksOf.all fun rc => (s.sourceBlock j rc).isSome
    if dst && src then 0 else 2

/-- R167: the output guard. -/
def State.guardOk (s : State) (j : Job) : Bool :=
  let out := 64 * j.bands * j.stride
  decide (out ≤ j.dstBytes) && (j.fromPage || decide (out ≤ s.regN o4800.RATIO_LIMIT * j.srcBytes))

/-- The pixels of one block of a raw rectangle in the window (R151, R166). -/
def State.rawPixels (s : State) (j : Job) (rc : Nat × Nat) : List Nat :=
  let b := if j.bilevel then 1 else 2
  (List.range 64).flatMap fun i =>
    unpackRaw 256 b (bitsOf (s.load (j.word 1 + (64 * rc.1 + i) * j.stride + rc.2 * j.lineBytes) j.lineBytes))

/-- A job fails at its present block (R169). -/
def Job.fail (j : Job) (status reason : Nat) : Job := { j with status, reason, failed := j.done }

/-- R168: whether a copy of a block is in a job in flight or waits behind the verifier (Table 05-4, check 7). -/
def State.claimed (s : State) (stream tag i : Nat) : Bool :=
  s.claimedByJob stream tag i || (s.queueOf stream).any fun a => match a with
    | .block o _ _ gone => !gone && blockTag o == tag && blockIndex o == i
    | .commit _ _ => false

/-- Takes a block that a job has made: into the page's set after Table 05-4, or to the window. -/
def State.jobBlock (s : State) (j : Job) (k : Nat) (rc : Nat × Nat) (o : Octets) : Job :=
  let reason := if j.toPage then s.verifyReason j.stream o (s.claimed j.stream) else 0
  if reason ≠ 0 then j.fail 2 reason
  else
    { j with done := j.done + 1, bytes := j.bytes + o.length,
             blocks := if j.toPage then (j.dstIndex k rc, o) :: j.blocks else j.blocks,
             writes := if j.toPage then j.writes else (j.word 3 + j.bytes, o) :: j.writes }

/-- COMPRESS of one block; `mismatches` are the positions at which the self-verify of R163 differs, so that the block is written
again as RAW. -/
def State.compressStep (s : State) (mismatches : List Nat) (k : Nat) (j : Job) (rc : Nat × Nat) : Job :=
  if j.status ≠ 0 then j
  else
    let index := j.dstIndex k rc
    let (o, back, fits) := compressBlock (bits (j.word 0) 39 38) j.tag index j.bilevel (s.rawPixels j rc) j.bytes j.dstBytes
    if fits = false then j.fail 1 0
    else
      let again := mismatches.contains j.done
      let raw := rawForm j.tag index j.bilevel (s.rawPixels j rc) j.bytes j.dstBytes
      let j := { j with rawBack := if back then j.rawBack + 1 else j.rawBack,
                        verBack := if again then j.verBack + 1 else j.verBack }
      if again = true ∧ raw.2 = false then j.fail 1 0 else s.jobBlock j k rc (if again then raw.1 else o)

/-- Checks 1 to 4 and the decoding of a block that a DECOMPRESS job reads. -/
def decodeChecked (bilevel : Bool) (o : Octets) : Sum Nat (List Nat) :=
  if blockLengthOk o = false then .inl 1
  else if blockCrc o ≠ blockCrcOf o then .inl 2
  else if blockVersion o ≠ 1 ∨ blockMode o = 3 then .inl 3
  else if blockBilevel o ≠ bilevel then .inl 4
  else decodeBlock o

/-- The octets of the next block in a window source at offset n of it (R166). -/
def State.windowBlock (s : State) (j : Job) (n : Nat) : Octets :=
  let head := s.load (j.word 1 + n) 16
  let len := if blockEmpty head then 16 else 24 + 8 * blockWords head
  s.load (j.word 1 + n) (min len (j.srcBytes - n))

/-- DECOMPRESS of one block: its 64 raw lines; the Nat is the offset of the next block in a window source. -/
def State.decompressStep (s : State) (acc : Job × Nat) (rc : Nat × Nat) : Job × Nat :=
  let (j, at_) := acc
  if j.status ≠ 0 then acc
  else
    let o := if j.fromPage then (s.sourceBlock j rc).getD [] else s.windowBlock j at_
    match decodeChecked j.bilevel o with
    | .inl r => (j.fail 2 r, at_)
    | .inr pixels =>
      let b := if j.bilevel then 1 else 2
      let lines := (List.range 64).map fun i =>
        (j.word 3 + (64 * rc.1 + i) * j.stride + rc.2 * j.lineBytes,
         packBits j.lineBytes ((pixels.drop (256 * i)).take 256 |>.flatMap (numberBits b)))
      ({ j with done := j.done + 1, bytes := j.bytes + 64 * j.lineBytes, writes := lines ++ j.writes }, at_ + o.length)

/-- COPY of one block. -/
def State.copyStep (s : State) (k : Nat) (j : Job) (rc : Nat × Nat) : Job :=
  if j.status ≠ 0 then j
  else match s.sourceBlock j rc with
    | none => j.fail 4 0
    | some o => s.jobBlock j k rc (renameBlock j.tag (j.dstIndex k rc) o)

/-- Runs a job as its descriptor is taken (R161 to R168). -/
def State.makeJob (s : State) (words mismatches : List Nat) : Job :=
  let j := Job.fresh words
  let k := s.blockColumns
  if j.bad k then { j with status := 3 }
  else if s.jobAllowed j ≠ 0 then { j with status := 4 }
  else match j.kind with
    | 1 => j.blocksOf.foldl (s.compressStep mismatches k) j
    | 2 => if s.guardOk j then (j.blocksOf.foldl s.decompressStep (j, 0)).1 else { j with status := 6 }
    | _ => j.blocksOf.foldl (s.copyStep k) j

/-- R165: the codec engine takes the next descriptor from ring 3 when it is of a kind; at most 64 jobs are in flight. -/
def State.startJob (ofKind : Nat → Bool) (mismatches : List Nat) (s : State) : State :=
  if 64 ≤ s.pageStore.jobs.length then s
  else match State.takeSlot 256 3 8 s with
    | (none, s) => s
    | (some words, next) =>
      if ofKind (bits (words.getD 0 0) 47 40) = false then s
      else
        let j := next.makeJob words mismatches
        let s := next.withPages fun q => { q with jobs := q.jobs ++ [j] }
        let s := if j.status = 4 ∧ s.jobAllowed j = 1 then s.auditRefusal 1 0x05000401 else s
        let s := if j.kind = 1 then s.addReg o4800.BLOCKS_CODED j.done else s
        let s := (s.addReg o4800.RAW_FALLBACKS j.rawBack).addReg o4800.VERIFY_FALLBACKS j.verBack
        let s := (List.range j.verBack).foldl (fun s _ => s.raise 34 0 0 17) s
        s.setRegN o4800.JOBS_IN_FLIGHT s.pageStore.jobs.length

/-- CODEC_COMPRESS (R161); a descriptor of no kind is taken here too. -/
def execCodecCompress (t : Nat) (mismatches : List Nat) (s : State) : Host.Outcome State Fault Refusal :=
  s.runOn t (State.startJob (fun k => k != 2 && k != 3) mismatches)

/-- CODEC_DECOMPRESS (R167). -/
def execCodecDecompress (t : Nat) (s : State) : Host.Outcome State Fault Refusal :=
  s.runOn t (State.startJob (fun k => k == 2) [])

/-- CODEC_COPY (R166). -/
def execCodecCopy (t : Nat) (s : State) : Host.Outcome State Fault Refusal :=
  s.runOn t (State.startJob (fun k => k == 3) [])

/-- R169: the contents of a window destination after a failed job are undefined: fresh octets (log entry 4). -/
def State.undefine (s : State) (a n : Nat) : State :=
  let o : Octets := (List.range n).map fun i => BitVec.ofNat 8 (Config.fresh (s.free + i))
  { (s.store a o) with free := s.free + n }

/-- The completion record of Table 05-6. -/
def Job.record (j : Job) (elapsed : Nat) : List Nat :=
  [place j.id 63 48 + place j.status 47 40 + place j.reason 39 32,
   place j.done 63 32 + place (if j.status = 0 then 0 else j.failed) 31 0,
   place j.bytes 63 32 + place j.rawBack 31 16 + place j.verBack 15 0, place elapsed 63 32]

/-- R168, R169: a job ends: all its blocks become resident or none does. -/
def State.endJob (id elapsed : Nat) (s : State) : State :=
  match s.pageStore.jobs.find? fun j => j.id == id with
  | none => s
  | some j =>
    let s := s.withPages fun q => { q with jobs := q.jobs.erase j }
    let s := s.setRegN o4800.JOBS_IN_FLIGHT s.pageStore.jobs.length
    let isOpen := match s.pageOf j.stream j.tag with
      | some p => !p.committed
      | none => false
    let j := if j.status = 0 ∧ j.toPage ∧ isOpen = false then { j with status := 2, reason := 5 } else j
    let s := if j.status = 0 then
        let s := s.incReg o4800.JOBS_DONE
        if j.toPage then
          j.blocks.foldr (fun b s =>
            let c := s.homeOf s.blockColumns b.1
            s.placeBlock j.stream b.2 c (s.allocate c s.storeBase b.2)) s
        else j.writes.foldr (fun w s => s.store w.1 w.2) s
      else
        let s := s.incReg o4800.JOBS_FAILED
        let s := if j.status = 1 then s.incReg o4800.BERM_FAILS else s
        let s := s.raise 35 j.status 0 17
        if j.toPage ∨ j.status = 6 then s else s.undefine (j.word 3) (min j.dstBytes (windowSize - j.word 3))
    s.ringPut 4 (j.record elapsed)

/-- CODEC_JOB_END (R169). -/
def execCodecJobEnd (t job elapsedUs : Nat) (s : State) : Host.Outcome State Fault Refusal :=
  s.runOn t (State.endJob job elapsedUs)

end Sys2Proof.Machine
end

