-- ==== Sys2Proof/Machine/Composer.lean ====
section
/-! DEFINITION. Machine/Composer.lean: chapter 07, the drop composer: candidates ranked, drops given and lent, counted and
traced. -/
namespace Sys2Proof.Machine

/-- One column while its seep group is composed (R216): its bar column, the candidates still eligible, the slots taken so
far as a mask, the drops not yet given, and what the trace says of it. -/
structure Column where
  col      : Nat
  demand   : Nat
  modulus  : Nat
  hist     : List Nat
  elig     : List Candidate
  taken    : Nat
  need     : Nat
  lent     : Nat × Nat
  lost     : Nat
  received : Bool
  deriving DecidableEq, Repr

/-- R213: the key of Table 07-4 as one number, compared part by part; the debt is at most 8. -/
def rankKey (line : Int) (x : Column) (n : Candidate) : Nat :=
  let debt := (x.hist.filter fun m => bit m n.slot).length
  let rot := (((n.slot : Int) - line - x.col) % x.modulus).toNat
  ((n.probe * 2 + n.cls) * 16 + debt) * 8 + rot

/-- R213: the best of some candidates. -/
def bestOf (line : Int) (x : Column) : List Candidate → Option Candidate
  | [] => none
  | n :: rest =>
    match bestOf line x rest with
    | none => some n
    | some b => if rankKey line x n ≤ rankKey line x b then some n else some b

/-- R214: nozzle n fires on this line. -/
def Column.take (x : Column) (n : Candidate) : Column :=
  { x with elig := x.elig.filter (fun m => m.slot != n.slot), taken := setBit x.taken n.slot true }

/-- R214: pass 1 for one column. -/
def passOne (line : Int) : Nat → Column → Column
  | 0, x => x
  | fuel + 1, x =>
    if x.need = 0 then x
    else match bestOf line x x.elig with
      | none => x
      | some n => passOne line fuel { x.take n with need := x.need - 1 }

/-- R216: the receiving column fires the drop. -/
def Column.receive (line : Int) (x : Column) : Column :=
  match bestOf line x x.elig with
  | none => x
  | some n => { x.take n with received := true }

/-- Whether column i of a group exists and has a nozzle still eligible. -/
def hasRoomAt (g : List Column) (i : Int) : Bool :=
  if i < 0 then false
  else match g[i.toNat]? with
    | some x => !x.elig.isEmpty
    | none => false

/-- R216: excess drop j of the i-th column of a group. -/
def lendDrop (line : Int) (i : Nat) (g : List Column) (j : Nat) : List Column :=
  match g[i]? with
  | none => g
  | some x =>
    let left := hasRoomAt g ((i : Int) - 1)
    let right := hasRoomAt g ((i : Int) + 1)
    let toLeft := left && (!right || decide ((line + x.col + j) % 2 = 0))
    if toLeft then
      (g.set i { x with lent := (x.lent.1 + 1, x.lent.2) }).modify (i - 1) (Column.receive line)
    else if right then
      (g.set i { x with lent := (x.lent.1, x.lent.2 + 1) }).modify (i + 1) (Column.receive line)
    else g.set i { x with lost := x.lost + 1 }

/-- R216: pass 2 over a group. -/
def passTwo (line : Int) (g : List Column) : List Column :=
  (List.range g.length).foldl (fun g i =>
    (List.range (match g[i]? with
      | some x => x.need
      | none => 0)).foldl (lendDrop line i) g) g

/-- The procedure of R216 on a group whose columns carry their demand, history and eligible candidates. -/
def composeGroup (line : Int) (g : List Column) : List Column :=
  passTwo line (g.map fun (x : Column) => passOne line 3 x)

/-- R219, R221: the masks fired in a die's column on lines L − 1 to L − 8, the last first, by the history tails. -/
def Stream.history (x : Stream) (die col : Nat) (line : Int) : List Nat :=
  (List.range 8).map fun (i : Nat) =>
    match x.masksAt die (line - 1 - (i : Int)) with
    | none => 0
    | some masks => masks.getD col 0

/-- R209, R211, R216: a column of a stream before pass 1. -/
def State.columnFor (s : State) (x : Stream) (m : List (Nat × Nat)) (line : Int) (die demand c : Nat) : Column :=
  let dies := s.regN o3000.DIES
  let hist := x.history die (c - 992 * die) line
  let recent := hist.take (s.refillLines - 1)
  { col := c, demand := demand, modulus := if (overlapOf dies c).isSome then 8 else 4, hist := hist,
    elig := (s.candidates m line c).filter fun n => !(recent.any fun k => bit k n.slot),
    taken := 0, need := demand, lent := (0, 0), lost := 0, received := false }

/-- R215: the seep groups of a die, as its bar columns: the overlap below it, its own columns, the overlap above it. The
Bool says whether its stream counts and traces the group (R217, R223). -/
def State.seepGroups (s : State) (die : Nat) : List (Bool × List Nat) :=
  let dies := s.regN o3000.DIES
  let base := 992 * die
  let lo := if die = 0 then 0 else 32
  let hi := if die + 1 < dies then 992 else 1024
  (if die = 0 then [] else [(false, (List.range 32).map fun i => base + i)]) ++
    [(true, (List.range (hi - lo)).map fun i => base + lo + i)] ++
    (if die + 1 < dies then [(true, (List.range 32).map fun i => base + 992 + i)] else [])

/-- The composed columns of a die for web line L, by group, and whether its stream counts the group. -/
def State.composeDie (s : State) (x : Stream) (m : List (Nat × Nat)) (line : Int) (die : Nat) (pixel : Nat → Nat) :
    List (Bool × List Column) :=
  (s.seepGroups die).map fun (g : Bool × List Nat) =>
    (g.1, composeGroup line (g.2.map fun c => s.columnFor x m line die (pixel c) c))

/-- R217: the counts of a group that its stream counts, and the cells excused for its drops (R305). -/
def State.countColumn (polder : Nat) (line : Int) (s : State) (x : Column) : State :=
  let s := if x.lent.1 = 0 then s else s.addReg o3402.SEEPED_LEFT x.lent.1
  let s := if x.lent.2 = 0 then s else s.addReg o3402.SEEPED_RIGHT x.lent.2
  let n := x.lent.1 + x.lent.2
  let s := s.excuseSeep line x.col x.lent.1 x.lent.2
  let s := if x.lost = 0 then s else s.excuse line x.col x.col
  let s := if n = 0 then s else
    (s.addReg (o3402.SEEPED_BY_POLDER + polder) n).withHealth fun h => { h with seeped := h.seeped + n }
  if x.lost = 0 then s
  else
    (((s.addReg o3402.DROPS_LOST x.lost).setRegN o3402.LAST_LOST_COLUMN x.col).setReg o3402.LAST_LOST_LINE
      (unsigned 64 line)).withHealth fun h => { h with lost := h.lost + x.lost }

/-- Table 07-8: the trace entry of a column. -/
def traceEntry (x : Column) : Nat :=
  let b (on : Bool) (n : Nat) : Nat := if on then 2 ^ n else 0
  place (x.taken / 16) 15 12 + place x.taken 11 8 + b (x.lost != 0) 7 + b (x.lent.1 != 0) 6 + b (x.lent.2 != 0) 5 +
    b x.received 4 + place x.demand 3 2

/-- Whether a traced line is newer than web line L of a run; web lines restart from run to run (R453). -/
def newerThan (run : Nat) (line : Int) (e : Nat × Int × List (Nat × Nat)) : Bool :=
  decide (run < e.1) || (run == e.1 && decide (line < e.2.1))

/-- Puts entries of a web line of a run into the trace of a window, newest line first, 4,096 lines at most (R223). -/
def putTrace (run : Nat) (line : Int) (es : List (Nat × Nat)) (l : List (Nat × Int × List (Nat × Nat))) :
    List (Nat × Int × List (Nat × Nat)) :=
  let here (e : Nat × Int × List (Nat × Nat)) : Bool := e.1 == run && e.2.1 == line
  let newer := l.takeWhile (newerThan run line)
  match l.dropWhile (newerThan run line) with
  | [] => (newer ++ [(run, line, es)]).take 4096
  | e :: older =>
    if here e then newer ++ (run, line, e.2.2 ++ es) :: older else (newer ++ (run, line, es) :: e :: older).take 4096

/-- R223: the trace of window w takes the columns composed here. -/
def State.traceWindow (line : Int) (cols : List Column) (lost : Bool) (s : State) (w : Nat) : State :=
  let first := s.regN (o3405.TRACE_START + w)
  if first = 0xFFFFFFFF then s
  else
    let es := (cols.filter fun x => decide (first ≤ x.col ∧ x.col < first + 32)).map fun (x : Column) => (x.col, traceEntry x)
    if es.isEmpty then s
    else if lost then s.addReg o3405.TRACE_SPILLWAY es.length
    else
      let old := s.health.traces.getD w []
      let now := putTrace (s.regN o2001.MODE_CHANGES) line es old
      let s := (s.withHealth fun h => { h with traces := h.traces.set w now }).copyTrace w line es
      match now.head? with
      | some e => s.setReg (o3405.TRACE_LINE + w) (unsigned 64 e.2.1)
      | none => s

/-- The lane masks of a die from its composed groups, for its 1,024 columns in order. -/
def dieMasks (gs : List (Bool × List Column)) : List Nat := gs.flatMap fun g => g.2.map fun x => x.taken

/-- Band buffers and lane lines that nothing needs any more are dropped: a chunk composed to its end (R173), a line that
all rows have fired and that is not among the 16 written last (R221). -/
def State.pruneStream (s : State) (polder k : Nat) : State :=
  let f := s.firingLine
  let dies := s.streamDies polder k
  let due (l : LaneLine) : Bool :=
    dies.any fun d => (List.range 4).any fun r => decide (f ≤ s.rowLine d r l.line + 1)
  let next := s.streamNext polder k
  s.mapStream polder k fun x =>
    { x with bufs := x.bufs.filter (fun c => decide (next ≤ c.last)),
             lines := x.lines.filter fun l => decide (next ≤ l.line + 16) || due l }

/-- A die's lanes have taken web line L. -/
def Stream.advance (x : Stream) (line : Int) (die : Nat) : Stream :=
  { x with next := if die % 4 < 2 then (line + 1, x.next.2) else (x.next.1, line + 1) }

/-- Composes web line L for some dies of a stream from a pixel function (R183, R214 to R218), counts it and traces it. -/
def State.composeLine (s : State) (polder k : Nat) (line : Int) (lanes : List Nat) (pixel : Nat → Nat) (traceLost : Bool) :
    State :=
  let x := s.streamOf polder k
  let m := s.healthAt line
  let dies := lanes.map fun (d : Nat) => (d, s.composeDie x m line d pixel)
  let counted := dies.flatMap fun (d : Nat × List (Bool × List Column)) =>
    (d.2.filter fun g => g.1).flatMap fun g => g.2
  let written : LaneLine :=
    { line := line, dies := dies.map fun (d : Nat × List (Bool × List Column)) => (d.1, dieMasks d.2) }
  let s := s.mapStream polder k fun x =>
    lanes.foldl (Stream.advance · line ·) { x with lines := written :: x.lines }
  let s := counted.foldl (State.countColumn polder line) s
  ((List.range 8).foldl (State.traceWindow line counted traceLost) s).pruneStream polder k

/-- POLDER_COMPOSE_LINE: the lowest web line that a lane of the stream with room has still to take (R173, R185): a line
admitted, or one that lies in no page, which is blank (R117, R175). -/
def State.composeNext (polder k : Nat) (traceLost : Bool) (s : State) : State :=
  let open_ := (s.streamDies polder k).filter fun d => decide (s.dieLevel d < 256)
  if 16 ≤ polder ∨ 2 ≤ k ∨ s.composes polder = false ∨ open_.isEmpty then s
  else
    let line := smallest 0 (open_.map s.dieNext)
    let lanes := open_.filter fun d => s.dieNext d == line
    match (s.streamOf polder k).chunkAt line with
    | some c => s.composeLine polder k line lanes (c.pixel line) traceLost
    | none => if (s.bandAt line).isNone then s.composeLine polder k line lanes (fun _ => 0) traceLost else s

end Sys2Proof.Machine
end

