-- ==== Sys2Proof/Machine/Composing.lean ====
section
/-! DEFINITION. Machine/Composing.lean: the commands of chapters 06 and 07 that come from the sluice, the streams and the
supervisor, and the writes of chapters 06, 07 and 09. -/
namespace Sys2Proof.Machine

/-- SLUICE_ADMIT_BAND (R173, R175); `faults` names the blocks whose decode fails and whether a mirror copy decodes. -/
def execSluiceAdmitBand (t polder stream : Nat) (faults : List (Nat × Bool)) (s : State) :
    Host.Outcome State Fault Refusal :=
  s.runOn t (State.admitBand polder stream faults)

/-- SLUICE_STARVE_LINE (R124, R175). -/
def execSluiceStarveLine (t polder stream : Nat) (faults : List (Nat × Bool)) (s : State) : Host.Outcome State Fault Refusal :=
  s.runOn t (State.starve polder stream faults)

/-- POLDER_COMPOSE_LINE (R214). -/
def execPolderComposeLine (t polder stream : Nat) (traceLost : Bool) (s : State) : Host.Outcome State Fault Refusal :=
  s.runOn t (State.composeNext polder stream traceLost)

/-- FORCE_TAKEOVER_WRITE (R192, R199). -/
def execForceTakeoverWrite (t : Nat) (rq : Request) (s : State) : Host.Outcome State Fault Refusal :=
  s.request (writesKey [o3020.FORCE_TAKEOVER]) t rq

/-- RETURN_POLDER_WRITE (R197, R199). -/
def execReturnPolderWrite (t : Nat) (rq : Request) (s : State) : Host.Outcome State Fault Refusal :=
  s.request (writesKey [o3020.RETURN_POLDER]) t rq

/-- DIES_WRITE (R15, Table 06-4, Table 09-12). -/
def execDiesWrite (t : Nat) (rq : Request) (s : State) : Host.Outcome State Fault Refusal :=
  s.request (writesKey [o3000.DIES]) t rq

/-- R217: a window of 1 s ends. -/
def State.seepWindow (s : State) : State :=
  let h := s.health
  let s := s.withHealth fun h => { h with seeped := 0, lost := 0 }
  let s := if s.regN o3402.SEEP_RATE_LIMIT < h.seeped then s.raise 49 0 0 23 else s
  if 0 < h.lost then s.raise 50 0 1 23 else s

/-- SEEP_WINDOW (R217). -/
def execSeepWindow (t : Nat) (s : State) : Host.Outcome State Fault Refusal := s.runOn t State.seepWindow

/-- R203: the staged map differs from the one in force, and no health commit carries it yet. -/
def State.healthDue (s : State) : Bool :=
  let carried : Bool := match s.healthCommit with
    | some _ => s.health.coming == s.health.staged
    | none => false
  s.health.staged != s.health.inForce && !carried && !(s.modes.queued.any fun q => q.1 == .health)

/-- HEALTH_COMMIT_STAGE (R203): the supervisor stages a health commit. -/
def execHealthCommitStage (t : Nat) (s : State) : Host.Outcome State Fault Refusal :=
  s.runOn t fun s => if s.mode ≠ 0 ∧ s.healthDue = true then s.supervisorCommit .health [] else s

/-- HEALTH_MAP_SAVE (R208): the map in force is written to flash, keyed by the identity of each die. -/
def execHealthMapSave (t : Nat) (s : State) : Host.Outcome State Fault Refusal :=
  s.runOn t fun s =>
    if s.islandLost 11 then s
    else s.fittedDies.foldl (fun s d => if (s.die d).idOk then s.saveMap (identityKey (s.die d).memory) d else s) s

/-- COLUMN_HEALTH_WRITE (R202, R206, R417). -/
def execColumnHealthWrite (t : Nat) (rq : Request) (s : State) : Host.Outcome State Fault Refusal :=
  s.request (writesKey ((List.range 16).map fun i => o3401.COLUMN_HEALTH + i)) t rq

/-- HEALTH_MAP_WRITE (R202, R417). -/
def execHealthMapWrite (t : Nat) (rq : Request) (s : State) : Host.Outcome State Fault Refusal :=
  s.request (writesKey [o3403.MAP]) t rq

/-- PROBE_ARM (R222, R224). -/
def execProbeArm (t : Nat) (rq : Request) (s : State) : Host.Outcome State Fault Refusal :=
  s.request (writesKey [o3404.PROBE_ARM]) t rq

/-- R222: the streams that compose columns of the probe. -/
def State.probeStreams (s : State) (p : Probe) : List (Nat × Nat) :=
  ((s.fittedDies.filter fun d => decide (p.first < 992 * d + 1024 ∧ 992 * d ≤ p.last)).map fun d => (d / 4, d % 2)).eraseDups

/-- R222: the run of a probe is over: its streams have passed it, or outside PRINT and PROOF the web has. -/
def State.probeDone (s : State) : State :=
  match s.health.probe with
  | none => s
  | some p =>
    match p.start with
    | none => s
    | some at_ =>
      let stop := at_ + p.lines
      let beyond := if s.printing then (s.probeStreams p).all fun k => s.streamPast k.1 k.2 stop
        else decide (stop ≤ s.firingLine)
      if s.regN o3404.PROBE_STATE = 2 ∧ beyond = true then
        let f := s.firingLine
        let d := s.regN o3000.LARGEST_DELAY
        ((s.setRegN o3404.PROBE_STATE 0).withHealth fun h =>
          { h with probe := none,
                   probed := p :: h.probed.filter fun q => decide (f ≤ q.start.getD f + q.lines + d) }).probeFree.raise 51 0 0 23
      else s

/-- PROBE_DONE (R222). -/
def execProbeDone (t : Nat) (s : State) : Host.Outcome State Fault Refusal := s.runOn t State.probeDone

/-- QUARANTINE_MASK_WRITE (R270). -/
def execQuarantineMaskWrite (t : Nat) (rq : Request) (s : State) : Host.Outcome State Fault Refusal :=
  s.request (writesKey [o3802.QUARANTINE_MASK]) t rq

/-- RETRY_WRITE (R277). -/
def execRetryWrite (t : Nat) (rq : Request) (s : State) : Host.Outcome State Fault Refusal :=
  s.request (writesKey [o3802.RETRY]) t rq

end Sys2Proof.Machine
end

