-- ==== Sys2Proof/Machine/InspectCommands.lean ====
section
/-! DEFINITION. Machine/InspectCommands.lean: the commands of chapter 11, each over the operations of
Machine/Inspecting.lean. -/
namespace Sys2Proof.Machine

/-- FRAME_ANALYSIS (R306 to R323). -/
def execFrameAnalysis (t pipeline : Nat) (s : State) : Host.Outcome State Fault Refusal :=
  s.runOn t (State.frameAnalysis pipeline)

/-- NAME_EVAL (R312 to R316). -/
def execNameEval (t pipeline pixel : Nat) (s : State) : Host.Outcome State Fault Refusal :=
  s.runOn t (State.nameEval pipeline pixel)

/-- PROBATION_RECHECK (R315). -/
def execProbationRecheck (t pipeline nozzle : Nat) (s : State) : Host.Outcome State Fault Refusal :=
  s.runOn t (State.recheckProbation pipeline nozzle)

/-- APPROVE_WRITE (R318). -/
def execApproveWrite (t : Nat) (rq : Request) (s : State) : Host.Outcome State Fault Refusal :=
  s.request (writesKey [o5203.APPROVE]) t rq

/-- REJECT_WRITE (R318). -/
def execRejectWrite (t : Nat) (rq : Request) (s : State) : Host.Outcome State Fault Refusal :=
  s.request (writesKey [o5203.REJECT]) t rq

end Sys2Proof.Machine
end

