-- ==== Sys2Proof/Machine/LightCommands.lean ====
section
/-! DEFINITION. Machine/LightCommands.lean: the commands of chapter 12, each over the operations of Machine/Lamps.lean. -/
namespace Sys2Proof.Machine

/-- LIGHT_PULSE (R325 to R329). -/
def execLightPulse (t row : Nat) (s : State) : Host.Outcome State Fault Refusal :=
  s.runOn t (State.lightPulse row)

/-- DIAG_PULSE (R333). -/
def execDiagPulse (t pipeline : Nat) (s : State) : Host.Outcome State Fault Refusal :=
  s.runOn t (State.diagPulse pipeline)

/-- SEGMENT_MEASURE (R332, R335). -/
def execSegmentMeasure (t column current drain : Nat) (s : State) : Host.Outcome State Fault Refusal :=
  s.runOn t (State.measureSegment column current drain)

/-- LIGHT_COLUMN_FAULT (R337). -/
def execLightColumnFault (t column current : Nat) (s : State) : Host.Outcome State Fault Refusal :=
  s.runOn t (State.columnFault column current)

/-- RESTORE_WRITE (R338). -/
def execRestoreWrite (t : Nat) (rq : Request) (s : State) : Host.Outcome State Fault Refusal :=
  s.request (writesKey [o5403.RESTORE, o5403.RESTORE + 1]) t rq

/-- LIGHT_TEST_DONE (R338). -/
def execLightTestDone (t pipeline : Nat) (s : State) : Host.Outcome State Fault Refusal :=
  s.runOn t (State.testDone pipeline)

/-- NTC_READ (R340 to R342). -/
def execNtcRead (t pipeline : Nat) (reading : Int) (s : State) : Host.Outcome State Fault Refusal :=
  s.runOn t (State.readNtc pipeline reading)

end Sys2Proof.Machine
end

