-- ==== Sys2Proof/Machine/Mailboxes.lean ====
section
/-! DEFINITION. Machine/Mailboxes.lean: the commands of chapter 18 that act on flags, mailboxes, rings, locks and the
journal. Master identity 1 also reaches them by MEM packets (R481). -/
namespace Sys2Proof.Machine

/-- An access to the register page by a master, answered with its abort code and value; identity 2 has none (R481). -/
def State.access (m : Nat) (f : State → Nat × Nat × State) (s : State) : State :=
  if m = 2 then s.answerTo m 0x02000001 0
  else
    let (code, v, s) := f s
    s.answerTo m code v

/-- CLEAR_WRITE (R472): word 0 or 1 of `CLEAR`; `met` are the bits raised within 2 ns of the write. -/
def execClearWrite (t master word v met : Nat) (s : State) : Host.Outcome State Fault Refusal :=
  s.runOn t (State.access master fun s =>
    if word < 2 then (0, 0, s.clearFlags word v met) else (0x02001302, 0, s))

/-- MB_NOTICE_POST (R483). -/
def execMbNoticePost (t master ch v : Nat) (s : State) : Host.Outcome State Fault Refusal :=
  s.runOn t (State.access master fun s =>
    if ch < 32 then ((s.postNotice master ch (v % 2 ^ 64)).1, 0, (s.postNotice master ch (v % 2 ^ 64)).2)
    else (0x02001302, 0, s))

/-- MB_NOTICE_TAKE (R484, R487). -/
def execMbNoticeTake (t master ch : Nat) (s : State) : Host.Outcome State Fault Refusal :=
  s.runOn t (State.access master fun s => if ch < 32 then s.takeNotice master ch else (0, 0, s))

/-- RING_HEAD_WRITE (R489, R492). -/
def execRingHeadWrite (t master ring v : Nat) (s : State) : Host.Outcome State Fault Refusal :=
  s.runOn t (State.access master fun s =>
    if ring < 16 then ((s.writeHead master ring v).1, 0, (s.writeHead master ring v).2) else (0x02001302, 0, s))

/-- RING_TAIL_WRITE (R489, R492). -/
def execRingTailWrite (t master ring v : Nat) (s : State) : Host.Outcome State Fault Refusal :=
  s.runOn t (State.access master fun s =>
    if ring < 16 then ((s.writeTail master ring v).1, 0, (s.writeTail master ring v).2) else (0x02001302, 0, s))

/-- LOCK_READ (R494, R495): `rival` reads the same lock in the same instant and comes second. -/
def execLockRead (t master lock : Nat) (rival : Option Nat) (s : State) : Host.Outcome State Fault Refusal :=
  s.runOn t fun s =>
    if 32 ≤ lock then s.access master (fun s => (0, 0, s))
    else
      let free := (s.lockOwner lock).isNone
      let s := s.access master (fun s => (0, (s.readLock master lock).1, (s.readLock master lock).2))
      match rival with
      | none => s
      | some m =>
        let s := if free ∧ master ≠ 2 ∧ m ≠ 2 then s.incReg o7402.CONTENDED else s
        s.access m (fun s => (0, (s.readLock m lock).1, (s.readLock m lock).2))

/-- LOCK_WRITE (R494, R495): `tie` says that a read met the release; the one that came first is the earlier command. -/
def execLockWrite (t master lock : Nat) (tie : Bool) (s : State) : Host.Outcome State Fault Refusal :=
  s.runOn t (State.access master fun s =>
    if lock < 32 then
      let (code, s) := s.writeLock master lock
      (code, 0, if tie ∧ code = 0 then s.incReg o7402.CONTENDED else s)
    else (0x02001302, 0, s))

/-- JOURNAL_FLASH_WRITE (R474): the records that wait reach flash, or the write fails and they wait on. -/
def execJournalFlashWrite (t : Nat) (ok : Bool) (s : State) : Host.Outcome State Fault Refusal :=
  s.run t fun s =>
    if ok ∧ s.islandLost 11 = false then
      { s with flash := s.flash.addJournal s.events.journal, events := { s.events with journal := [] } }
    else s

end Sys2Proof.Machine
end

