-- ==== Sys2Proof/Machine/ModeCommands.lean ====
section
/-! DEFINITION. Machine/ModeCommands.lean: the commands of chapter 17: mode requests, the ends of fills, drains and PROOF
runs, and the firmware images. Tide-line commands stand in Machine/Tide.lean, start-up in Machine/Startup.lean. -/
namespace Sys2Proof.Machine

/-- A WRITE of 2000h:01 that asks for one mode code (R452). -/
def asksMode (code : Nat) (r : Req) : Bool := writesKey [o2000.REQUEST] r && (r.body.drop 8).head? == some (BitVec.ofNat 8 code)

/-- REQUEST_CAPPED (R452). -/
def execRequestCapped (t : Nat) (rq : Request) (s : State) : Host.Outcome State Fault Refusal := s.request (asksMode 1) t rq
/-- REQUEST_SERVICE (R452). -/
def execRequestService (t : Nat) (rq : Request) (s : State) : Host.Outcome State Fault Refusal := s.request (asksMode 2) t rq
/-- REQUEST_READY (R454). -/
def execRequestReady (t : Nat) (rq : Request) (s : State) : Host.Outcome State Fault Refusal := s.request (asksMode 3) t rq
/-- REQUEST_PRINT (R453). -/
def execRequestPrint (t : Nat) (rq : Request) (s : State) : Host.Outcome State Fault Refusal := s.request (asksMode 4) t rq
/-- REQUEST_PROOF (R451). -/
def execRequestProof (t : Nat) (rq : Request) (s : State) : Host.Outcome State Fault Refusal := s.request (asksMode 5) t rq
/-- REQUEST_TEST (R452). -/
def execRequestTest (t : Nat) (rq : Request) (s : State) : Host.Outcome State Fault Refusal := s.request (asksMode 6) t rq
/-- REQUEST_BOOT (R452): always refused, but for BOOT itself, the mode already in force. -/
def execRequestBoot (t : Nat) (rq : Request) (s : State) : Host.Outcome State Fault Refusal := s.request (asksMode 0) t rq
/-- REQUEST_SAFE_HOLD (R452). -/
def execRequestSafeHold (t : Nat) (rq : Request) (s : State) : Host.Outcome State Fault Refusal := s.request (asksMode 7) t rq

/-- FILL_DONE (R453): every lane FIFO of every fitted polder has reached 256 lines once. -/
def execFillDone (t : Nat) (s : State) : Host.Outcome State Fault Refusal :=
  s.runOn t fun s => if s.lanesFilled then s.fillDone else s

/-- DRAIN_DONE (R454). -/
def execDrainDone (t : Nat) (s : State) : Host.Outcome State Fault Refusal := s.runOn t State.drainDone

/-- PROOF_RUN_END (R451). -/
def execProofRunEnd (t : Nat) (s : State) : Host.Outcome State Fault Refusal := s.runOn t State.proofEnd

/-- IMAGE_TRANSFER (R465); `check` is what the chip finds in the whole image. -/
def execImageTransfer (t : Nat) (rq : Request) (check : ImageCheck) (s : State) : Host.Outcome State Fault Refusal :=
  s.run t (State.byPath rq (fun rq =>
    (readFrame rq.frame).check1 rq == 0 && (readFrame rq.frame).op == 4 && (readFrame rq.frame).key == o7E01.IMAGE)
    fun rq s => s.arrive check false rq)

/-- SWAP_WRITE (R466). -/
def execSwapWrite (t : Nat) (rq : Request) (s : State) : Host.Outcome State Fault Refusal := s.request (writesKey [o7E02.SWAP]) t rq

/-- R466: every pair runs the image swapped to; on the way there the swap reaches CONFIRMING, on the way back it ends. -/
def State.swapRestarted (s : State) : State :=
  if s.regN o7E02.SWAP_STATE = 1 ∧ s.modes.swapPairs.isEmpty then
    if s.modes.swapBack then s.swapEnd
    else
      { (s.setRegN o7E02.SWAP_STATE 2) with
        modes := { s.modes with confirmBy := s.now + s.regN o7E02.CONFIRM_S * 1000000000 } }
  else s

/-- SWAP_RESTARTED (R466). -/
def execSwapRestarted (t : Nat) (s : State) : Host.Outcome State Fault Refusal := s.runOn t State.swapRestarted

/-- CONFIRM_WRITE (R467). -/
def execConfirmWrite (t : Nat) (rq : Request) (s : State) : Host.Outcome State Fault Refusal :=
  s.request (writesKey [o7E02.CONFIRM]) t rq

/-- SWAP_CONFIRM_TIMEOUT (R467). -/
def execSwapConfirmTimeout (t : Nat) (s : State) : Host.Outcome State Fault Refusal :=
  s.runOn t fun s => if s.regN o7E02.SWAP_STATE = 2 ∧ s.modes.confirmBy ≤ s.now then s.swapBack else s

end Sys2Proof.Machine
end

