-- ==== Sys2Proof/Machine/RasterLink.lean ====
section
/-! DEFINITION. Machine/RasterLink.lean: the commands of chapter 03: columns, packets, training, timers and the writes of
the raster link, and the MEM and PAGE packets. -/
namespace Sys2Proof.Machine

/-! ### Columns -/

/-- R80, R101: what an AM column shows of lane n, whose AM carries `am`; the Bool says that the lane has to be marked failed. -/
def laneBad (n : Nat) (a : AmLane) (am : Option Nat) (u : Lane) : Bool × Lane :=
  let wrong := !am.any fun f => bits f 55 53 == n
  let bip := ((am.any fun f => bits f 21 14 != a.parity) :: u.bip).take 8
  let bad := if wrong then u.badAms + 1 else 0
  (decide (2 ≤ bad) || decide (3 ≤ (bip.filter id).length) || (am.isSome && decide (64 < a.skew)), { u with bip := bip, badAms := bad })

/-- RX_AM_COLUMN (R79, R80, R101): in UP and RESIZE the lanes that the column proves failed; in training a lane with a
wrong number or too much skew is marked failed (R74, R80). `am` gives octets 1–7 of each lane's AM block. -/
def State.amColumn (lanes : List AmLane) (am : Nat → Option Nat) (s : State) : State :=
  let used := (List.range 8).filter fun n => bit s.laneLimit n
  let at_ (n : Nat) : AmLane := lanes.getD n { parity := 0, skew := 0 }
  let count := match (used.filterMap am).head? with
    | some f => bits f 37 22
    | none => s.link.lanes.amCount
  let s := s.withLanes fun l => { l with amCount := count }
  if s.linkUp then
    let seen := (List.range 8).map fun n => laneBad n (at_ n) (am n) (s.unit n)
    let s := s.withLanes fun l => { l with units := seen.map fun x => x.2 }
    let s := (seen.zipIdx).foldl (fun s x =>
      s.laneStatus x.2 fun w => w - place (bits w 23 16) 23 16 + place (x.1.2.bip.filter id).length 23 16) s
    s.failLanes (maskOf (used.filter fun n => match seen[n]? with
      | some x => x.1
      | none => false))
  else
    let wrong := maskOf (used.filter fun n => (am n).any fun f => bits f 55 53 != n || decide (64 < (at_ n).skew))
    (s.withLanes fun l => { l with marked := l.marked ||| wrong }).showLanes (s.regN o4000.ACTIVE_LANES)
      (s.regN o4000.STANDBY_LANES) (s.regN o4000.FAILED_LANES ||| wrong)

/-- RX_AM_COLUMN (R80). -/
def execRxAmColumn (t : Nat) (x : Reception) (lanes : List AmLane) (s : State) : Host.Outcome State Fault Refusal :=
  s.runLink t fun s => (s.hear x).amColumn lanes (lastOf (s.hearAll x) blockAM)

/-- LANE_FAIL (R101): lanes lose block lock. -/
def execLaneFail (t : Nat) (x : Reception) (s : State) : Host.Outcome State Fault Refusal :=
  s.runLink t fun s => s.hear x

/-- R102: the TARGET_AM column arrives: an acknowledged mask takes effect, another ORDER goes out, or after the third the
link retrains (log entry 46). A wider width then possible is ordered at once (Table 03-11). -/
def State.resizeNow (s : State) : State :=
  match s.link.lanes.order with
  | none => s
  | some o =>
    if s.regN o4000.STATE ≠ 5 then s
    else
      let s := s.withLanes fun l => { l with amCount := o.target }
      if o.acked then
        let s := s.showLanes o.mask (s.regN o4000.ACTIVE_LANES ||| s.regN o4000.STANDBY_LANES) (s.regN o4000.FAILED_LANES)
        let s := ((s.setRegN o4000.STATE 4).setRegN o4000.WIDTH (lanesOf o.mask).length).incReg o4002.RESIZES
        (s.withLanes fun l => { l with order := none, stripe := o.mask }).widen
      else if o.tries < 3 then s.sendOrder o.mask (o.tries + 1)
      else s.enterRetrain

/-- RESIZE_SWITCH (R102). -/
def execResizeSwitch (t : Nat) (s : State) : Host.Outcome State Fault Refusal := s.runLink t State.resizeNow

/-- A LINK value of one operation is received (R102); the lanes hear whatever comes. -/
def State.onLink (op : Nat) (f : Nat → State → State) (x : Reception) (s : State) : State :=
  match s.linkIn x with
  | some v => if bits v 55 48 = op ∧ s.linkUp then f v (s.hear x) else s.hear x
  | none => s.hear x

/-- R102: the ACK carries the ORDER's mask and `TARGET_AM`. -/
def State.linkAck (v : Nat) (s : State) : State :=
  match s.link.lanes.order with
  | some o =>
    if o.mask = bits v 47 40 ∧ o.target = bits v 39 24 then
      s.withLanes fun l => { l with order := some { o with acked := true } }
    else s
  | none => s

/-- RX_LINK_ACK (R102). -/
def execRxLinkAck (t : Nat) (x : Reception) (s : State) : Host.Outcome State Fault Refusal :=
  s.runLink t (State.onLink 3 State.linkAck x)

/-- RX_LINK_REPORT (R101): a lane that the host does not receive without fault fails. -/
def execRxLinkReport (t : Nat) (x : Reception) (s : State) : Host.Outcome State Fault Refusal :=
  s.runLink t (State.onLink 1 (fun v s => s.failLanes (255 - bits v 47 40)) x)

/-- RX_LINK_RETRAIN (R94). -/
def execRxLinkRetrain (t : Nat) (x : Reception) (s : State) : Host.Outcome State Fault Refusal :=
  s.runLink t (State.onLink 4 (fun _ s => if s.regN o4000.STATE = 4 then s.enterRetrain else s) x)

/-! ### Packets -/

/-- RX_BLOCK_PACKET (R155). -/
def execRxBlockPacket (t : Nat) (x : Reception) (s : State) : Host.Outcome State Fault Refusal :=
  s.runLink t (State.hearPacket (fun p => packetType p == 1) State.blockPacket x)

/-- Whether a packet is a PAGE packet with one operation. -/
def isPageOp (op : Nat → Bool) (p : Packet) : Bool := packetType p == 2 && op (bits (packetWord p 0) 31 24)

/-- PAGE_OPEN (R115). -/
def execPageOpen (t : Nat) (x : Reception) (s : State) : Host.Outcome State Fault Refusal :=
  s.runLink t (State.hearPacket (isPageOp fun op => op == 1) State.pagePacket x)

/-- PAGE_COMMIT (R158). -/
def execPageCommit (t : Nat) (x : Reception) (s : State) : Host.Outcome State Fault Refusal :=
  s.runLink t (State.hearPacket (isPageOp fun op => op == 2) State.pagePacket x)

/-- PAGE_ABORT (R116). -/
def execPageAbort (t : Nat) (x : Reception) (s : State) : Host.Outcome State Fault Refusal :=
  s.runLink t (State.hearPacket (isPageOp fun op => op == 3) State.pagePacket x)

/-- PAGE_OP_INVALID (R115). -/
def execPageOpInvalid (t : Nat) (x : Reception) (s : State) : Host.Outcome State Fault Refusal :=
  s.runLink t (State.hearPacket (isPageOp fun op => !(op == 1 || op == 2 || op == 3)) State.pagePacket x)

/-- MEM_WRITE (R87): a MEM packet that is no READ. -/
def execMemWrite (t : Nat) (x : Reception) (s : State) : Host.Outcome State Fault Refusal :=
  s.runLink t (State.hearPacket (fun p => packetType p == 4 && bits (packetWord p 0) 63 56 != 2) State.memPacket x)

/-- MEM_READ (R87). -/
def execMemRead (t : Nat) (x : Reception) (s : State) : Host.Outcome State Fault Refusal :=
  s.runLink t (State.hearPacket (fun p => packetType p == 4 && bits (packetWord p 0) 63 56 == 2) State.memPacket x)

/-- R95, R120, R409, R486: a reset of the host. -/
def State.peerReset (next : Nat) (s : State) : State :=
  let freeR := s.freeUnits false
  let freeC := s.freeUnits true
  let s := s.withLink fun l =>
    { l with expectSeq := next, gapNack := none, replay := [], spentR := 0, spentC := 0, hostR := 0, hostC := 0,
             advR := freeR, advC := freeC, doorbells := true }
  let s := s.raise 19 0 0 17
  let s := (s.pageStore.pages.filter fun p => !p.committed).foldl State.abortPage s
  s.closeRaster.raiseEpoch 1

/-- R90, R93, R95: a CREDIT packet of the host. -/
def State.creditPacket (p : Packet) (s : State) : State :=
  let w0 := packetWord p 0
  let w1 := packetWord p 1
  let reset := bit w0 0
  let again := s.link.doorbells
  let s := if reset ∧ (s.link.heard = false ∨ s.link.lastReset = false) then s.peerReset (bits w0 47 32) else s
  let ack := bits w0 63 48
  let left := if bit w0 1 then s.link.replay.dropWhile fun q => decide (signed16 q.seq ack ≤ 0) else s.link.replay
  let s := s.withLink fun l =>
    { l with limitR := bits w1 63 32, limitC := bits w1 31 0, heard := true, lastReset := reset, replay := left,
             lastAck := if left.length < l.replay.length then s.now else l.lastAck }
  let s := State.flushWaiting s.link.waiting s
  if again then (s.withLink fun l => { l with doorbells := false }).ringAgain 1 else s

/-- RX_CREDIT (R90). -/
def execRxCredit (t : Nat) (x : Reception) (s : State) : Host.Outcome State Fault Refusal :=
  s.runLink t (State.hearPacket (fun p => packetType p == 8) State.creditPacket x)

/-- R93: go-back-N from the `EXPECT_SEQ` of a NACK. -/
def State.nackPacket (p : Packet) (s : State) : State :=
  (s.incReg o4002.NACKS_RECEIVED).replayFrom fun q => decide (0 ≤ signed16 q.seq (bits (packetWord p 0) 63 48))

/-- RX_NACK (R93). -/
def execRxNack (t : Nat) (x : Reception) (s : State) : Host.Outcome State Fault Refusal :=
  s.runLink t (State.hearPacket (fun p => packetType p == 9) State.nackPacket x)

/-- Whether a packet is an ECHO request, or reply. -/
def isEcho (reply : Bool) (p : Packet) : Bool := packetType p == 10 && bit (packetWord p 0) 39 == reply

/-- R88: the reply returns the data unchanged. -/
def State.echoRequest (p : Packet) (s : State) : State :=
  s.putPacket 10 0 (octetsOf 8 (setBit (packetWord p 0) 39 true) ++ p.payload.drop 8)

/-- RX_ECHO_REQUEST (R88). -/
def execRxEchoRequest (t : Nat) (x : Reception) (s : State) : Host.Outcome State Fault Refusal :=
  s.runLink t (State.hearPacket (isEcho false) State.echoRequest x)

/-- R88: the round trip of the chip's own request. -/
def State.echoReply (p : Packet) (s : State) : State :=
  match s.link.echoSent with
  | some (id, at_) =>
    if bits (packetWord p 0) 63 48 = id then
      (s.setRegN o4002.ECHO_RTT_NS ((s.now - at_) % 2 ^ 32)).withLink fun l => { l with echoSent := none }
    else s
  | none => s

/-- RX_ECHO_REPLY (R88). -/
def execRxEchoReply (t : Nat) (x : Reception) (s : State) : Host.Outcome State Fault Refusal :=
  s.runLink t (State.hearPacket (isEcho true) State.echoReply x)

/-- RX_PACKET_BAD (R94). -/
def execRxPacketBad (t : Nat) (x : Reception) (s : State) : Host.Outcome State Fault Refusal :=
  s.runLink t fun s => State.hearPacket (s.hear x).isBad (fun _ s => s) x s

/-- ECHO_TIMER (R88): in UP a request every 100 ms, its id and length by log entry 49. -/
def execEchoTimer (t : Nat) (s : State) : Host.Outcome State Fault Refusal :=
  s.runLink t fun s =>
    if s.regN o4000.STATE = 4 then
      let id := (s.link.echoId + 1) % 65536
      (s.withLink fun l => { l with echoId := id, echoSent := some (id, s.now) }).putPacket 10 0
        (octetsOfWords [place id 63 48, 0])
    else s

/-- CREDIT_TIMER (R92). -/
def execCreditTimer (t : Nat) (s : State) : Host.Outcome State Fault Refusal :=
  s.runLink t fun s => if s.regN o4000.STATE = 4 then s.sendCredit else s

/-- REPLAY_TIMEOUT (R93): `ACK_SEQ` has stood still for `REPLAY_TIMEOUT_US`. -/
def execReplayTimeout (t : Nat) (s : State) : Host.Outcome State Fault Refusal :=
  s.runLink t fun s =>
    if s.linkUp ∧ s.link.lastAck + s.regN o4000.REPLAY_TIMEOUT_US * 1000 ≤ s.now then
      (s.replayFrom fun _ => true).withLink fun l => { l with lastAck := s.now }
    else s

/-! ### Training -/

/-- Whether lane n carries a valid TRN block (R99). -/
def heardTrn (h : List LaneHeard) (n : Nat) : Bool := (lastOf h blockTRN n).isSome

/-- DETECT_LOCKED (R99): block lock and valid TRN for 1 ms. -/
def execDetectLocked (t : Nat) (x : Reception) (s : State) : Host.Outcome State Fault Refusal :=
  s.runLink t fun s =>
    let h := s.hearAll x
    let found := (List.range 8).any fun n => heardTrn h n && match h[n]? with
      | some l => l.after.locked
      | none => false
    let u := s.hear x
    if u.regN o4000.STATE = 1 ∧ found = true then u.setRegN o4000.STATE 2 else u

/-- R99: the equalisers at their presets. -/
def State.presetLanes (s : State) : State :=
  s.withLanes fun l => { l with units := l.units.map fun u => { u with eq := presetEqualiser } }

/-- DETECT_TIMEOUT (R99): 100 ms without lock. -/
def execDetectTimeout (t : Nat) (s : State) : Host.Outcome State Fault Refusal :=
  s.runLink t fun s => if s.regN o4000.STATE = 1 then s.presetLanes.enterDetect else s

/-- ALIGN_TIMEOUT (R99): no lane passes within 50 ms. -/
def execAlignTimeout (t : Nat) (s : State) : Host.Outcome State Fault Refusal :=
  s.runLink t fun s => if s.regN o4000.STATE = 2 then s.enterDetect else s

/-- R96, R98: both ends switch to rate k; a rate that is switched back to takes the equaliser settings trained there. -/
def State.switchRate (k : Nat) (s : State) : State :=
  (s.setRegN o4000.RATE k).withLanes fun l =>
    { l with nextRate := none, countdown := 0, elastic := 16,
             units := l.units.map fun u =>
               { u with verdict := 0,
                        eq := if l.settling then (u.trained.find? fun e => e.1 == k).elim u.eq fun e => e.2 else u.eq } }

/-- RATE_SWITCH (R96): the countdown reaches 0. -/
def execRateSwitch (t : Nat) (s : State) : Host.Outcome State Fault Refusal :=
  s.runLink t fun s =>
    match s.link.lanes.nextRate with
    | some k => if s.regN o4000.STATE = 3 then State.switchRate k s else s
    | none => s

/-- R76: the receiver of lane n adapts by itself; what it arrives at is open (log entry 4). -/
def State.adapt (s : State) (n : Nat) : State :=
  let c := s.draw 4
  let taps := (List.range 8).foldl (fun (a : List Nat × State) _ => let r := a.2.draw 8; (a.1 ++ [r.1], r.2)) ([], c.2)
  taps.2.withUnit n fun u => { u with eq := { u.eq with ctle := c.1, taps := taps.1 } }

/-- R97: whether the test of lane n succeeds at the chip's end: block lock, no error, and `EYE` at least `EYE_MIN`. -/
def State.testOk (s : State) (n : Nat) (x : LaneTest) : Bool :=
  (s.lockOf n).locked && x.errors == 0 && decide (s.regN o4000.EYE_MIN ≤ x.eye)

/-- The result of the test of lane n is held: `EYE`, and `RX_READY` with `LANE_PASS` or `LANE_FAIL` for its TRN blocks. -/
def State.tested (s : State) (n : Nat) (x : LaneTest) : State :=
  (s.laneStatus n fun w => w - place (bits w 15 8) 15 8 + place x.eye 15 8).withUnit n fun u =>
    { u with verdict := if s.testOk n x then 6 else 5 }

/-- R97: the lanes of a list that pass a test at both ends, with what the status words and the lanes take from it. -/
def State.testLanes (h : List LaneHeard) (tests : List LaneTest) (among : Nat) (s : State) : Nat × State :=
  let test (n : Nat) : LaneTest := tests.getD n { errors := 1, eye := 0 }
  let pass := maskOf ((lanesOf among).filter fun n => s.testOk n (test n) && (lastOf h blockTRN n).any fun f => bit f 28)
  let rate := s.regN o4000.RATE
  (pass, (lanesOf among).foldl (fun s n =>
    let s := if s.link.lanes.settling then s else s.adapt n
    let s := s.tested n (test n)
    if bit pass n then
      (s.laneStatus n fun w => w - place (bits w 27 24) 27 24 + place rate 27 24).withUnit n fun u =>
        { u with trained := (rate, u.eq) :: u.trained.filter fun e => e.1 != rate }
    else s) s)

/-- The rate that the peer allows: the lowest `MAX_RATE` of its TRN blocks, and none at all without one. -/
def peerMax (h : List LaneHeard) : Nat := ((List.range 8).filterMap (lastOf h blockTRN)).foldl (fun m f => min m (bits f 52 49)) 5

/-- R96: the rate proposed next, counted down over 64 TRN blocks. -/
def State.proposeRate (s : State) (k : Nat) (settling : Bool) : State :=
  (s.setRegN o4000.STATE 3).withLanes fun l => { l with nextRate := some k, countdown := 64, settling := settling }

/-- R98: a lane test has ended; a rate that the link has settled on is tested again on the lanes that passed it. -/
def State.testEnds (h : List LaneHeard) (tests : List LaneTest) (s : State) : State :=
  let st := s.regN o4000.STATE
  if ¬(st = 2 ∨ (st = 3 ∧ s.link.lanes.nextRate.isNone)) then s
  else
    let rate := s.regN o4000.RATE
    let lanes := s.link.lanes
    let usable := without s.laneLimit lanes.marked
    let before := if lanes.settling then (lanes.passes.find? fun p => p.1 == rate) else lanes.passes.getLast?
    let (pass, s) := s.testLanes h tests (before.elim usable fun p => without p.2 lanes.marked)
    if lanes.settling then
      if pass = 0 then s.enterDetect else s.enterUp rate (widthFor (lanesOf pass).length) pass true
    else if st = 2 ∧ pass = 0 then s
    else
      let passes := lanes.passes ++ [(rate, pass)]
      let s := s.withLanes fun l => { l with passes := passes }
      if pass ≠ 0 ∧ rate + 1 ≤ min s.rateLimit (min (peerMax h) 5) then s.proposeRate (rate + 1) false
      else match chooseRate passes with
        | none => s.enterDetect
        | some (k, w) => if k = rate then s.enterUp k w pass true else s.proposeRate k true

/-- LANE_TEST_END (R97, R98). -/
def execLaneTestEnd (t : Nat) (x : Reception) (tests : List LaneTest) (s : State) : Host.Outcome State Fault Refusal :=
  s.runLink t fun s => (s.hear x).testEnds (s.hearAll x) tests

/-- R99: the end of a retrain: R98 restricted to the current rate, or LINK_DOWN. -/
def State.retrainEnds (h : List LaneHeard) (tests : List LaneTest) (s : State) : State :=
  if s.regN o4000.STATE ≠ 6 then s
  else
    let (pass, s) := s.testLanes h tests (without s.laneLimit s.link.lanes.marked)
    if pass = 0 then s.linkDown
    else s.enterUp (s.regN o4000.RATE) (widthFor (lanesOf pass).length) pass false

/-- RETRAIN_END (R99). -/
def execRetrainEnd (t : Nat) (x : Reception) (tests : List LaneTest) (s : State) : Host.Outcome State Fault Refusal :=
  s.runLink t fun s => (s.hear x).retrainEnds (s.hearAll x) tests

/-- R104: a failed lane that passes a retest, which its TRN blocks carry, becomes standby, and the link may widen. -/
def State.retest (h : List LaneHeard) (lane : Nat) (x : LaneTest) (s : State) : State :=
  if s.linkUp = false ∨ 8 ≤ lane ∨ bit (s.regN o4000.FAILED_LANES) lane = false then s
  else
    let ok := s.testOk lane x && (lastOf h blockTRN lane).any fun f => bit f 28
    let s := s.tested lane x
    if ok = false then s
    else
      let s := s.showLanes (s.regN o4000.ACTIVE_LANES) (setBit (s.regN o4000.STANDBY_LANES) lane true)
        (setBit (s.regN o4000.FAILED_LANES) lane false)
      let s := s.withUnit lane fun u => { u with bip := [], badAms := 0 }
      (s.raise 21 (256 * lane + s.regN o4000.ACTIVE_LANES) 0 17 true).widen

/-- LANE_RETEST (R104). -/
def execLaneRetest (t lane : Nat) (x : Reception) (test : LaneTest) (s : State) : Host.Outcome State Fault Refusal :=
  s.runLink t fun s => (s.hear x).retest (s.hearAll x) lane test

/-! ### Writes -/

/-- ENABLE_WRITE (R95). -/
def execEnableWrite (t : Nat) (rq : Request) (s : State) : Host.Outcome State Fault Refusal :=
  s.request (writesKey [o4000.ENABLE]) t rq
/-- RETRAIN_WRITE (R99). -/
def execRetrainWrite (t : Nat) (rq : Request) (s : State) : Host.Outcome State Fault Refusal :=
  s.request (writesKey [o4000.RETRAIN]) t rq
/-- LOOP_WRITE (R105). -/
def execLoopWrite (t : Nat) (rq : Request) (s : State) : Host.Outcome State Fault Refusal :=
  s.request (writesKey [o4003.LOOP]) t rq
/-- PRBS_RUN_WRITE (R105). -/
def execPrbsRunWrite (t : Nat) (rq : Request) (s : State) : Host.Outcome State Fault Refusal :=
  s.request (writesKey [o4003.PRBS_RUN]) t rq

end Sys2Proof.Machine
end

