-- ==== Sys2Proof/Machine/RegisterWrites.lean ====
section
/-! DEFINITION. Machine/RegisterWrites.lean: the commands that are Aqlet writes of position, DRAM, clock and calibration
subindices. Their effects stand in Machine/Effects.lean. -/
namespace Sys2Proof.Machine

/-- COUNT_PRESET_WRITE (R45). -/
def execCountPresetWrite (t : Nat) (rq : Request) (s : State) : Host.Outcome State Fault Refusal :=
  s.request (writesKey [o6400.COUNT_PRESET, o6400.COUNT_PRESET + 256]) t rq

/-- FORMAT_WRITE (R69). -/
def execFormatWrite (t : Nat) (rq : Request) (s : State) : Host.Outcome State Fault Refusal :=
  s.request (writesKey [o6400.FORMAT, o6400.FORMAT + 256]) t rq

/-- CHANNEL_RESTORE_WRITE (R142). -/
def execChannelRestoreWrite (t : Nat) (rq : Request) (s : State) : Host.Outcome State Fault Refusal :=
  s.request (writesKey [o4400.CHANNEL_RESTORE]) t rq

/-- TRAIN_WRITE (R145): what the training finds comes with the command. -/
def execTrainWrite (t : Nat) (rq : Request) (found : Training) (s : State) : Host.Outcome State Fault Refusal :=
  s.run t fun s =>
    (State.byPath rq (asksFor (writesKey [o4405.TRAIN])) (fun rq s => s.arrive ImageCheck.none false rq)
      (s.withDram fun d => { d with found := some found })).withDram fun d => { d with found := none }

/-- RESTEP_WRITE (R392). -/
def execRestepWrite (t : Nat) (rq : Request) (s : State) : Host.Outcome State Fault Refusal :=
  s.request (writesKey [o7000.RESTEP]) t rq

/-- VERIFY_ITEM_WRITE (R517). -/
def execVerifyItemWrite (t : Nat) (rq : Request) (s : State) : Host.Outcome State Fault Refusal :=
  s.request (writesKey [o7801.VERIFY_ITEM]) t rq

/-- CLEAR_TRIM_WRITE (R518). -/
def execClearTrimWrite (t : Nat) (rq : Request) (s : State) : Host.Outcome State Fault Refusal :=
  s.request (writesKey [o7801.CLEAR_TRIM]) t rq

end Sys2Proof.Machine
end

