-- ==== Sys2Proof/Machine/Sessions.lean ====
section
/-! DEFINITION. Machine/Sessions.lean: the commands of chapter 15, and the configuration writes of chapter 16. -/
namespace Sys2Proof.Machine

/-- OPEN (R407). -/
def execOpenSession (t : Nat) (rq : Request) (s : State) : Host.Outcome State Fault Refusal :=
  s.request (fun r => r.op == 0x10) t rq
/-- AUTH (R407). -/
def execAuth (t : Nat) (rq : Request) (s : State) : Host.Outcome State Fault Refusal :=
  s.request (fun r => r.op == 0x11) t rq
/-- CLOSE (R409). -/
def execCloseSession (t : Nat) (rq : Request) (s : State) : Host.Outcome State Fault Refusal :=
  s.request (fun r => r.op == 0x12) t rq
/-- READ (R406). -/
def execRead (t : Nat) (rq : Request) (s : State) : Host.Outcome State Fault Refusal :=
  s.request (fun r => r.op == 1) t rq
/-- WRITE (R413). -/
def execWrite (t : Nat) (rq : Request) (s : State) : Host.Outcome State Fault Refusal :=
  s.request (fun r => r.op == 2) t rq
/-- READ_BLOCK (R445). -/
def execReadBlock (t : Nat) (rq : Request) (s : State) : Host.Outcome State Fault Refusal :=
  s.request (fun r => r.op == 3) t rq
/-- WRITE_BLOCK (R446); the segments of an image come as IMAGE_TRANSFER. -/
def execWriteBlock (t : Nat) (rq : Request) (s : State) : Host.Outcome State Fault Refusal :=
  s.request (fun r => r.op == 4 && r.key != o7E01.IMAGE) t rq
/-- STAGE (R417). -/
def execStage (t : Nat) (rq : Request) (s : State) : Host.Outcome State Fault Refusal :=
  s.request (fun r => r.op == 5) t rq
/-- COMMIT (R418). -/
def execCommit (t : Nat) (rq : Request) (s : State) : Host.Outcome State Fault Refusal :=
  s.request (fun r => r.op == 6) t rq
/-- SUBSCRIBE (R419). -/
def execSubscribe (t : Nat) (rq : Request) (s : State) : Host.Outcome State Fault Refusal :=
  s.request (fun r => r.op == 7) t rq
/-- TRIGGER (R420). -/
def execTrigger (t : Nat) (rq : Request) (s : State) : Host.Outcome State Fault Refusal :=
  s.request (fun r => r.op == 8) t rq
/-- SECRET_WRITE (R422). -/
def execSecretWrite (t : Nat) (rq : Request) (s : State) : Host.Outcome State Fault Refusal :=
  s.request (writesKey [o2102.SECRET_OPERATOR, o2102.SECRET_INSTALLER, o2102.SECRET_MAKER]) t rq
/-- SAVE_WRITE (R443). -/
def execSaveWrite (t : Nat) (rq : Request) (s : State) : Host.Outcome State Fault Refusal :=
  s.request (writesKey [o1010.SAVE]) t rq
/-- LOAD_WRITE (R444). -/
def execLoadWrite (t : Nat) (rq : Request) (s : State) : Host.Outcome State Fault Refusal :=
  s.request (writesKey [o1011.LOAD]) t rq

/-- REQUEST_TIMEOUT (R416): a request whose owning region gives no answer within 100 ms. -/
def execRequestTimeout (t : Nat) (rq : Request) (s : State) : Host.Outcome State Fault Refusal :=
  s.run t (State.byPath rq (fun _ => true) fun rq s => s.arrive ImageCheck.none true rq)

/-- R419: one NOTIFY frame of a session: as many waiting records as fit in 1,416 octets, and `LOST`. -/
def State.sendNotify (s : State) (x : Session) : State :=
  let n := x.notices
  let n := if n.windowStart + 1000000000 ≤ s.now then { n with windowStart := s.now, sent := 0 } else n
  if n.queue.isEmpty then s
  else if 1000 ≤ n.sent then
    let s := s.addReg o2100.NOTIFY_SPILLWAY n.queue.length
    s.mapSession x.id fun y => { y with notices := { n with queue := [], lost := n.lost + n.queue.length } }
  else
    let now := n.queue.take 88
    let body := octetsOf 8 (place now.length 63 32 + place n.lost 31 0) ++ now.flatMap fun w => octetsOfWords [w.1, w.2]
    let w0 := place 1 63 60 + place 0x20 55 48 + body.length
    let s := s.mapSession x.id fun y =>
      { y with notices := { n with queue := n.queue.drop 88, lost := 0, seq := (n.seq + 1) % 2 ^ 32, sent := n.sent + 1 } }
    let frame := frameOf w0 (place x.id 63 32 + n.seq) body x.key
    ((s.ringPut 14 (frameWords frame)).ringTake 14).sendAqlet x.path x.src [] frame none

/-- NOTIFY (R419): within 1 ms of subscribed events. -/
def execNotify (t session : Nat) (s : State) : Host.Outcome State Fault Refusal :=
  s.run t fun s =>
    match s.sessionById session with
    | some x =>
      if x.isOpen = true ∧ s.loaderOnly = false ∧ s.sys.supervisor.state = .running then s.sendNotify x else s
    | none => s

/-- SESSION_AUTH_TIMEOUT (R407): 5 s without a right proof. -/
def execSessionAuthTimeout (t session : Nat) (s : State) : Host.Outcome State Fault Refusal :=
  s.run t fun s =>
    match s.sessionById session with
    | some x => if x.unproved s.now then s.closeSession x 0 else s
    | none => s

/-- SESSION_IDLE_TIMEOUT (R409). -/
def execSessionIdleTimeout (t session : Nat) (s : State) : Host.Outcome State Fault Refusal :=
  s.run t fun s =>
    match s.sessionById session with
    | some x =>
      if s.idleOut x then s.closeSession x 2 else s
    | none => s

/-- LOCKOUT_EXPIRE (R410). -/
def execLockoutExpire (t role : Nat) (path : Path) (src : Nat) (s : State) : Host.Outcome State Fault Refusal :=
  s.run t fun s =>
    { s with aqlet := { s.aqlet with lockouts := s.aqlet.lockouts.filter fun a =>
        !(a.role == role && a.path == path && a.src == src && s.lockoutOver a) } }

/-- SNAPSHOT_TIMEOUT (R445). -/
def execSnapshotTimeout (t session : Nat) (s : State) : Host.Outcome State Fault Refusal :=
  s.run t fun s => s.lapseSnapshot session

/-- ASSEMBLY_TIMEOUT (R446, R447). -/
def execAssemblyTimeout (t session : Nat) (s : State) : Host.Outcome State Fault Refusal :=
  s.run t fun s => s.lapseAssembly session

/-- AUDIT_FLASH_WRITE (R425). -/
def execAuditFlashWrite (t : Nat) (ok : Bool) (s : State) : Host.Outcome State Fault Refusal :=
  s.run t fun s =>
    if s.aqlet.unwritten.isEmpty ∨ s.islandLost 11 = true then s
    else if ok then
      { s with flash := s.flash.addAudit s.aqlet.unwritten, aqlet := { s.aqlet with unwritten := [] } }
    else s.raise 117 0 1 23

end Sys2Proof.Machine
end

