-- ==== Sys2Proof/Machine/Startup.lean ====
section
/-! DEFINITION. Machine/Startup.lean: the reset input, start-up (Table 17-4), the end of a hold-up save, the restart after a
sag, and the restart of a firmware pair. -/
namespace Sys2Proof.Machine

/-! ### Reset -/

/-- R522: the reset state. Flash keeps what it holds (a save of the configuration in progress leaves its copy spoiled), and
the numbers of journal and audit go on (log entry 31); all else is as after RESET_N. -/
def State.resetState (s : State) : State :=
  let f := s.configSafeHold.flash
  { State.reset with now := s.now, free := s.free, out := s.out, pending := s.pending, flash := f,
                     events := { Events.reset with journalSeq := s.events.journalSeq },
                     aqlet := { Aqlet.reset with auditSeq := s.aqlet.auditSeq } }

/-- R522: RESET_N has been low for `lowNs`. During a hold-up save the reset waits for its end. -/
def State.resetAsserted (lowNs : Nat) (s : State) : State :=
  let low := decide (1000 ≤ lowNs) || (decide (100 ≤ lowNs) && Config.shortPulseResets lowNs)
  if low = false then s
  else if s.power.pending then { s with power := { s.power with resetLater := true, bootLater := none } }
  else s.resetState

/-- RESET_ASSERT (R522). -/
def execResetAssert (t lowNs : Nat) (s : State) : Host.Outcome State Fault Refusal :=
  s.run t (State.resetAsserted lowNs)

/-! ### Start-up -/

/-- R507: an image area that was receiving is invalid at the next start-up. -/
def Flash.startImages (f : Flash) : Flash :=
  { f with images := f.images.map fun (x : Nat × Nat) => if x.2 = 3 then (0, 2) else x }

/-- The registers of Table 17-10 as flash has them. -/
def State.showImages (s : State) (running : Nat) : State :=
  let s := ((s.setRegN o7E00.RUNNING running).setRegN o7E00.BOOTED running).setRegN o7E00.PREFERRED s.flash.preferred
  let s := s.setRegN o7E00.FALLBACKS s.flash.fallbacks
  [0, 1].foldl (fun s i =>
    let x := s.flash.images.getD i (0, 0)
    (s.setRegN (o7E00.IMAGE_VERSION + i) x.1).setRegN (o7E00.IMAGE_STATE + i) x.2) s

/-- R457: the preferred image boots, or the other one, or neither, which leaves the recovery loader: the registers then
show the preferred image, and the event has level 0 (log entries 35, 36). -/
def State.chooseImage (boot : BootReport) (s : State) : State :=
  let p := s.flash.preferred
  let bootable (i : Nat) (ok : Bool) : Bool := ok && ((s.flash.images.getD i (0, 0)).2 == 1 || (s.flash.images.getD i (0, 0)).2 == 4)
  if bootable p boot.preferredOk then s.showImages p
  else
    let failed (f : Flash) : Flash := { f with images := f.images.set p ((f.images.getD p (0, 0)).1, 4) }
    if bootable (1 - p) boot.otherOk then
      let f := failed s.flash
      let s := { s with flash := { f with fallbacks := (f.fallbacks + 1) % 2 ^ 32 },
                        modes := { s.modes with fellBack := some p } }
      s.showImages (1 - p)
    else
      let s := { s with flash := failed s.flash, modes := { s.modes with loader := true } }
      (s.showImages p).raise 115 0 0 23

/-- R444: the stored configuration is loaded. -/
def State.loadConfig (s : State) : State :=
  match s.flash.config with
  | some c => (c.2.foldl (fun s (e : Nat × Int) => s.setReg e.1 e.2) s).setRegN o1020.STORED_CRC (Config.storedCrc c.2 % 2 ^ 32)
  | none =>
    let s := s.setReg o1020.STORED_CRC (Config.unstated 1020 0 % 2 ^ 32)
    if s.flash.configA = .erased ∧ s.flash.configB = .erased then s else s.raise 8 0 1 23

/-- R515, R514, R518: the calibration sets are checked, and quality and trims shown. -/
def State.loadCalibration (ok : List Bool) (s : State) : State :=
  let sets := (List.range 5).map fun n => ok.getD n true
  let s := { s with flash := { s.flash with calSets := sets } }
  let s := s.setRegN o7800.SETS_VALID (maskOf ((List.range 5).filter fun n => sets.getD n true))
  let breach := if sets.any id then 0 else 1
  let s := ((List.range 5).filter fun n => sets.getD n true = false).foldl (fun s n => s.raise 125 n breach 23) s
  let s := s.setRegN o7801.TRIMS (maskOf (s.flash.trims.map fun x => x.1))
  (List.range 6).foldl (fun s i => s.setRegN (o7800.ITEM_QUALITY + i) (s.flash.quality.getD i 0)) s

/-- R512: the save slot with the highest count that holds a record. -/
def Flash.savedRecord (f : Flash) : Option (SaveRecord × Bool) :=
  f.slots.foldl (fun (b : Option (SaveRecord × Bool)) x =>
    match x, b with
    | .holds r ok, some y => if y.1.count < r.count then some (r, ok) else b
    | .holds r ok, none => some (r, ok)
    | .erased, _ => b) none

/-- R512: the slot of the record taken is erased. -/
def Flash.eraseSlot (f : Flash) (count : Nat) : Flash :=
  { f with slots := f.slots.map fun x => match x with
      | .holds r ok => if r.count = count then .erased else .holds r ok
      | .erased => .erased }

/-- R208: saved health maps are read back; one whose CRC fails is treated as absent from then on. -/
def State.readMaps (s : State) (bad : List Octets) : State :=
  let read (m : SavedMap) : SavedMap := if bad.contains m.identity then { m with crcRight := false } else m
  { s with flash := { s.flash with maps := s.flash.maps.map read } }

/-- R512: the health entries of a record go into the saved maps of their identities; an identity without one keeps them
until its die is read. -/
def State.restoreHealth (s : State) (r : SaveRecord) : State :=
  r.health.foldl (fun s (e : Nat × Nat) =>
    match r.lifetimes.find? fun l => l.1 == e.1 / 1024 with
    | none => s
    | some l =>
      let id := l.2.1
      if (s.savedMap id).isSome then
        let put (m : SavedMap) : SavedMap :=
          if m.identity = id ∧ m.crcRight = true then { m with states := restoreColumn m.states (e.1 % 1024) e.2 } else m
        { s with flash := { s.flash with maps := s.flash.maps.map put } }
      else { s with power := { s.power with unplaced := s.power.unplaced ++ [(id, e.1 % 1024, e.2)] } }) s

/-- R512: 7C00h:06–14h from the record. -/
def State.showRecord (s : State) (r : SaveRecord) : State :=
  let s := (s.setRegN o7C00.SAVE_COUNT r.count).setRegN o7C00.RESTORE_STATUS 1
  let s := (s.setRegN o7C00.RESTORE_FLAGS r.flags).setRegN o7C00.SAVE_TIME r.time
  let s := (s.setRegN o7C00.SAVE_CAUSE r.cause).setRegN o7C00.SAVE_MODE r.mode
  let s := (s.setRegN o7C00.SAVED_FIRING_LINE r.line).setRegN o7C00.SAVED_HWM_COUNT (r.hwm % 2 ^ 48)
  let s := s.setRegN o7C00.SAVED_LINE_ORIGIN r.origin
  let s := [0, 1].foldl (fun s i => s.setRegN (o7C00.SAVED_COUNT + i) (r.counts.getD i 0 % 2 ^ 48)) s
  [0, 1, 2, 3].foldl (fun s i => s.setRegN (o7C00.SAVED_PAGE + i) (r.pages.getD i 0)) s

/-- R512: what a start-up does with a save record. -/
def State.restoreSave (s : State) : State :=
  match s.flash.savedRecord with
  | none => s
  | some (r, ok) =>
    let s := { s with flash := s.flash.eraseSlot r.count }
    if ok = false then s.setRegN o7C00.RESTORE_STATUS 2
    else
      let s := { s with flash := (s.flash.addJournal r.journal).addAudit r.audit }
      let s := s.restoreHealth r
      let keep (l : List (Octets × Octets)) (e : Nat × Octets × Octets) : List (Octets × Octets) :=
        (e.2.1, e.2.2) :: l.filter fun x => x.1 != e.2.1
      let known := r.lifetimes.filter fun e => !e.2.1.isEmpty
      let s := { s with flash := { s.flash with lifetimes := known.foldl keep s.flash.lifetimes },
                        modes := { s.modes with restored := true } }
      s.showRecord r

/-- R488: the supervisor lays the rings out; their places are its own (log entry 8). -/
def State.placeRings (s : State) : State :=
  (List.range 16).foldl (fun s r =>
    s.setRegN (o7401.RING_DESC + r) (place (Config.ringPage r % 65536 * 4096) 63 32 + s.regN (o7401.RING_DESC + r) % 2 ^ 32)) s

/-- R282, R291: a pipeline starts from the configuration. -/
def State.startPipeline (s : State) (p : Nat) : State :=
  let g : Settings := { number := 0, exposure := s.regN (o5002.EXPOSURE_NS + p), gain := s.reg (o5002.GAIN_CDB + p) }
  let s := s.mapPipeline p fun x => { x with newest := g, base := g }
  let s := s.refreshBuffers p
  let s := if s.regN (o5000.BIND + p) = 0xFF then s else s.setCameraState p 1
  s.enableLamp p (s.flag (o5400.ENABLE + p))

/-- What the blocks take from the configuration at start-up. -/
def State.startBlocks (s : State) : State :=
  let n := s.regN o3000.DIES
  let s := (s.setDies n).fitDies n
  let s := s.selectSource
  let s := [0, 1].foldl State.startPipeline s
  s.placeRings.judgeBoth

/-- R108: a DRAM configuration outside Table 04-2 ends the start-up in SAFE-HOLD. -/
def State.configBad (s : State) : State :=
  let s := s.fatal 29 0 18 3
  { s with power := { s.power with configBad := true } }

/-- Table 17-4, steps 1 to 7 as far as the chip alone decides them; the raster link begins its bring-up (R100),
under the loader by the default `ENABLE` (log entry 50). -/
def State.startUp (boot : BootReport) (s : State) : State :=
  let s := { s with sys := { s.sys with inReset := false, releasedAt := s.now }, flash := s.flash.startImages }
  let s := s.chooseImage boot
  let link (s : State) : State := if s.flag o4000.ENABLE then s.resetLink.enterDetect else s
  if s.modes.loader then link s
  else
    let s := link ((s.readMaps boot.badMaps).loadConfig.loadCalibration boot.calOk).restoreSave
    if s.sizeGib = 0 then s.configBad else s.startBlocks

/-- RESET_RELEASE (R457, R522). -/
def execResetRelease (t : Nat) (boot : BootReport) (s : State) : Host.Outcome State Fault Refusal :=
  let x := s.tick t
  let x :=
    if x.sys.inReset then x.startUp boot
    else if x.power.resetLater then { x with power := { x.power with bootLater := some boot } }
    else x
  .next (x.sealed s t)

/-- R196: a polder fails its self-test in BOOT: it is HELD, and polder S serves its lanes, where it can. -/
def State.heldAtBoot (s : State) (p : Nat) : State :=
  if 16 < p ∨ (s.polderFitted p = false ∧ p < 16) then s
  else
    let s := s.mapPolder p fun q => { q with state := 5, cause := 6 }
    if p = 16 then s.raise 41 16 1 16 true
    else if s.polders.spare.state = 8 then
      ((s.raise 41 p 2 p true).setPolder 16 10).withPolders fun q => { q with serving := some p, connected := true }
    else s.fatal 41 p p 2 true

/-- Table 17-4, steps 4, 7 and 8: training and self-tests are done, and the chip enters CAPPED with cause 2. -/
def State.startUpDone (report : StartupReport) (s : State) : State :=
  if s.mode ≠ 0 ∨ s.modes.loader = true then s
  else if s.sizeGib = 0 then s.configBad
  else
    let s := (((s.setRegN o4403.CHANNELS 3).refreshBuffers 0).refreshBuffers 1).judgeBoth.trained report.train
    let s := (report.failed.filter fun p => p != 16).foldl State.heldAtBoot (if report.failed.contains 16 then s.heldAtBoot 16 else s)
    if s.mode ≠ 0 then s
    else
      let s := s.armMotionCycle.setRegN o2001.BOOT_MS ((s.now - s.sys.releasedAt) / 1000000)
      let s := s.setMode 1 2 { kind := 3, master := 3 }
      let s := match s.modes.fellBack with
        | some i => s.raise 114 i 1 23
        | none => s
      if s.modes.restored then s.raise 10 0 0 23 else s

/-- STARTUP_COMPLETE (R457). -/
def execStartupComplete (t : Nat) (report : StartupReport) (s : State) : Host.Outcome State Fault Refusal :=
  s.run t (State.startUpDone report)

/-! ### Hold-up -/

/-- R506, R522: the save ends, and with it the wait of a reset. -/
def State.holdupDone (crcOk : Bool) (s : State) : State :=
  let was := s.power
  let s := s.saveDone crcOk
  if was.pending = true ∧ was.resetLater = true then
    match was.bootLater with
    | some boot => s.resetState.startUp boot
    | none => s.resetState
  else s

/-- HOLDUP_SAVE_DONE (R506). -/
def execHoldupSaveDone (t : Nat) (crcOk : Bool) (s : State) : Host.Outcome State Fault Refusal :=
  s.run t (State.holdupDone crcOk)

/-- R510: whether the chip restarts after a sag, the cause of its SAFE-HOLD (log entry 111): the save has ended, and for `ns` without a break PFAIL_N has been high and the
bus above `mv`. -/
def State.restarts (s : State) (mv ns : Nat) : Bool :=
  s.mode == 7 && s.regN o2001.CAUSE == 6 && s.power.holding == .afterSag && s.flag o7C00.AUTO_RESTART &&
    decide (s.regN o7C00.VBUS_RESTART_MV ≤ mv ∧ s.regN o7C00.RESTART_MS * 1000000 ≤ ns)

/-- SAG_RESTART (R510): for `ns` without a break PFAIL_N has been high and the bus above `mv`. -/
def execSagRestart (t : Nat) (boot : BootReport) (mv ns : Nat) (s : State) : Host.Outcome State Fault Refusal :=
  s.run t fun s => if s.restarts mv ns then s.resetState.startUp boot else s

/-! ### Firmware pairs -/

/-- R37: the requests that waited on ring 13 are answered in their order. -/
def State.serveWaiting (s : State) : State :=
  s.aqlet.waiting.foldl (fun s w => (s.ringTake 13).serve w.2 false w.1) { s with aqlet := { s.aqlet with waiting := [] } }

/-- FW_PAIR_RESTART_DONE (R36, R37). -/
def execFwPairRestartDone (t : Nat) (pair : PairId) (s : State) : Host.Outcome State Fault Refusal :=
  s.runOn t fun s =>
    let was := (s.pair pair).state
    let s := s.pairRestarted pair
    if pair = .supervisor ∧ was = .restarting then s.serveWaiting else s

/-- CODEC_ENGINE_RESTART (R486). -/
def execCodecEngineRestart (t : Nat) (s : State) : Host.Outcome State Fault Refusal :=
  s.runOn t fun s => s.raiseEpoch 6

/-- TEST_ACCESS_RESET (R532). -/
def execTestAccessReset (t : Nat) (s : State) : Host.Outcome State Fault Refusal :=
  s.run t fun s => s.raiseEpoch 7

end Sys2Proof.Machine
end

