-- ==== Sys2Proof/Machine/Dispatch.lean ====
section
/-! DEFINITION. Machine/Dispatch.lean: one arm per command. -/
namespace Sys2Proof.Machine

/-- The effect of a command on everything but the queue. -/
def exec (i : Instr) (s : State) : Host.Outcome State Fault Refusal :=
  match i with
  | .crossingStall t island => Sys2Proof.Machine.execCrossingStall t island s
  | .islandClockLost t clock => Sys2Proof.Machine.execIslandClockLost t clock s
  | .clockRatioCheck t deviationPpm => Sys2Proof.Machine.execClockRatioCheck t deviationPpm s
  | .paceMeterWindow t figures => Sys2Proof.Machine.execPaceMeterWindow t figures s
  | .fwPairMismatch t pair => Sys2Proof.Machine.execFwPairMismatch t pair s
  | .fwPairRestartDone t pair => Sys2Proof.Machine.execFwPairRestartDone t pair s
  | .breachEscalated t region fromLevel => Sys2Proof.Machine.execBreachEscalated t region fromLevel s
  | .heartbeatMissing t region => Sys2Proof.Machine.execHeartbeatMissing t region s
  | .rootWatchMismatch t => Sys2Proof.Machine.execRootWatchMismatch t s
  | .positionEdge t ch x => Sys2Proof.Machine.execPositionEdge t ch x s
  | .encQuadError t ch held => Sys2Proof.Machine.execEncQuadError t ch held s
  | .upDownSameSample t ch held => Sys2Proof.Machine.execUpDownSameSample t ch held s
  | .countPresetWrite t rq => Sys2Proof.Machine.execCountPresetWrite t rq s
  | .formatWrite t rq => Sys2Proof.Machine.execFormatWrite t rq s
  | .indexEvent t ch held edge => Sys2Proof.Machine.execIndexEvent t ch held edge s
  | .indexMissing t ch => Sys2Proof.Machine.execIndexMissing t ch s
  | .wheelEdge t ch held edge => Sys2Proof.Machine.execWheelEdge t ch held edge s
  | .webStandstill t ch => Sys2Proof.Machine.execWebStandstill t ch s
  | .slotCommit t die row => Sys2Proof.Machine.execSlotCommit t die row s
  | .slotStart t die row => Sys2Proof.Machine.execSlotStart t die row s
  | .xcheckWindowEnd t => Sys2Proof.Machine.execXcheckWindowEnd t s
  | .xcheckEarlyDisagree t => Sys2Proof.Machine.execXcheckEarlyDisagree t s
  | .rxAmColumn t x lanes => Sys2Proof.Machine.execRxAmColumn t x lanes s
  | .laneFail t x => Sys2Proof.Machine.execLaneFail t x s
  | .resizeSwitch t => Sys2Proof.Machine.execResizeSwitch t s
  | .rxLinkAck t x => Sys2Proof.Machine.execRxLinkAck t x s
  | .rxLinkReport t x => Sys2Proof.Machine.execRxLinkReport t x s
  | .rxLinkRetrain t x => Sys2Proof.Machine.execRxLinkRetrain t x s
  | .rxBlockPacket t x => Sys2Proof.Machine.execRxBlockPacket t x s
  | .pageOpen t x => Sys2Proof.Machine.execPageOpen t x s
  | .pageCommit t x => Sys2Proof.Machine.execPageCommit t x s
  | .pageAbort t x => Sys2Proof.Machine.execPageAbort t x s
  | .pageOpInvalid t x => Sys2Proof.Machine.execPageOpInvalid t x s
  | .memWrite t x => Sys2Proof.Machine.execMemWrite t x s
  | .memRead t x => Sys2Proof.Machine.execMemRead t x s
  | .rxCredit t x => Sys2Proof.Machine.execRxCredit t x s
  | .rxNack t x => Sys2Proof.Machine.execRxNack t x s
  | .rxEchoRequest t x => Sys2Proof.Machine.execRxEchoRequest t x s
  | .rxEchoReply t x => Sys2Proof.Machine.execRxEchoReply t x s
  | .rxPacketBad t x => Sys2Proof.Machine.execRxPacketBad t x s
  | .echoTimer t => Sys2Proof.Machine.execEchoTimer t s
  | .creditTimer t => Sys2Proof.Machine.execCreditTimer t s
  | .replayTimeout t => Sys2Proof.Machine.execReplayTimeout t s
  | .detectLocked t x => Sys2Proof.Machine.execDetectLocked t x s
  | .detectTimeout t => Sys2Proof.Machine.execDetectTimeout t s
  | .alignTimeout t => Sys2Proof.Machine.execAlignTimeout t s
  | .rateSwitch t => Sys2Proof.Machine.execRateSwitch t s
  | .laneTestEnd t x tests => Sys2Proof.Machine.execLaneTestEnd t x tests s
  | .retrainEnd t x tests => Sys2Proof.Machine.execRetrainEnd t x tests s
  | .laneRetest t lane x test => Sys2Proof.Machine.execLaneRetest t lane x test s
  | .enableWrite t rq => Sys2Proof.Machine.execEnableWrite t rq s
  | .retrainWrite t rq => Sys2Proof.Machine.execRetrainWrite t rq s
  | .loopWrite t rq => Sys2Proof.Machine.execLoopWrite t rq s
  | .prbsRunWrite t rq => Sys2Proof.Machine.execPrbsRunWrite t rq s
  | .pageRelease t stream tag => Sys2Proof.Machine.execPageRelease t stream tag s
  | .bandFree t stream tag => Sys2Proof.Machine.execBandFree t stream tag s
  | .freeboardUpdate t => Sys2Proof.Machine.execFreeboardUpdate t s
  | .dramRefresh t channel sub rank traffic => Sys2Proof.Machine.execDramRefresh t channel sub rank traffic s
  | .dramTempPoll t hot => Sys2Proof.Machine.execDramTempPoll t hot s
  | .dramRowThrottle t channel sub rank bank row => Sys2Proof.Machine.execDramRowThrottle t channel sub rank bank row s
  | .dramRfmThreshold t channel sub rank bank => Sys2Proof.Machine.execDramRfmThreshold t channel sub rank bank s
  | .dramCe t channel address flips => Sys2Proof.Machine.execDramCe t channel address flips s
  | .dramUe t channel port address flips mirrorOk => Sys2Proof.Machine.execDramUe t channel port address flips mirrorOk s
  | .dramWriteCrcError t channel retries => Sys2Proof.Machine.execDramWriteCrcError t channel retries s
  | .scrubPass t => Sys2Proof.Machine.execScrubPass t s
  | .mirrorBand t stream tag band => Sys2Proof.Machine.execMirrorBand t stream tag band s
  | .dramChannelLost t channel => Sys2Proof.Machine.execDramChannelLost t channel s
  | .channelRestoreWrite t rq => Sys2Proof.Machine.execChannelRestoreWrite t rq s
  | .dramChannelRestored t channel eyes => Sys2Proof.Machine.execDramChannelRestored t channel eyes s
  | .dqsDriftCheck t channel drift eye => Sys2Proof.Machine.execDqsDriftCheck t channel drift eye s
  | .trainWrite t rq found => Sys2Proof.Machine.execTrainWrite t rq found s
  | .blockVerify t stream => Sys2Proof.Machine.execBlockVerify t stream s
  | .pixelBitsWrite t rq => Sys2Proof.Machine.execPixelBitsWrite t rq s
  | .codecCompress t mismatches => Sys2Proof.Machine.execCodecCompress t mismatches s
  | .codecDecompress t => Sys2Proof.Machine.execCodecDecompress t s
  | .codecCopy t => Sys2Proof.Machine.execCodecCopy t s
  | .codecJobEnd t job elapsedUs => Sys2Proof.Machine.execCodecJobEnd t job elapsedUs s
  | .logSeqWrite t rq => Sys2Proof.Machine.execLogSeqWrite t rq s
  | .sluiceAdmitBand t polder stream faults => Sys2Proof.Machine.execSluiceAdmitBand t polder stream faults s
  | .sluiceStarveLine t polder stream faults => Sys2Proof.Machine.execSluiceStarveLine t polder stream faults s
  | .polderComposeLine t polder stream traceLost => Sys2Proof.Machine.execPolderComposeLine t polder stream traceLost s
  | .seepWindow t => Sys2Proof.Machine.execSeepWindow t s
  | .polderFault t polder cause => Sys2Proof.Machine.execPolderFault t polder cause s
  | .polderStall t polder => Sys2Proof.Machine.execPolderStall t polder s
  | .takeoverConnect t => Sys2Proof.Machine.execTakeoverConnect t s
  | .forceTakeoverWrite t rq => Sys2Proof.Machine.execForceTakeoverWrite t rq s
  | .shadowNext t => Sys2Proof.Machine.execShadowNext t s
  | .shadowMismatch t same => Sys2Proof.Machine.execShadowMismatch t same s
  | .polderSelfTestDone t polder passed => Sys2Proof.Machine.execPolderSelfTestDone t polder passed s
  | .returnPolderWrite t rq => Sys2Proof.Machine.execReturnPolderWrite t rq s
  | .polderReturned t polder => Sys2Proof.Machine.execPolderReturned t polder s
  | .diesWrite t rq => Sys2Proof.Machine.execDiesWrite t rq s
  | .healthCommitStage t => Sys2Proof.Machine.execHealthCommitStage t s
  | .healthMapSave t => Sys2Proof.Machine.execHealthMapSave t s
  | .columnHealthWrite t rq => Sys2Proof.Machine.execColumnHealthWrite t rq s
  | .healthMapWrite t rq => Sys2Proof.Machine.execHealthMapWrite t rq s
  | .probeArm t rq => Sys2Proof.Machine.execProbeArm t rq s
  | .probeDone t => Sys2Proof.Machine.execProbeDone t s
  | .keepWarmTimer t => Sys2Proof.Machine.execKeepWarmTimer t s
  | .dieTempStale t die => Sys2Proof.Machine.execDieTempStale t die s
  | .headFireFrameSend t die row => Sys2Proof.Machine.execHeadFireFrameSend t die row s
  | .headPoll t lane => Sys2Proof.Machine.execHeadPoll t lane s
  | .headSensorPoll t die => Sys2Proof.Machine.execHeadSensorPoll t die s
  | .headReply t lane groups => Sys2Proof.Machine.execHeadReply t lane groups s
  | .headNoReply t lane => Sys2Proof.Machine.execHeadNoReply t lane s
  | .headFrameMissed t die row lane => Sys2Proof.Machine.execHeadFrameMissed t die row lane s
  | .lifetimeWrite t die => Sys2Proof.Machine.execLifetimeWrite t die s
  | .dieTrainEnd t die locks scans => Sys2Proof.Machine.execDieTrainEnd t die locks scans s
  | .dieResyncEnd t die ok => Sys2Proof.Machine.execDieResyncEnd t die ok s
  | .dieRetrainEnd t die locks scans => Sys2Proof.Machine.execDieRetrainEnd t die locks scans s
  | .quarantineStage t => Sys2Proof.Machine.execQuarantineStage t s
  | .quarantineMaskWrite t rq => Sys2Proof.Machine.execQuarantineMaskWrite t rq s
  | .retryWrite t rq => Sys2Proof.Machine.execRetryWrite t rq s
  | .dieIdle t die => Sys2Proof.Machine.execDieIdle t die s
  | .resistMeasureDone t die reading => Sys2Proof.Machine.execResistMeasureDone t die reading s
  | .csiLinePacket t port header vc dataType crcOk codes => Sys2Proof.Machine.execCsiLinePacket t port header vc dataType crcOk codes s
  | .csiEmbeddedPacket t port header vc crcOk data => Sys2Proof.Machine.execCsiEmbeddedPacket t port header vc crcOk data s
  | .csiFrameStart t port header number => Sys2Proof.Machine.execCsiFrameStart t port header number s
  | .csiFrameEnd t port header => Sys2Proof.Machine.execCsiFrameEnd t port header s
  | .csiPacketIgnored t port header => Sys2Proof.Machine.execCsiPacketIgnored t port header s
  | .csiLaneSyncError t port => Sys2Proof.Machine.execCsiLaneSyncError t port s
  | .cameraLineTrigger t pipeline => Sys2Proof.Machine.execCameraLineTrigger t pipeline s
  | .frameEnd t pipeline => Sys2Proof.Machine.execFrameEnd t pipeline s
  | .settingsWrite t rq => Sys2Proof.Machine.execSettingsWrite t rq s
  | .cameraI2cStart t pipeline => Sys2Proof.Machine.execCameraI2cStart t pipeline s
  | .cameraI2cDone t pipeline acknowledged => Sys2Proof.Machine.execCameraI2cDone t pipeline acknowledged s
  | .bindWrite t rq => Sys2Proof.Machine.execBindWrite t rq s
  | .hostReleaseWrite t rq => Sys2Proof.Machine.execHostReleaseWrite t rq s
  | .cameraRestartWrite t rq => Sys2Proof.Machine.execCameraRestartWrite t rq s
  | .cameraLanesReady t pipeline mbps => Sys2Proof.Machine.execCameraLanesReady t pipeline mbps s
  | .cameraRestartEnd t pipeline ready mbps => Sys2Proof.Machine.execCameraRestartEnd t pipeline ready mbps s
  | .frameAnalysis t pipeline => Sys2Proof.Machine.execFrameAnalysis t pipeline s
  | .nameEval t pipeline pixel => Sys2Proof.Machine.execNameEval t pipeline pixel s
  | .probationRecheck t pipeline nozzle => Sys2Proof.Machine.execProbationRecheck t pipeline nozzle s
  | .approveWrite t rq => Sys2Proof.Machine.execApproveWrite t rq s
  | .rejectWrite t rq => Sys2Proof.Machine.execRejectWrite t rq s
  | .lightPulse t row => Sys2Proof.Machine.execLightPulse t row s
  | .diagPulse t pipeline => Sys2Proof.Machine.execDiagPulse t pipeline s
  | .segmentMeasure t column current drain => Sys2Proof.Machine.execSegmentMeasure t column current drain s
  | .lightColumnFault t column current => Sys2Proof.Machine.execLightColumnFault t column current s
  | .restoreWrite t rq => Sys2Proof.Machine.execRestoreWrite t rq s
  | .lightTestDone t pipeline => Sys2Proof.Machine.execLightTestDone t pipeline s
  | .ntcRead t pipeline reading => Sys2Proof.Machine.execNtcRead t pipeline reading s
  | .moveAbs t axis source => Sys2Proof.Machine.execMoveAbs t axis source s
  | .moveRel t axis source => Sys2Proof.Machine.execMoveRel t axis source s
  | .velocity t axis source => Sys2Proof.Machine.execVelocity t axis source s
  | .stop t axis source => Sys2Proof.Machine.execStop t axis source s
  | .home t axis source => Sys2Proof.Machine.execHome t axis source s
  | .enable t axis source => Sys2Proof.Machine.execEnable t axis source s
  | .disable t axis source => Sys2Proof.Machine.execDisable t axis source s
  | .axisStep t axis duty => Sys2Proof.Machine.execAxisStep t axis duty s
  | .decelWrite t rq => Sys2Proof.Machine.execDecelWrite t rq s
  | .positionPresetWrite t rq => Sys2Proof.Machine.execPositionPresetWrite t rq s
  | .limitEdge t input first high => Sys2Proof.Machine.execLimitEdge t input first high s
  | .limitRelease t input => Sys2Proof.Machine.execLimitRelease t input s
  | .chopCycle t axis phase current mean => Sys2Proof.Machine.execChopCycle t axis phase current mean s
  | .axisHoldCurrent t axis => Sys2Proof.Machine.execAxisHoldCurrent t axis s
  | .learnWrite t rq => Sys2Proof.Machine.execLearnWrite t rq s
  | .learnDone t axis => Sys2Proof.Machine.execLearnDone t axis s
  | .axisDriveFault t axis figures => Sys2Proof.Machine.execAxisDriveFault t axis figures s
  | .phyPoll t port autoNeg phyLink gigabitFull => Sys2Proof.Machine.execPhyPoll t port autoNeg phyLink gigabitFull s
  | .switchFrameRx t f => Sys2Proof.Machine.execSwitchFrameRx t f s
  | .addressAgeing t mac => Sys2Proof.Machine.execAddressAgeing t mac s
  | .ringCheckSend t => Sys2Proof.Machine.execRingCheckSend t s
  | .ringCheckRx t f => Sys2Proof.Machine.execRingCheckRx t f s
  | .ringCheckTimeout t => Sys2Proof.Machine.execRingCheckTimeout t s
  | .topologyChangeRx t f => Sys2Proof.Machine.execTopologyChangeRx t f s
  | .syncRx t f => Sys2Proof.Machine.execSyncRx t f s
  | .followUpRx t f => Sys2Proof.Machine.execFollowUpRx t f s
  | .delayReqSend t => Sys2Proof.Machine.execDelayReqSend t s
  | .delayRespRx t f => Sys2Proof.Machine.execDelayRespRx t f s
  | .pdelayReqSend t => Sys2Proof.Machine.execPdelayReqSend t s
  | .pdelayReqRx t f => Sys2Proof.Machine.execPdelayReqRx t f s
  | .pdelayRespRx t f => Sys2Proof.Machine.execPdelayRespRx t f s
  | .announceRx t f => Sys2Proof.Machine.execAnnounceRx t f s
  | .syncSend t => Sys2Proof.Machine.execSyncSend t s
  | .timeHoldover t => Sys2Proof.Machine.execTimeHoldover t s
  | .tsclkRestored t tau => Sys2Proof.Machine.execTsclkRestored t tau s
  | .tsclkCapture t tau => Sys2Proof.Machine.execTsclkCapture t tau s
  | .restepWrite t rq => Sys2Proof.Machine.execRestepWrite t rq s
  | .timeTriggerFire t trigger => Sys2Proof.Machine.execTimeTriggerFire t trigger s
  | .trigEdge t input high held => Sys2Proof.Machine.execTrigEdge t input high held s
  | .ppsOutEdge t => Sys2Proof.Machine.execPpsOutEdge t s
  | .ppsInEdge t => Sys2Proof.Machine.execPpsInEdge t s
  | .openSession t rq => Sys2Proof.Machine.execOpenSession t rq s
  | .auth t rq => Sys2Proof.Machine.execAuth t rq s
  | .closeSession t rq => Sys2Proof.Machine.execCloseSession t rq s
  | .read t rq => Sys2Proof.Machine.execRead t rq s
  | .write t rq => Sys2Proof.Machine.execWrite t rq s
  | .readBlock t rq => Sys2Proof.Machine.execReadBlock t rq s
  | .writeBlock t rq => Sys2Proof.Machine.execWriteBlock t rq s
  | .stage t rq => Sys2Proof.Machine.execStage t rq s
  | .commit t rq => Sys2Proof.Machine.execCommit t rq s
  | .subscribe t rq => Sys2Proof.Machine.execSubscribe t rq s
  | .trigger t rq => Sys2Proof.Machine.execTrigger t rq s
  | .notify t session => Sys2Proof.Machine.execNotify t session s
  | .sessionAuthTimeout t session => Sys2Proof.Machine.execSessionAuthTimeout t session s
  | .sessionIdleTimeout t session => Sys2Proof.Machine.execSessionIdleTimeout t session s
  | .lockoutExpire t role path src => Sys2Proof.Machine.execLockoutExpire t role path src s
  | .requestTimeout t rq => Sys2Proof.Machine.execRequestTimeout t rq s
  | .secretWrite t rq => Sys2Proof.Machine.execSecretWrite t rq s
  | .auditFlashWrite t ok => Sys2Proof.Machine.execAuditFlashWrite t ok s
  | .snapshotTimeout t session => Sys2Proof.Machine.execSnapshotTimeout t session s
  | .assemblyTimeout t session => Sys2Proof.Machine.execAssemblyTimeout t session s
  | .saveWrite t rq => Sys2Proof.Machine.execSaveWrite t rq s
  | .configSaveDone t ok => Sys2Proof.Machine.execConfigSaveDone t ok s
  | .loadWrite t rq => Sys2Proof.Machine.execLoadWrite t rq s
  | .requestCapped t rq => Sys2Proof.Machine.execRequestCapped t rq s
  | .requestService t rq => Sys2Proof.Machine.execRequestService t rq s
  | .requestReady t rq => Sys2Proof.Machine.execRequestReady t rq s
  | .requestPrint t rq => Sys2Proof.Machine.execRequestPrint t rq s
  | .requestProof t rq => Sys2Proof.Machine.execRequestProof t rq s
  | .requestTest t rq => Sys2Proof.Machine.execRequestTest t rq s
  | .requestBoot t rq => Sys2Proof.Machine.execRequestBoot t rq s
  | .requestSafeHold t rq => Sys2Proof.Machine.execRequestSafeHold t rq s
  | .fillDone t => Sys2Proof.Machine.execFillDone t s
  | .drainDone t => Sys2Proof.Machine.execDrainDone t s
  | .proofRunEnd t => Sys2Proof.Machine.execProofRunEnd t s
  | .resetAssert t lowNs => Sys2Proof.Machine.execResetAssert t lowNs s
  | .resetRelease t boot => Sys2Proof.Machine.execResetRelease t boot s
  | .startupComplete t report => Sys2Proof.Machine.execStartupComplete t report s
  | .tideAck t participant => Sys2Proof.Machine.execTideAck t participant s
  | .tideDeadline t => Sys2Proof.Machine.execTideDeadline t s
  | .tideTimeout t => Sys2Proof.Machine.execTideTimeout t s
  | .tideLineReached t => Sys2Proof.Machine.execTideLineReached t s
  | .generationRetire t => Sys2Proof.Machine.execGenerationRetire t s
  | .imageTransfer t rq check => Sys2Proof.Machine.execImageTransfer t rq check s
  | .swapWrite t rq => Sys2Proof.Machine.execSwapWrite t rq s
  | .swapRestarted t => Sys2Proof.Machine.execSwapRestarted t s
  | .confirmWrite t rq => Sys2Proof.Machine.execConfirmWrite t rq s
  | .swapConfirmTimeout t => Sys2Proof.Machine.execSwapConfirmTimeout t s
  | .clearWrite t master word v met => Sys2Proof.Machine.execClearWrite t master word v met s
  | .mbNoticePost t master ch v => Sys2Proof.Machine.execMbNoticePost t master ch v s
  | .mbNoticeTake t master ch => Sys2Proof.Machine.execMbNoticeTake t master ch s
  | .ringHeadWrite t master ring v => Sys2Proof.Machine.execRingHeadWrite t master ring v s
  | .ringTailWrite t master ring v => Sys2Proof.Machine.execRingTailWrite t master ring v s
  | .lockRead t master lock rival => Sys2Proof.Machine.execLockRead t master lock rival s
  | .lockWrite t master lock tie => Sys2Proof.Machine.execLockWrite t master lock tie s
  | .journalFlashWrite t ok => Sys2Proof.Machine.execJournalFlashWrite t ok s
  | .supplySag t source mv ns => Sys2Proof.Machine.execSupplySag t source mv ns s
  | .holdupSaveDone t crcOk => Sys2Proof.Machine.execHoldupSaveDone t crcOk s
  | .sagRestart t boot mv ns => Sys2Proof.Machine.execSagRestart t boot mv ns s
  | .railSample t rails bus => Sys2Proof.Machine.execRailSample t rails bus s
  | .junctionRead t sensors => Sys2Proof.Machine.execJunctionRead t sensors s
  | .verifyItemWrite t rq => Sys2Proof.Machine.execVerifyItemWrite t rq s
  | .calVerifyDone t deltas spreads => Sys2Proof.Machine.execCalVerifyDone t deltas spreads s
  | .clearTrimWrite t rq => Sys2Proof.Machine.execClearTrimWrite t rq s
  | .testAccessReset t => Sys2Proof.Machine.execTestAccessReset t s
  | .codecEngineRestart t => Sys2Proof.Machine.execCodecEngineRestart t s
  | .dramRowWindowEnd t => Sys2Proof.Machine.execDramRowWindowEnd t s
  | .csiLanesUlps t port => Sys2Proof.Machine.execCsiLanesUlps t port s

end Sys2Proof.Machine
end

