-- ==== Sys2Proof/Safety.lean ====
section
/-! DEFINITION. Safety.lean: what the statements speak of: when a chip runs, when its link answers, when an Aqlet request
reaches its operation, and what holds of every state on the way. -/
namespace Sys2Proof

open Sys2Proof.Machine

/-- RESET_N has been released (R522). -/
abbrev Awake (s : State) : Prop := s.sys.inReset = false

/-- The chip runs outside SAFE-HOLD. -/
abbrev Alive (s : State) : Prop := Awake s ∧ s.mode ≠ 7

/-- The raster link answers: outside SAFE-HOLD, or in the holding state of R509 after a fault. -/
abbrev Linked (s : State) : Prop := Awake s ∧ ¬(s.mode = 7 ∧ s.power.holding ≠ .afterFault)

/-- A packet of the host passes the receive side of R93: the link is up, both CRCs are right, and its length is that of
its type. -/
abbrev GoodPacket (s : State) (p : Packet) : Prop :=
  s.linkUp = true ∧ hcrcOk p = true ∧ malformed p = false ∧ lcrcOk p = true

/-- A sequenced packet is the next one in order and within the credit that the chip has advertised (R89, R93). -/
abbrev NextInOrder (s : State) (p : Packet) : Prop :=
  GoodPacket s p ∧ sequenced (packetType p) = true ∧ signed16 (packetSeq p) s.link.expectSeq = 0 ∧
    packetCost (packetLen p) ≤ s.freeUnits (packetType p == 3)

/-- The state that a sequenced packet in order leaves before its content takes effect (R89, R93). -/
def inOrder (s : State) (p : Packet) : State :=
  (s.hostSpends (packetType p == 3) (packetCost (packetLen p))).advanceSeq

/-- An Aqlet request as the supervisor gets it (R86, R404): on the raster link its frame is the payload of the packet that the
lanes carry, and its source is the link. -/
def heard (s : State) (rq : Request) : Request :=
  match rq.path with
  | .network => rq
  | .raster => match s.packetIn rq.lanes with
    | some p => { rq with frame := p.payload, src := 0 }
    | none => rq

/-- A request comes by a path that is open: the network is on, or the lanes of an answering raster link carry a CTRL packet
which is the next in order and within its credit (R86, R89, R404, R509). -/
def Comes (s : State) (rq : Request) : Prop :=
  match rq.path with
  | .network => s.netOn = true
  | .raster => ¬(s.mode = 7 ∧ s.power.holding ≠ .afterFault) ∧
      ∃ p, s.packetIn rq.lanes = some p ∧ packetType p = 3 ∧ NextInOrder (s.hear rq.lanes) p

/-- The state in which a request that comes is delivered: over the raster link the lanes have been heard and the packet has
taken its credit (R83, R89). -/
def onPath (s : State) (rq : Request) : State :=
  match rq.path with
  | .network => s
  | .raster => match s.packetIn rq.lanes with
    | some p => inOrder (s.hear rq.lanes) p
    | none => s.hear rq.lanes

/-- What follows once a request has been dealt with: over the raster link its units come free and are advertised (R89, R92). -/
def afterPath (s : State) (rq : Request) (u : State) : State :=
  match rq.path with
  | .network => u
  | .raster => match s.packetIn rq.lanes with
    | some p => (u.freeCredit true (packetCost (packetLen p))).sendCredit
    | none => u

/-- The outcome of a command that carries a request: u is the state once the request has been dealt with. -/
def outcome (s : State) (t : Nat) (rq : Request) (u : State) : Host.Outcome State Fault Refusal :=
  .next ((afterPath (s.tick t) rq u).sealed s t)

/-- A request passes through ring 13 (R415), unless a recovery loader takes it; what has run out by then has ended before it
(R407, R409, R410, R445, R446). -/
def atServer (s : State) (rq : Request) : State :=
  (if s.loaderOnly then s else (s.ringPut 13 (frameWords rq.frame)).ringTake 13).lapse

/-- The state in which a request that reaches the supervisor at t is looked at: its timestamp is taken (R381). -/
def looking (s : State) (t : Nat) (rq : Request) : State :=
  let q := heard (s.tick t) rq
  (atServer (onPath (s.tick t) rq) q).stampRequest q (readFrame q.frame)

/-- The state in which the operation of a request is served: its session is noted as alive too (R409, R413). -/
def serving (s : State) (t : Nat) (rq : Request) (x : Session) : State :=
  (looking s t rq).mapSession x.id fun y => { y with lastValid := (looking s t rq).now }

/-- A request reaches the supervisor, which runs and whose ring has room, or a recovery loader, and passes check 1 of
Table 15-3. -/
def Reaches (s : State) (t : Nat) (rq : Request) : Prop :=
  let q := heard (s.tick t) rq
  let u := onPath (s.tick t) rq
  Awake s ∧ Comes (s.tick t) rq ∧
    (u.loaderOnly = true ∨ (u.sys.supervisor.state = .running ∧ u.ringEntries 13 < ringSlots 13)) ∧
    (readFrame q.frame).check1 q = 0

/-- A request passes checks 1 and 2 of Table 15-3 in the open session x, and R412 lets it execute. -/
def Admitted (s : State) (t : Nat) (rq : Request) (x : Session) : Prop :=
  let q := heard (s.tick t) rq
  let r := readFrame q.frame
  Reaches s t rq ∧ ¬(r.op = 0x10 ∨ r.op = 0x11) ∧ (looking s t rq).sessionFor r.session q = some x ∧
    x.isOpen = true ∧ r.tag = tagOf x.key r.signed ∧ x.checkSeq r.seq r.reqId = .execute

/-- The octets that a WRITE or STAGE request carries (Table 15-2). -/
def valueOctetsOf (rq : Request) : Octets := ((readFrame rq.frame).body.drop 8).take (bits ((readFrame rq.frame).word 0) 15 0)

/-- The number that a WRITE or STAGE request carries, in the type of its subindex. -/
def valueIn (rq : Request) : Int := valueOf (readFrame rq.frame).key (valueOctetsOf rq)

/-- A WRITE passes all eight checks of Table 15-3 (R413): it is admitted in session x, its subindex exists, the role may
write it, the mode and the value allow it, and nothing that it needs is busy or lost. -/
def Granted (s : State) (t : Nat) (rq : Request) (x : Session) : Prop :=
  let q := heard (s.tick t) rq
  let r := readFrame q.frame
  let u := serving s t rq x
  Admitted s t rq x ∧ r.op = 2 ∧ check3 r.key = 0 ∧ check4 x.role r.key 2 = 0 ∧
    u.check5 2 r.key (valueOctetsOf q) x.role x.path = 0 ∧
    u.check6 r.key (bits (r.word 0) 39 24) (valueOctetsOf q) true u.reg = 0 ∧
    (r.key = o2000.REQUEST → u.requestCheck (valueIn q).toNat x.role = 0) ∧
    u.stateCode r.key (valueIn q) (valueOctetsOf q) = 0 ∧ u.modes.commit = none ∧ u.ownerLost r.key = false ∧
    r.key ≠ o7E01.IMAGE

/-- An accepted WRITE is audited and answered (R406, R424): u is the state after its effect, q the request as it was heard. -/
def written (u : State) (q : Request) (x : Session) (data : Octets) : State :=
  u.accept q (readFrame q.frame) x (some (readFrame q.frame).key) (writeAudit (readFrame q.frame).key (valueOctetsOf q)) data
    false

/-- An accepted class-T WRITE executes until its commit is done (R412, R418, R438). -/
def committing (u : State) (q : Request) (x : Session) : State :=
  (u.startRunning (readFrame q.frame) q x).beginCommit (.session (askerOf q (readFrame q.frame) x))
    [((readFrame q.frame).key, valueIn q)] 0

/-- The island-11 time of a command (log entry 10). -/
def Instr.time (i : Instr) : Nat :=
  match i with
  | .crossingStall t .. | .islandClockLost t .. | .clockRatioCheck t .. | .paceMeterWindow t ..
    | .fwPairMismatch t .. | .fwPairRestartDone t .. | .breachEscalated t .. | .heartbeatMissing t ..
    | .rootWatchMismatch t .. | .positionEdge t .. | .encQuadError t .. | .upDownSameSample t ..
    | .countPresetWrite t .. | .formatWrite t .. | .indexEvent t .. | .indexMissing t .. | .wheelEdge t ..
    | .webStandstill t .. | .slotCommit t .. | .slotStart t .. | .xcheckWindowEnd t .. | .xcheckEarlyDisagree t ..
    | .rxAmColumn t .. | .laneFail t .. | .resizeSwitch t .. | .rxLinkAck t .. | .rxLinkReport t ..
    | .rxLinkRetrain t .. | .rxBlockPacket t .. | .pageOpen t .. | .pageCommit t .. | .pageAbort t ..
    | .pageOpInvalid t .. | .memWrite t .. | .memRead t .. | .rxCredit t .. | .rxNack t .. | .rxEchoRequest t ..
    | .rxEchoReply t .. | .rxPacketBad t .. | .echoTimer t .. | .creditTimer t .. | .replayTimeout t ..
    | .detectLocked t .. | .detectTimeout t .. | .alignTimeout t .. | .rateSwitch t .. | .laneTestEnd t ..
    | .retrainEnd t .. | .laneRetest t .. | .enableWrite t .. | .retrainWrite t .. | .loopWrite t ..
    | .prbsRunWrite t .. | .pageRelease t .. | .bandFree t .. | .freeboardUpdate t .. | .dramRefresh t ..
    | .dramTempPoll t .. | .dramRowThrottle t .. | .dramRfmThreshold t .. | .dramCe t .. | .dramUe t ..
    | .dramWriteCrcError t .. | .scrubPass t .. | .mirrorBand t .. | .dramChannelLost t ..
    | .channelRestoreWrite t .. | .dramChannelRestored t .. | .dqsDriftCheck t .. | .trainWrite t ..
    | .blockVerify t .. | .pixelBitsWrite t .. | .codecCompress t .. | .codecDecompress t .. | .codecCopy t ..
    | .codecJobEnd t .. | .logSeqWrite t .. | .sluiceAdmitBand t .. | .sluiceStarveLine t ..
    | .polderComposeLine t .. | .seepWindow t .. | .polderFault t .. | .polderStall t .. | .takeoverConnect t ..
    | .forceTakeoverWrite t .. | .shadowNext t .. | .shadowMismatch t .. | .polderSelfTestDone t ..
    | .returnPolderWrite t .. | .polderReturned t .. | .diesWrite t .. | .healthCommitStage t ..
    | .healthMapSave t .. | .columnHealthWrite t .. | .healthMapWrite t .. | .probeArm t .. | .probeDone t ..
    | .keepWarmTimer t .. | .dieTempStale t .. | .headFireFrameSend t .. | .headPoll t .. | .headSensorPoll t ..
    | .headReply t .. | .headNoReply t .. | .headFrameMissed t .. | .lifetimeWrite t .. | .dieTrainEnd t ..
    | .dieResyncEnd t .. | .dieRetrainEnd t .. | .quarantineStage t .. | .quarantineMaskWrite t ..
    | .retryWrite t .. | .dieIdle t .. | .resistMeasureDone t .. | .csiLinePacket t .. | .csiEmbeddedPacket t ..
    | .csiFrameStart t .. | .csiFrameEnd t .. | .csiPacketIgnored t .. | .csiLaneSyncError t ..
    | .cameraLineTrigger t .. | .frameEnd t .. | .settingsWrite t .. | .cameraI2cStart t .. | .cameraI2cDone t ..
    | .bindWrite t .. | .hostReleaseWrite t .. | .cameraRestartWrite t .. | .cameraLanesReady t ..
    | .cameraRestartEnd t .. | .frameAnalysis t .. | .nameEval t .. | .probationRecheck t .. | .approveWrite t ..
    | .rejectWrite t .. | .lightPulse t .. | .diagPulse t .. | .segmentMeasure t .. | .lightColumnFault t ..
    | .restoreWrite t .. | .lightTestDone t .. | .ntcRead t .. | .moveAbs t .. | .moveRel t .. | .velocity t ..
    | .stop t .. | .home t .. | .enable t .. | .disable t .. | .axisStep t .. | .decelWrite t ..
    | .positionPresetWrite t .. | .limitEdge t .. | .limitRelease t .. | .chopCycle t .. | .axisHoldCurrent t ..
    | .learnWrite t .. | .learnDone t .. | .axisDriveFault t .. | .phyPoll t .. | .switchFrameRx t ..
    | .addressAgeing t .. | .ringCheckSend t .. | .ringCheckRx t .. | .ringCheckTimeout t ..
    | .topologyChangeRx t .. | .syncRx t .. | .followUpRx t .. | .delayReqSend t .. | .delayRespRx t ..
    | .pdelayReqSend t .. | .pdelayReqRx t .. | .pdelayRespRx t .. | .announceRx t .. | .syncSend t ..
    | .timeHoldover t .. | .tsclkRestored t .. | .tsclkCapture t .. | .restepWrite t .. | .timeTriggerFire t ..
    | .trigEdge t .. | .ppsOutEdge t .. | .ppsInEdge t .. | .openSession t .. | .auth t .. | .closeSession t ..
    | .read t .. | .write t .. | .readBlock t .. | .writeBlock t .. | .stage t .. | .commit t .. | .subscribe t ..
    | .trigger t .. | .notify t .. | .sessionAuthTimeout t .. | .sessionIdleTimeout t .. | .lockoutExpire t ..
    | .requestTimeout t .. => t
  | .secretWrite t .. | .auditFlashWrite t .. | .snapshotTimeout t .. | .assemblyTimeout t .. | .saveWrite t ..
    | .configSaveDone t .. | .loadWrite t .. | .requestCapped t .. | .requestService t .. | .requestReady t ..
    | .requestPrint t .. | .requestProof t .. | .requestTest t .. | .requestBoot t .. | .requestSafeHold t ..
    | .fillDone t .. | .drainDone t .. | .proofRunEnd t .. | .resetAssert t .. | .resetRelease t ..
    | .startupComplete t .. | .tideAck t .. | .tideDeadline t .. | .tideTimeout t .. | .tideLineReached t ..
    | .generationRetire t .. | .imageTransfer t .. | .swapWrite t .. | .swapRestarted t .. | .confirmWrite t ..
    | .swapConfirmTimeout t .. | .clearWrite t .. | .mbNoticePost t .. | .mbNoticeTake t .. | .ringHeadWrite t ..
    | .ringTailWrite t .. | .lockRead t .. | .lockWrite t .. | .journalFlashWrite t .. | .supplySag t ..
    | .holdupSaveDone t .. | .sagRestart t .. | .railSample t .. | .junctionRead t .. | .verifyItemWrite t ..
    | .calVerifyDone t .. | .clearTrimWrite t .. | .testAccessReset t .. | .codecEngineRestart t ..
    | .dramRowWindowEnd t .. | .csiLanesUlps t .. => t

/-- The commands that a chip in SAFE-HOLD still takes (R505, R509, R511, R522): those of the raster link and of Aqlet, which
the recovery loader answers, and those of reset, of the power pins, of flash and of the blocks that run on. -/
def Instr.inSafeHold (i : Instr) : Bool :=
  match i with
  | .islandClockLost .. | .positionEdge .. | .countPresetWrite .. | .formatWrite .. | .slotCommit .. | .slotStart ..
    | .rxAmColumn .. | .laneFail .. | .resizeSwitch .. | .rxLinkAck .. | .rxLinkReport .. | .rxLinkRetrain ..
    | .rxBlockPacket .. | .pageOpen .. | .pageCommit .. | .pageAbort .. | .pageOpInvalid .. | .memWrite ..
    | .memRead .. | .rxCredit .. | .rxNack .. | .rxEchoRequest .. | .rxEchoReply .. | .rxPacketBad ..
    | .echoTimer .. | .creditTimer .. | .replayTimeout .. | .detectLocked .. | .detectTimeout .. | .alignTimeout ..
    | .rateSwitch .. | .laneTestEnd .. | .retrainEnd .. | .laneRetest .. | .enableWrite .. | .retrainWrite ..
    | .loopWrite .. | .prbsRunWrite .. | .channelRestoreWrite .. | .trainWrite .. | .pixelBitsWrite ..
    | .logSeqWrite .. | .forceTakeoverWrite .. | .returnPolderWrite .. | .diesWrite .. | .columnHealthWrite ..
    | .healthMapWrite .. | .probeArm .. | .encQuadError .. | .upDownSameSample .. | .indexEvent .. | .wheelEdge ..
    | .quarantineMaskWrite .. | .retryWrite .. | .settingsWrite .. | .bindWrite .. | .hostReleaseWrite ..
    | .cameraRestartWrite .. | .approveWrite .. | .rejectWrite .. | .restoreWrite .. | .decelWrite ..
    | .positionPresetWrite .. | .learnWrite .. | .tsclkCapture .. | .restepWrite .. | .openSession .. | .auth ..
    | .closeSession .. | .read .. | .write .. | .readBlock .. | .writeBlock .. | .stage .. | .commit ..
    | .subscribe .. | .trigger .. | .notify .. | .sessionAuthTimeout .. | .sessionIdleTimeout .. | .lockoutExpire ..
    | .requestTimeout .. | .secretWrite .. | .auditFlashWrite .. | .snapshotTimeout .. | .assemblyTimeout ..
    | .saveWrite .. | .configSaveDone .. | .loadWrite .. | .requestCapped .. | .requestService .. | .requestReady ..
    | .requestPrint .. | .requestProof .. | .requestTest .. | .requestBoot .. | .requestSafeHold ..
    | .resetAssert .. | .resetRelease .. | .startupComplete .. | .imageTransfer .. | .swapWrite ..
    | .confirmWrite .. | .journalFlashWrite .. | .supplySag .. | .holdupSaveDone .. | .sagRestart ..
    | .railSample .. | .junctionRead .. | .verifyItemWrite .. | .clearTrimWrite .. | .testAccessReset .. => true
  | .moveAbs _ _ (.write _) | .moveRel _ _ (.write _) | .velocity _ _ (.write _) | .stop _ _ (.write _)
  | .home _ _ (.write _) | .enable _ _ (.write _) | .disable _ _ (.write _) => true
  | _ => false

/-- The queue stands in time order: no command is earlier than one before it, and none lies in the past. -/
def inTimeOrder : Nat → List Instr → Prop
  | _, [] => True
  | t, i :: rest => t ≤ i.time ∧ inTimeOrder i.time rest

/-- What every step keeps: the waiting commands stand in time order from now on (log entry 10). -/
def QueueInOrder (s : State) : Prop := inTimeOrder s.now s.pending

/-- Whether an identifier is that of an open session. -/
def sessionOpen (s : State) (id : Nat) : Bool := s.aqlet.sessions.any fun x => x.id == id && x.isOpen

end Sys2Proof
end

