-- ==== Sys2Proof/Certificates/Slice0/Obligations.lean ====
section
/-! DEFINITION. Obligations.lean: the statements for the provers. Every completion statement gives the next state as the
operations of the model spell it, so it says at once what the command changes and that nothing else changes;
`State.sealed` leaves the queue to `step` and the clock at the command's time. -/

open Sys2Proof Sys2Proof.Machine

/-! ### Chapter 01: islands, firmware pairs, heartbeats -/

/-- R28 to R30, R477 to R479: a stalled crossing and a lost clock fail the block behind their island (Table 01-8); the clock of a
camera port counts only while the port is bound and its clock lane in high-speed mode; a clock ratio beyond 500 ppm raises
source 5, and a missing heartbeat or a root-watch mismatch loses its region. -/
def Obligations.IslandAndRegionFaultsTakeEffect : Prop :=
  ∀ (s : State) (t : Nat), Alive s →
    (∀ island, island ≠ 9 → exec (.crossingStall t island) s = .next (((s.tick t).islandFails 3 island).sealed s t)) ∧
    exec (.crossingStall t 9) s = .next ((((s.tick t).stopIsland 9).islandFails 3 9).sealed s t) ∧
    (∀ n, exec (.islandClockLost t (.pll n)) s = .next ((((s.tick t).stopIsland n).islandFails 4 n).sealed s t)) ∧
    exec (.islandClockLost t (.refclk 0)) s = .next (((s.tick t).islandFails 4 3).sealed s t) ∧
    exec (.islandClockLost t (.refclk 1)) s = .next (((s.tick t).islandFails 4 4).sealed s t) ∧
    (∀ port, port < 2 → (s.portPipeline port).isSome = true →
      exec (.islandClockLost t (.camera port true)) s = .next (((s.tick t).islandFails 4 (7 + port)).sealed s t)) ∧
    (∀ port high, port < 2 → s.portPipeline port = none ∨ high = false →
      exec (.islandClockLost t (.camera port high)) s = .next ((s.tick t).sealed s t)) ∧
    exec (.islandClockLost t .tsclk) s = .next ((((s.tick t).stopIsland 10).islandFails 4 10).sealed s t) ∧
    exec (.islandClockLost t .fclk) s = .next ((s.tick t).fclkLost.sealed s t) ∧
    (∀ ppm, 500 < ppm → exec (.clockRatioCheck t ppm) s = .next (((s.tick t).raise 5 0 0 23).sealed s t)) ∧
    (∀ ppm, ppm ≤ 500 → exec (.clockRatioCheck t ppm) s = .next ((s.tick t).sealed s t)) ∧
    (∀ region, region ≤ 16 → exec (.heartbeatMissing t region) s = .next (((s.tick t).polderFails region 1).sealed s t)) ∧
    (∀ region, 16 < region → exec (.heartbeatMissing t region) s = .next (((s.tick t).regionFails region 2).sealed s t)) ∧
    exec (.rootWatchMismatch t) s = .next (((s.tick t).safeHold 5 23).sealed s t)

/-- R36 to R38, R477, R486, R532: a firmware pair whose processors disagree raises source 112 and restarts, or is held after
the third time in 60 s; the end of a restart lets it run, and the supervisor then serves what waited; an escalation
raises source 2 with the levels and the region, and one out of level 2 enters SAFE-HOLD; a restart of the codec engine
and a reset of the test access raise the epoch of their master. -/
def Obligations.FirmwarePairsAndEscalationsTakeEffect : Prop :=
  ∀ (s : State) (t : Nat), Alive s →
    (∀ p, ((s.tick t).pair p).state ≠ .held → exec (.fwPairMismatch t p) s = .next (((s.tick t).pairMismatch p).sealed s t)) ∧
    (∀ p, ((s.tick t).pair p).state = .restarting → p ≠ .supervisor →
      exec (.fwPairRestartDone t p) s = .next (((s.tick t).pairRestarted p).sealed s t)) ∧
    (((s.tick t).pair .supervisor).state = .restarting →
      exec (.fwPairRestartDone t .supervisor) s = .next (((s.tick t).pairRestarted .supervisor).serveWaiting.sealed s t)) ∧
    (∀ region, region < 24 → exec (.breachEscalated t region 0) s = .next (((s.tick t).raise 2 (256 + region) 1 region).sealed s t)) ∧
    (∀ region, region = 21 ∨ region = 22 → ∀ level, 1 ≤ level → level < 3 →
      exec (.breachEscalated t region level) s = .next (((s.tick t).regionFails region level).sealed s t)) ∧
    (∀ region, region < 24 → region ≠ 21 → region ≠ 22 →
      exec (.breachEscalated t region 1) s = .next (((s.tick t).raise 2 (0x1200 + region) 2 region).sealed s t) ∧
      exec (.breachEscalated t region 2) s =
        .next ((((s.tick t).raise 2 (0x2300 + region) 3 region).safeHold 5 region).sealed s t)) ∧
    exec (.codecEngineRestart t) s = .next (((s.tick t).raiseEpoch 6).sealed s t) ∧
    exec (.testAccessReset t) s = .next (((s.tick t).raiseEpoch 7).sealed s t)

/-- R32 to R34: a window of 24 pace figures: each is shown, and so is the lowest with its region; PACE_LOW is raised for each
region whose figure is below 1,000 and was not in the window before; once the lowest is 1,024 or more the flag is cleared. -/
def Obligations.PaceMeterWindowTakesEffect : Prop :=
  ∀ (s : State) (t : Nat) (figures : List Nat), Alive s → figures.length = 24 →
    let shown := ((figures.zipIdx.foldl (fun (u : State) x => u.setRegN (o7C10.PACE + x.2) (x.1 % 65536)) (s.tick t)).setRegN
      o7C10.PACE_LOWEST (lowest figures).1).setRegN o7C10.PACE_LOWEST_REGION (lowest figures).2
    let low := (List.range 24).filter fun r => decide (figures.getD r 0 < 1000)
    let kept := { shown with sys := { shown.sys with paceLow := low } }
    (∀ fallen, fallen = (low.filter fun r => !s.sys.paceLow.contains r) → (lowest figures).1 < 1024 →
      exec (.paceMeterWindow t figures) s = .next ((fallen.foldl (fun u r => u.raise 6 r 0 r) kept).sealed s t)) ∧
    (low = [] → 1024 ≤ (lowest figures).1 →
      exec (.paceMeterWindow t figures) s = .next ((kept.setRegBit o2801.FLAGS 6 false).sealed s t))

/-! ### Chapter 02: position -/

/-- R39 to R44, R47, R49, R51, R55: levels that have held for FILTER_NS are taken over and count one edge, or none, by Table 02-1,
in SAFE-HOLD too; levels that have held for less do nothing; a quadrature error, an index, a missing index, a tooth of the
wheel and a standstill take the effect of their rule; A or B of the same sample is applied before an index or a tooth; UP and
DOWN of one sample count nothing. -/
def Obligations.PositionEventsTakeEffect : Prop :=
  ∀ (s : State) (t ch : Nat), ch < 2 →
    let c := s.channel ch
    let format := s.regN (o6400.FORMAT + 256 * ch)
    let filter := s.regN (o6400.FILTER_NS + 256 * ch)
    let inverted := s.regN (o6400.INVERT + 256 * ch) == 1
    let taken := fun (x : Levels) => (s.tick t).setChannel ch { c with a := x.a, b := x.b }
    (∀ x down, Alive s → s.islandLost 11 = false → filter ≤ x.held → edgeOf format c.a c.b x.a x.b = some down →
      exec (.positionEdge t ch x) s = .next (((taken x).countEdge ch (down != inverted) (max s.now t)).sealed s t)) ∧
    (∀ x down, Awake s → s.mode = 7 → s.islandLost 11 = false → filter ≤ x.held →
      edgeOf format c.a c.b x.a x.b = some down → exec (.positionEdge t ch x) s =
        .next (((taken x).setCount ch (if down != inverted then s.countOf ch + (2 ^ 48 - 1) else s.countOf ch + 1)).sealed s t)) ∧
    (∀ x, Awake s → s.islandLost 11 = false → filter ≤ x.held → edgeOf format c.a c.b x.a x.b = none →
      ¬(format = 0 ∧ c.a ≠ x.a ∧ c.b ≠ x.b) → exec (.positionEdge t ch x) s = .next ((taken x).sealed s t)) ∧
    (∀ x, Awake s → x.held < filter → exec (.positionEdge t ch x) s = .next ((s.tick t).sealed s t)) ∧
    (∀ held, Awake s → s.islandLost 11 = false → filter ≤ held → format = 0 →
      exec (.encQuadError t ch held) s =
        .next ((State.quadError ch (taken { a := !c.a, b := !c.b, held := held })).sealed s t)) ∧
    (∀ held, Awake s → s.islandLost 11 = false → filter ≤ held → format = 2 → c.a = false → c.b = false →
      exec (.upDownSameSample t ch held) s = .next ((taken { a := true, b := true, held := held }).sealed s t)) ∧
    (∀ held, Alive s → filter ≤ held →
      (s.regN (o6400.INDEX_SOURCE + 256 * ch) = 1 →
        exec (.indexEvent t ch held none) s = .next ((State.indexAt ch (s.tick t)).sealed s t)) ∧
      exec (.wheelEdge t ch held none) s = .next ((State.wheelTooth ch (s.tick t)).sealed s t)) ∧
    (∀ held x, let u := (s.tick t).acceptLevels ch x
      Awake s → u.mode ≠ 7 → u.regN (o6400.FILTER_NS + 256 * ch) ≤ held →
        (u.regN (o6400.INDEX_SOURCE + 256 * ch) = 1 →
          exec (.indexEvent t ch held (some x)) s = .next ((State.indexAt ch u).sealed s t)) ∧
        exec (.wheelEdge t ch held (some x)) s = .next ((State.wheelTooth ch u).sealed s t)) ∧
    (∀ l, Alive s → c.index = some l → c.missing = false → s.regN (o6400.INDEX_NOMINAL + 256 * ch) ≠ 0 →
      (3 * s.regN (o6400.INDEX_NOMINAL + 256 * ch) : Int) < 2 * signed 48 (s.countOf ch + (2 ^ 48 - l.count)) →
      exec (.indexMissing t ch) s =
        .next ((((((((s.tick t).setChannel ch { c with missing := true }).setStatus ch 4 true).noteIndicator ch).noteBad ch).incReg
          (o6400.INDEX_FAULTS + 256 * ch)).raise 81 ch 0 20 true).sealed s t)) ∧
    (Alive s → s.statusBit ch 3 = false →
      s.regN (o6400.STANDSTILL_MS + 256 * ch) * 1000000 ≤ max s.now t - c.times.headD s.sys.releasedAt →
      exec (.webStandstill t ch) s =
        .next (((((((if s.pacer = some ch then (s.tick t).extrapolate (max s.now t) else s.tick t).setChannel ch
          { c with run := 0 }).setStatus ch 3 true).setStatus ch 1 false).noteIndicator ch).raise 83 ch 0 20).sealed s t))

/-- R67 to R69: with an active source a and a checking source c, the window is judged once the active source has gone
`XCHECK_WINDOW` lines, and before that once one source goes 64 lines while the other stands still. -/
def Obligations.CrossCheckTakesEffect : Prop :=
  ∀ (s : State) (t a c : Nat), Alive s → s.pacer = some a → s.pos.checking = some c →
    ((s.regN o3101.XCHECK_WINDOW * (s.netLines a s.pos.window.active).2 : Nat) ≤ (s.netLines a s.pos.window.active).1.natAbs →
      exec (.xcheckWindowEnd t) s = .next ((s.tick t).windowEnd.sealed s t)) ∧
    ((s.netLines a s.pos.window.active).1.natAbs < s.regN o3101.XCHECK_WINDOW * (s.netLines a s.pos.window.active).2 →
      exec (.xcheckWindowEnd t) s = .next ((s.tick t).sealed s t)) ∧
    (64 * (s.netLines a s.pos.window.active).2 ≤ (s.netLines a s.pos.window.active).1.natAbs → s.still c = true →
      exec (.xcheckEarlyDisagree t) s = .next ((State.disagree (some c) (s.tick t)).sealed s t)) ∧
    (64 * (s.netLines c s.pos.window.checking).2 ≤ (s.netLines c s.pos.window.checking).1.natAbs → s.still a = true →
      s.still c = false → exec (.xcheckEarlyDisagree t) s = .next ((State.disagree (some a) (s.tick t)).sealed s t))

/-! ### Chapter 03: the raster link -/

/-- R83 to R95, R115, R155: the packet that the lanes carry: a sequenced packet in order takes its credit and its number, its
content takes effect, and the link answers with CREDIT; CREDIT, NACK and ECHO packets take effect at once; a bad packet is
handled by R93 and R94, and one before or after its turn is acknowledged again or asked for. -/
def Obligations.PacketsTakeEffect : Prop :=
  ∀ (s : State) (t : Nat) (x : Reception) (p : Packet), Linked s → (s.tick t).packetIn x = some p →
    let u := (s.tick t).hear x
    (NextInOrder u p → packetType p = 1 → exec (.rxBlockPacket t x) s =
      .next ((State.blockPacket p (inOrder u p)).sendCredit.sealed s t)) ∧
    (NextInOrder u p → packetType p = 2 → bits (packetWord p 0) 31 24 = 1 → exec (.pageOpen t x) s =
      .next ((State.pagePacket p (inOrder u p)).sendCredit.sealed s t)) ∧
    (NextInOrder u p → packetType p = 2 → bits (packetWord p 0) 31 24 = 2 → exec (.pageCommit t x) s =
      .next ((State.pagePacket p (inOrder u p)).sendCredit.sealed s t)) ∧
    (NextInOrder u p → packetType p = 2 → bits (packetWord p 0) 31 24 = 3 → exec (.pageAbort t x) s =
      .next ((State.pagePacket p (inOrder u p)).sendCredit.sealed s t)) ∧
    (NextInOrder u p → packetType p = 2 → ¬(1 ≤ bits (packetWord p 0) 31 24 ∧ bits (packetWord p 0) 31 24 ≤ 3) →
      exec (.pageOpInvalid t x) s = .next ((State.pagePacket p (inOrder u p)).sendCredit.sealed s t)) ∧
    (NextInOrder u p → packetType p = 4 → bits (packetWord p 0) 63 56 ≠ 2 → exec (.memWrite t x) s =
      .next ((State.memPacket p (inOrder u p)).sendCredit.sealed s t)) ∧
    (NextInOrder u p → packetType p = 4 → bits (packetWord p 0) 63 56 = 2 → exec (.memRead t x) s =
      .next ((State.memPacket p (inOrder u p)).sendCredit.sealed s t)) ∧
    (GoodPacket u p → packetType p = 8 → exec (.rxCredit t x) s = .next ((State.creditPacket p u).sealed s t)) ∧
    (GoodPacket u p → packetType p = 9 → exec (.rxNack t x) s =
      .next (((u.incReg o4002.NACKS_RECEIVED).replayFrom
        fun q => decide (0 ≤ signed16 q.seq (bits (packetWord p 0) 63 48))).sealed s t)) ∧
    (GoodPacket u p → packetType p = 10 → bit (packetWord p 0) 39 = false → exec (.rxEchoRequest t x) s =
      .next ((u.putPacket 10 0 (octetsOf 8 (setBit (packetWord p 0) 39 true) ++ p.payload.drop 8)).sealed s t)) ∧
    (∀ at_, GoodPacket u p → packetType p = 10 → bit (packetWord p 0) 39 = true →
      u.link.echoSent = some (bits (packetWord p 0) 63 48, at_) → exec (.rxEchoReply t x) s =
        .next (((u.setRegN o4002.ECHO_RTT_NS ((u.now - at_) % 2 ^ 32)).withLink
          fun l => { l with echoSent := none }).sealed s t)) ∧
    (u.linkUp = true → hcrcOk p = false → exec (.rxPacketBad t x) s =
      .next (((u.incReg o4002.HCRC_ERRORS).nack 2).noteReplay.sealed s t)) ∧
    (u.linkUp = true → hcrcOk p = true → malformed p = true → exec (.rxPacketBad t x) s =
      .next ((((u.incReg o4002.PROTOCOL_ERRORS).nack 5).raise 18 5 0 17).sealed s t)) ∧
    (u.linkUp = true → hcrcOk p = true → malformed p = false → lcrcOk p = false → exec (.rxPacketBad t x) s =
      .next (((u.incReg o4002.LCRC_ERRORS).nack 1).noteReplay.sealed s t)) ∧
    (GoodPacket u p → sequenced (packetType p) = true → packetSeq p = u.link.expectSeq → signed16 (packetSeq p) u.link.expectSeq = 0 →
      u.freeUnits (packetType p == 3) < packetCost (packetLen p) →
      exec (.rxPacketBad t x) s = .next ((((u.incReg o4002.PROTOCOL_ERRORS).nack 4).raise 18 4 0 17).sealed s t)) ∧
    (GoodPacket u p → packetType p = 1 → signed16 (packetSeq p) u.link.expectSeq < 0 →
      exec (.rxBlockPacket t x) s = .next (u.sendCredit.sealed s t)) ∧
    (GoodPacket u p → packetType p = 1 → 0 < signed16 (packetSeq p) u.link.expectSeq → u.link.gapNack = none →
      exec (.rxBlockPacket t x) s = .next (((((u.incReg o4002.SEQ_GAPS).nack 3).withLink fun l =>
        { l with gapNack := some (l.expectSeq, u.now) }).noteReplay).sealed s t))

/-- R74, R79, R80, R88, R92 to R94, R96 to R104: what the lanes carry, LINK blocks, timers and the ends of training steps take the
effect of their rule in the link state that it names. -/
def Obligations.LinkEventsTakeEffect : Prop :=
  ∀ (s : State) (t : Nat), Linked s →
    (∀ x, exec (.laneFail t x) s = .next (((s.tick t).hear x).sealed s t)) ∧
    (∀ x lanes, exec (.rxAmColumn t x lanes) s =
      .next (((s.tick t).hear x).amColumn lanes (lastOf ((s.tick t).hearAll x) blockAM) |>.sealed s t)) ∧
    (∀ o, s.link.lanes.order = some o → s.regN o4000.STATE = 5 →
      exec (.resizeSwitch t) s = .next ((s.tick t).resizeNow.sealed s t)) ∧
    (∀ x v, s.linkUp = true → (s.tick t).linkIn x = some v →
      (bits v 55 48 = 3 → exec (.rxLinkAck t x) s = .next ((State.linkAck v ((s.tick t).hear x)).sealed s t)) ∧
      (bits v 55 48 = 1 →
        exec (.rxLinkReport t x) s = .next ((((s.tick t).hear x).failLanes (255 - bits v 47 40)).sealed s t)) ∧
      (bits v 55 48 = 4 → ((s.tick t).hear x).regN o4000.STATE = 4 →
        exec (.rxLinkRetrain t x) s = .next (((s.tick t).hear x).enterRetrain.sealed s t))) ∧
    (∀ o v, s.link.lanes.order = some o → bits v 47 40 = o.mask → bits v 39 24 = o.target →
      State.linkAck v s = s.withLink fun l => { l with lanes := { l.lanes with order := some { o with acked := true } } }) ∧
    (s.regN o4000.STATE = 4 → exec (.echoTimer t) s =
      .next ((((s.tick t).withLink fun l =>
        { l with echoId := (s.link.echoId + 1) % 65536, echoSent := some ((s.link.echoId + 1) % 65536, max s.now t) }).putPacket
          10 0 (octetsOfWords [place ((s.link.echoId + 1) % 65536) 63 48, 0])).sealed s t)) ∧
    (s.regN o4000.STATE = 4 → exec (.creditTimer t) s = .next ((s.tick t).sendCredit.sealed s t)) ∧
    (s.linkUp = true → s.link.lastAck + s.regN o4000.REPLAY_TIMEOUT_US * 1000 ≤ max s.now t →
      exec (.replayTimeout t) s =
        .next ((((s.tick t).replayFrom fun _ => true).withLink fun l =>
          { l with lastAck := max s.now t }).sealed s t)) ∧
    (∀ x n l, ((s.tick t).hear x).regN o4000.STATE = 1 → n < 8 → ((s.tick t).hearAll x)[n]? = some l → l.after.locked = true →
      heardTrn ((s.tick t).hearAll x) n = true →
      exec (.detectLocked t x) s = .next ((((s.tick t).hear x).setRegN o4000.STATE 2).sealed s t)) ∧
    (s.regN o4000.STATE = 1 → exec (.detectTimeout t) s = .next ((s.tick t).presetLanes.enterDetect.sealed s t)) ∧
    (s.regN o4000.STATE = 2 → exec (.alignTimeout t) s = .next ((s.tick t).enterDetect.sealed s t)) ∧
    (∀ k, s.link.lanes.nextRate = some k → s.regN o4000.STATE = 3 → exec (.rateSwitch t) s =
      .next ((State.switchRate k (s.tick t)).sealed s t) ∧ (State.switchRate k (s.tick t)).reg o4000.RATE =
        ((s.tick t).setRegN o4000.RATE k).reg o4000.RATE ∧
      (State.switchRate k (s.tick t)).link.lanes.nextRate = none) ∧
    (∀ x tests, exec (.laneTestEnd t x tests) s =
      .next ((State.testEnds ((s.tick t).hearAll x) tests ((s.tick t).hear x)).sealed s t)) ∧
    (∀ x tests, let u := (s.tick t).hear x
      let h := (s.tick t).hearAll x
      let r := State.testLanes h tests (without u.laneLimit u.link.lanes.marked) u
      u.regN o4000.STATE = 6 →
        (r.1 = 0 → exec (.retrainEnd t x tests) s = .next (r.2.linkDown.sealed s t)) ∧
        (r.1 ≠ 0 → exec (.retrainEnd t x tests) s =
          .next ((r.2.enterUp (r.2.regN o4000.RATE) (widthFor (lanesOf r.1).length) r.1 false).sealed s t))) ∧
    (∀ x lane test, let u := (s.tick t).hear x
      let h := (s.tick t).hearAll x
      u.linkUp = true → lane < 8 → bit (u.regN o4000.FAILED_LANES) lane = true →
      let measured := u.tested lane test
      (u.testOk lane test = false → exec (.laneRetest t lane x test) s = .next (measured.sealed s t)) ∧
      (∀ f, u.testOk lane test = true → lastOf h blockTRN lane = some f → bit f 28 = true →
        let standby := (measured.showLanes (measured.regN o4000.ACTIVE_LANES) (setBit (measured.regN o4000.STANDBY_LANES) lane true)
          (setBit (measured.regN o4000.FAILED_LANES) lane false)).withUnit lane fun y => { y with bip := [], badAms := 0 }
        exec (.laneRetest t lane x test) s =
          .next (((standby.raise 21 (256 * lane + standby.regN o4000.ACTIVE_LANES) 0 17 true).widen).sealed s t)))

/-! ### Chapters 04 and 05: page store, DRAM, codec -/

/-- R118, R122, R137: behind the firing line a page that the tide does not hold is released and its bands come free, the freeboard
is measured, and a band within the mirror horizon is copied. -/
def Obligations.PageStoreEventsTakeEffect : Prop :=
  ∀ (s : State) (t stream tag : Nat), Alive s →
    (∀ p, (s.tick t).pageOf stream tag = some p → s.printing = true → p.held = false →
      (p.endLine : Int) + (s.tick t).largestDelay < (s.tick t).firingLine →
      exec (.pageRelease t stream tag) s = .next (((s.tick t).releasePage p).sealed s t)) ∧
    (∀ p, (s.tick t).pageOf stream tag = some p → s.printing = true → p.held = false → p.freed < p.bands →
      ((min (p.start + 64 * p.freed + 63) (p.endLine - 1) : Nat) : Int) + (s.tick t).largestDelay < (s.tick t).firingLine →
      let ofBand := p.blocks.filter fun x => x.index / p.columns == p.freed
      exec (.bandFree t stream tag) s =
        .next (((((s.tick t).sourceGone p p.freed p.freed).mapPage stream tag fun q =>
          { q with freed := p.freed + 1, lacking := q.lacking || !decide (p.columns ≤ ofBand.length),
                   blocks := q.blocks.filter fun x => !(x.index / p.columns == p.freed),
                   resend := q.resend.filter fun i => i / q.columns != p.freed,
                   reserved := if q.committed then q.reserved - heldGranules ofBand else q.reserved }).withDram
                     fun d => { d with fullAt := none }).sealed s t)) ∧
    exec (.freeboardUpdate t) s = .next ((s.tick t).refreshFreeboard.sealed s t) ∧
    (∀ p band, (s.tick t).pageOf stream tag = some p → s.regN o4403.CHANNELS % 4 = 3 → band < p.bands →
      ((p.start + 64 * band : Nat) : Int) ≤ (s.tick t).firingLine + s.regN o4400.MIRROR_LINES →
      exec (.mirrorBand t stream tag band) s = .next ((State.mirrorBand stream tag band (s.tick t)).sealed s t))

/-- R110, R126, R128 to R136: the requests since the last refresh of a subchannel are served, and the refresh due is issued,
postponed up to four times or forced; never at the instant of the other rank's; the temperature poll, row disturbance, and the
errors of the DRAM take effect. -/
def Obligations.DramEventsTakeEffect : Prop :=
  ∀ (s : State) (t channel sub rank : Nat), Alive s →
    let key := dramRank channel sub rank
    (∀ traffic, let u := (s.tick t).serveTraffic channel sub traffic
      let due := heldFor u.dram.dueAt key u.now
      let owed := heldFor u.dram.owed key 0
      let timed := u.withDram fun d => { d with dueAt := replaceKey d.dueAt key (due + u.refreshInterval) }
      let later := timed.withDram fun d => { d with owed := replaceKey d.owed key (owed + 1) }
      u.channelUp channel = true → rank < u.regN o4400.RANKS → due ≤ u.now →
      (timed.otherRankRefreshed channel sub rank = true →
        exec (.dramRefresh t channel sub rank traffic) s = .next (later.sealed s t)) ∧
      (timed.otherRankRefreshed channel sub rank = false → timed.refreshWaits key = false →
        exec (.dramRefresh t channel sub rank traffic) s = .next ((timed.issueRefresh channel sub rank).sealed s t)) ∧
      (timed.otherRankRefreshed channel sub rank = false → timed.refreshWaits key = true → owed < 4 →
        exec (.dramRefresh t channel sub rank traffic) s = .next ((later.incReg o4403.REFRESH_POSTPONED).sealed s t)) ∧
      (timed.otherRankRefreshed channel sub rank = false → timed.refreshWaits key = true → 4 ≤ owed →
        exec (.dramRefresh t channel sub rank traffic) s =
          .next (((timed.issueRefresh channel sub rank).incReg o4403.REFRESH_FORCED).sealed s t))) ∧
    (∀ hot, exec (.dramTempPoll t hot) s = .next (((s.tick t).setFlag o4403.REFRESH_DOUBLED hot).sealed s t)) ∧
    (∀ bank row x port, s.dram.rows.find? (fun y => y.bank == key * 32 + bank && y.row == row) = some x →
      s.regN o4400.ROW_ACT_LIMIT ≤ x.count → x.handled = false →
      bestBy (fun p : Nat => (x.ports.getD p 0 : Int)) (List.range 10) = some port →
      let managed := ((s.tick t).withDram fun d =>
        { d with rows := d.rows.map fun y => if y = x then { x with handled := true } else y }).refreshManage (key * 32 + bank)
      (port = 0 → exec (.dramRowThrottle t channel sub rank bank row) s = .next (managed.sealed s t)) ∧
      (port ≠ 0 → exec (.dramRowThrottle t channel sub rank bank row) s =
        .next ((((managed.withDram fun d =>
          { d with throttles := (port, (key * 32 + bank) * 2 ^ 20 + row, managed.now) :: d.throttles }).incReg
            o4403.THROTTLES).raise 26 port 0 18).sealed s t))) ∧
    exec (.dramRowWindowEnd t) s = .next (((s.tick t).withDram fun d => { d with throttles := [], rows := [] }).sealed s t) ∧
    (∀ bank first most, s.dram.rfm = some (first, most) → first ≤ heldFor s.dram.raa (key * 32 + bank) 0 →
      exec (.dramRfmThreshold t channel sub rank bank) s = .next (((s.tick t).refreshManage (key * 32 + bank)).sealed s t)) ∧
    (∀ address flips, flips ≠ [] → s.corrects flips = true → exec (.dramCe t channel address flips) s =
      .next ((State.correctable channel address flips (s.tick t)).sealed s t)) ∧
    (∀ port address flips mirrorOk, s.corrects flips = false → exec (.dramUe t channel port address flips mirrorOk) s =
      .next ((State.uncorrectable channel port address flips mirrorOk (s.tick t)).sealed s t)) ∧
    (∀ retries, s.flag o4400.WRITE_CRC = true → retries ≤ 3 → exec (.dramWriteCrcError t channel retries) s =
      .next (((s.tick t).addReg o4403.WRITE_CRC_RETRIES retries).sealed s t)) ∧
    (∀ due, due = s.dram.scrubFrom + s.regN o4400.SCRUB_HOURS * 3600000000000 → due ≤ max s.now t →
      exec (.scrubPass t) s =
        .next ((((s.tick t).withDram fun d => { d with scrubFrom := due }).incReg o4403.SCRUB_PASSES).sealed s t))

/-- R138, R139, R142, R145: a channel is lost, by its own fault or by an eye that is too narrow, and a restored channel
carries data again. -/
def Obligations.ChannelEventsTakeEffect : Prop :=
  ∀ (s : State) (t channel : Nat), Alive s →
    (channel < 2 → s.channelUp channel = true →
      exec (.dramChannelLost t channel) s = .next (((s.tick t).channelLost channel).sealed s t)) ∧
    (∀ eyes, s.dram.restoring = some channel → exec (.dramChannelRestored t channel eyes) s =
      .next (((((((s.tick t).setRegBit o4403.CHANNELS channel true).setRegN o4406.LOST_CHANNEL 0).withDram
        fun d => { d with restoring := none }).showEyes (10 * channel) (eyes.take 10)).raise 28 channel 0 18 true).judgeBoth.sealed
          s t)) ∧
    (∀ drift eye, eye < 64 → exec (.dqsDriftCheck t channel drift eye) s = .next (((s.tick t).channelLost channel).sealed s t)) ∧
    (∀ drift eye, 64 ≤ eye → 32 < drift.natAbs → exec (.dqsDriftCheck t channel drift eye) s =
      .next (((s.tick t).withDram fun d =>
        { d with drift := (channel, drift) :: d.drift.filter fun x => x.1 != channel }).sealed s t)) ∧
    (∀ drift eye, 64 ≤ eye → drift.natAbs ≤ 32 → exec (.dqsDriftCheck t channel drift eye) s = .next ((s.tick t).sealed s t))

/-- R155, R161, R165 to R169: the verifier finishes the oldest block of a stream, the codec engine takes a descriptor of its
kind while fewer than 64 jobs are in flight, and a job that ends leaves them and puts its record on ring 4. -/
def Obligations.VerifierAndCodecTakeEffect : Prop :=
  ∀ (s : State) (t : Nat), Alive s →
    (∀ stream o channel at_ gone rest, stream < 2 → s.queueOf stream = .block o channel at_ gone :: rest →
      let reason := (s.tick t).verifyReason stream o (s.claimedByJob stream)
      let judged := if gone then s.tick t
        else if reason = 0 then ((s.tick t).placeBlock stream o channel at_).incReg o4801.BLOCKS_VERIFIED
        else (s.tick t).refuseBlock stream o reason
      exec (.blockVerify t stream) s =
        .next (((State.runCommits stream rest judged).freeCredit false (packetCost o.length)).sendCredit.sealed s t)) ∧
    (∀ words next j mismatches, s.pageStore.jobs.length < 64 → State.takeSlot 256 3 8 (s.tick t) = (some words, next) →
      j = next.makeJob words mismatches →
      let joined := next.withPages fun q => { q with jobs := q.jobs ++ [j] }
      let taken := if j.status = 4 ∧ joined.jobAllowed j = 1 then joined.auditRefusal 1 0x05000401 else joined
      let told (u : State) := ((List.range j.verBack).foldl (fun (u : State) _ => u.raise 34 0 0 17)
        ((u.addReg o4800.RAW_FALLBACKS j.rawBack).addReg o4800.VERIFY_FALLBACKS j.verBack))
      let shown (u : State) := u.setRegN o4800.JOBS_IN_FLIGHT u.pageStore.jobs.length
      (bits (words.getD 0 0) 47 40 = 1 → j.kind = 1 → exec (.codecCompress t mismatches) s =
        .next ((shown (told (taken.addReg o4800.BLOCKS_CODED j.done))).sealed s t)) ∧
      (bits (words.getD 0 0) 47 40 = 2 → j.kind = 2 → mismatches = [] →
        exec (.codecDecompress t) s = .next ((shown (told taken)).sealed s t)) ∧
      (bits (words.getD 0 0) 47 40 = 3 → j.kind = 3 → mismatches = [] →
        exec (.codecCopy t) s = .next ((shown (told taken)).sealed s t))) ∧
    (∀ j elapsed, (s.pageStore.jobs.find? fun x => x.id == j.id) = some j →
      exec (.codecJobEnd t j.id elapsed) s = .next ((State.endJob j.id elapsed (s.tick t)).sealed s t))

/-! ### Chapters 06 and 07: polders, composing, nozzle health -/

/-- R173, R175, R188 to R192, R196, R197, R214: the sluice, the streams and the takeover of polder S take the effect of their
rule; a parity or rail fault and a stall reach the polder that they name. -/
def Obligations.PolderEventsTakeEffect : Prop :=
  ∀ (s : State) (t p : Nat), Alive s →
    (∀ stream faults at_ page b base last, p < 16 → stream < 2 → (s.tick t).composes p = true →
      (s.tick t).admitNext p stream = some at_ → (s.tick t).bandAt at_ = some (page, b, base, last) →
      (s.streamOf p stream).hasRoom base = true → (s.tick t).bandReady p stream page b = true →
      exec (.sluiceAdmitBand t p stream faults) s =
        .next (((s.tick t).admitLines p stream page b base at_ last faults).sealed s t)) ∧
    (∀ stream faults page b base last, p < 16 → stream < 2 → (s.tick t).composes p = true →
      let at_ := (s.tick t).streamNext p stream
      (s.tick t).bandAt at_ = some (page, b, base, last) → (s.streamOf p stream).chunkAt at_ = none →
      (s.tick t).bandReady p stream page b = false → (s.tick t).fifoLevel p stream ≤ 32 →
      (s.streamOf p stream).hasRoom base = true →
      let counted := (s.tick t).starveLine at_
      (page.committed = true → exec (.sluiceStarveLine t p stream faults) s =
        .next ((counted.admitLines p stream page b base at_ at_ faults).sealed s t)) ∧
      (page.committed = false → exec (.sluiceStarveLine t p stream faults) s =
        .next (((counted.excuseStream p stream at_).mapStream p stream fun y =>
          { y with bufs := y.bufs ++ [{ base := base, first := at_, last := at_, tiles := [] }] }).sealed s t))) ∧
    (∀ stream traceLost, p < 16 → (s.tick t).composes p = true →
      let lanes := ((s.tick t).streamDies p stream).filter fun d => decide ((s.tick t).dieLevel d < 256)
      let line := smallest 0 (lanes.map (s.tick t).dieNext)
      stream < 2 → lanes ≠ [] →
      (∀ c, (s.streamOf p stream).chunkAt line = some c → exec (.polderComposeLine t p stream traceLost) s =
        .next (((s.tick t).composeLine p stream line (lanes.filter fun d => (s.tick t).dieNext d == line) (c.pixel line)
          traceLost).sealed s t)) ∧
      ((s.streamOf p stream).chunkAt line = none → (s.tick t).bandAt line = none →
        exec (.polderComposeLine t p stream traceLost) s =
          .next (((s.tick t).composeLine p stream line (lanes.filter fun d => (s.tick t).dieNext d == line) (fun _ => 0)
            traceLost).sealed s t))) ∧
    (∀ cause, p ≤ 16 → cause = 2 ∨ cause = 3 → exec (.polderFault t p cause) s =
      .next (((s.tick t).polderFault p cause (max s.now t)).sealed s t)) ∧
    (p ≤ 16 → s.handshakes p = true → exec (.polderStall t p) s =
      .next (((s.tick t).polderFault p 1 (max s.now t - s.regN o3020.HANDSHAKE_TIMEOUT_US * 1000)).sealed s t)) ∧
    (s.polders.serving = some p → s.polders.connected = false → s.polders.spare.state = 10 →
      exec (.takeoverConnect t) s =
        .next ((((((s.tick t).withPolders fun q => { q with connected := true }).incReg o3020.TAKEOVERS).setRegN
          o3020.LAST_TAKEOVER_US ((max s.now t - s.polders.takenAt) / 1000 % 2 ^ 32)).raise 38
          (s.polders.takeCause * 256 + p) 2 p).sealed s t)) ∧
    (s.polders.spare.state = 8 ∨ s.polders.spare.state = 9 →
      (s.flag o3020.SHADOW_ENABLE = false ∨ s.printing = false → exec (.shadowNext t) s =
        .next ((((s.tick t).setPolder 16 8).withPolders fun q => { q with shadowed := none }).sealed s t)) ∧
      (∀ next, s.flag o3020.SHADOW_ENABLE = true → s.printing = true → (s.tick t).shadowOver = true →
        (s.tick t).nextShadow (match s.polders.shadowed with
          | some q => some q
          | none => s.polders.resume) = some next →
        exec (.shadowNext t) s = .next ((((s.tick t).setPolder 16 9).withPolders fun q =>
          { q with shadowed := some next, resume := none,
                   joined := ((s.tick t).streamNext next 0, (s.tick t).streamNext next 1) }).sealed s t))) ∧
    (∀ same, s.polders.shadowed = some p → s.polders.spare.state = 9 → exec (.shadowMismatch t same) s =
      .next ((State.shadowMismatch same (s.tick t)).sealed s t)) ∧
    (p ≤ 16 → (s.polder p).state = 2 → (s.polder p).faults < 3 → exec (.polderSelfTestDone t p true) s =
      .next ((((s.tick t).setPolder p (if p = 16 then 8 else 3)).raise 41 p 0 p).sealed s t)) ∧
    (p ≤ 16 → (s.polder p).state = 2 → exec (.polderSelfTestDone t p false) s =
      .next ((((s.tick t).mapPolder p fun q => { q with state := 5, cause := 6 }).raise 41 p (if p = 16 then 1 else 2) p true).sealed s t)) ∧
    (∀ l, p < 16 → s.polders.returnAt = some l → (s.polder p).state = 4 → (s.tick t).streamPast p 0 l = true →
      (s.tick t).streamPast p 1 l = true → exec (.polderReturned t p) s = .next (((s.tick t).finishReturn p).sealed s t))

/-- R203, R208, R217, R222: a seep window ends with its events, a staged map becomes due as a commit, the map in force is
saved for every die of known identity, and a probe that has run is handed back. -/
def Obligations.HealthEventsTakeEffect : Prop :=
  ∀ (s : State) (t : Nat), Alive s →
    (s.health.lost = 0 → s.health.seeped ≤ s.regN o3402.SEEP_RATE_LIMIT → exec (.seepWindow t) s =
      .next (((s.tick t).withHealth fun h => { h with seeped := 0, lost := 0 }).sealed s t)) ∧
    (s.health.lost = 0 → s.regN o3402.SEEP_RATE_LIMIT < s.health.seeped → exec (.seepWindow t) s =
      .next ((((s.tick t).withHealth fun h => { h with seeped := 0, lost := 0 }).raise 49 0 0 23).sealed s t)) ∧
    (0 < s.health.lost → s.regN o3402.SEEP_RATE_LIMIT < s.health.seeped → exec (.seepWindow t) s =
      .next (((((s.tick t).withHealth fun h => { h with seeped := 0, lost := 0 }).raise 49 0 0 23).raise 50 0 1 23).sealed s t)) ∧
    (0 < s.health.lost → s.health.seeped ≤ s.regN o3402.SEEP_RATE_LIMIT → exec (.seepWindow t) s =
      .next ((((s.tick t).withHealth fun h => { h with seeped := 0, lost := 0 }).raise 50 0 1 23).sealed s t)) ∧
    (s.mode ≠ 0 → s.healthDue = true → exec (.healthCommitStage t) s =
      .next (((s.tick t).supervisorCommit .health []).sealed s t)) ∧
    (s.islandLost 11 = false → exec (.healthMapSave t) s =
      .next (((s.tick t).fittedDies.foldl (fun (u : State) d =>
        if (u.die d).idOk then u.saveMap (identityKey (u.die d).memory) d else u) (s.tick t)).sealed s t)) ∧
    (∀ p at_, s.health.probe = some p → p.start = some at_ → s.regN o3404.PROBE_STATE = 2 →
      (if s.printing then ((s.tick t).probeStreams p).all fun k => (s.tick t).streamPast k.1 k.2 (at_ + p.lines)
        else decide (at_ + p.lines ≤ (s.tick t).firingLine)) = true →
      let firing := (s.tick t).firingLine
      let delay := s.regN o3000.LARGEST_DELAY
      exec (.probeDone t) s =
        .next (((((s.tick t).setRegN o3404.PROBE_STATE 0).withHealth fun h =>
          { h with probe := none,
                   probed := p :: h.probed.filter fun q => decide (firing ≤ q.start.getD firing + q.lines + delay) }).probeFree.raise
                     51 0 0 23).sealed s t))

/-! ### Chapters 08 and 09: firing, head links, resistance meter -/

/-- R58, R229, R245, R247: a slot is committed and starts, in SAFE-HOLD too where R503 lets it; the keep-warm period of
READY runs out, and readings of a die grow old. -/
def Obligations.FiringEventsTakeEffect : Prop :=
  ∀ (s : State) (t die row : Nat),
    (∀ at_, Awake s → die < s.regN o3000.DIES → row < 4 →
      let place_ := s.slotPosition die row (s.row die row).line (s.row die row).slot * 256
      (s.printing = true ∧ (s.tick t).reachTime place_ = some at_ ∨
        s.printing = false ∧ (∃ kw, (s.row die row).firing = some ((s.row die row).line, kw)) ∧
          at_ = ((s.tick t).reachTimeBy none place_).getD (fireTime (max s.now t) + 2560)) →
      at_ ≤ fireTime (max s.now t) + 2560 → exec (.slotCommit t die row) s =
        .next (((if (s.tick t).printsLine die row (s.row die row).line then (s.tick t).endIdle die else s.tick t).setRow die row
          { (if (s.row die row).slot = 15 then { s.row die row with line := (s.row die row).line + 1, slot := 0 }
              else { s.row die row with slot := (s.row die row).slot + 1 }) with
            queue := (s.row die row).queue ++ 
              [Slot.mk (s.row die row).line (s.row die row).slot at_ (max s.now t)
                ((s.tick t).burstFor die row (s.row die row).line)] }).sealed s t)) ∧
    (∀ h rest l kw, Awake s → die < s.regN o3000.DIES → row < 4 → (s.row die row).queue = h :: rest →
      s.firing.cutoff = none → max h.due (fireTime (h.setAt + 40)) * 5 / 64 ≤ max s.now t → h.index = 0 →
      (((s.tick t).beginLine die row h).row die row).firing = some (l, kw) →
      exec (.slotStart t die row) s = .next ((((s.tick t).beginLine die row h).fireBurst die row h kw).sealed s t)) ∧
    (∀ h rest kw, Awake s → die < s.regN o3000.DIES → row < 4 → (s.row die row).queue = h :: rest →
      s.firing.cutoff = none →
      max (max h.due (fireTime (h.setAt + 40))) (s.row die row).guardEnd * 5 / 64 ≤ max s.now t → h.index ≠ 0 →
      (s.row die row).firing = some (h.line, kw) →
      exec (.slotStart t die row) s = .next (((s.tick t).fireBurst die row h kw).sealed s t)) ∧
    (Alive s → s.mode = 3 → s.firing.warmAt + s.regN o3610.KW_PERIOD_US * 1000 ≤ max s.now t →
      exec (.keepWarmTimer t) s = .next ((s.tick t).keepWarm.sealed s t)) ∧
    (Alive s → die < 64 → 2 ≤ (s.die die).link → (s.die die).upAt ≠ 0 → (s.die die).thermal.stale = false →
      (s.die die).thermal.since + s.regN o3610.STALE_MS * 1000000 ≤ max s.now t → exec (.dieTempStale t die) s =
        .next ((((s.tick t).mapDie die fun x => { x with thermal := { x.thermal with stale := true } }).raise 54 die 1 19).sealed s t))

/-- R255, R256, R258 to R263, R267: polls go out on a lane whose die is identified or carries them, a missing or a bad reply is
counted or discarded and polled again, a good one is read, FIRE frames go out in time or their line is missed, and lifetime
figures that are due are written. -/
def Obligations.HeadPollsTakeEffect : Prop :=
  ∀ (s : State) (t die row lane : Nat), Alive s →
    (∀ i, lane < 512 → (s.die (lane / 8)).nextBlock = some i →
      exec (.headPoll t lane) s = .next (((s.tick t).poll lane 3 (16 * i)).sealed s t)) ∧
    (lane < 512 → (s.die (lane / 8)).nextBlock = none → s.carries (lane / 8) = true → (s.tick t).pollDue lane = true →
      exec (.headPoll t lane) s = .next (((s.tick t).poll lane 1 0).sealed s t)) ∧
    (∀ q, lane < 512 → s.pollOf lane = some q → exec (.headNoReply t lane) s =
      .next ((((s.tick t).incReg o3800.NO_REPLIES).pollAgain lane).sealed s t)) ∧
    (∀ i, die < 64 → s.carries die = true →
      (((List.range 8).map fun i => ((s.die die).polled + 1 + i) % 8).find? fun i =>
        !bit (s.die die).lanesBad i && !(s.printing && ((s.tick t).laneUse (8 * die + i)).polled)) = some i →
      exec (.headSensorPoll t die) s =
        .next ((((s.tick t).mapDie die fun x => { x with polled := i }).poll (8 * die + i) 2 0).sealed s t)) ∧
    (∀ q groups, lane < 512 → s.pollOf lane = some q →
      let good := fun (o : Octets) => o.length == replyLength q.op && o.drop (o.length - 2) == crc16 (o.take (o.length - 2))
      ((replyContent groups).filter good = none → exec (.headReply t lane groups) s =
        .next (((s.tick t).discardReply lane (codeErrorsIn groups)).sealed s t)) ∧
      (∀ o, (replyContent groups).filter good = some o →
        let heard := ((s.tick t).pollOver lane).mapDie (lane / 8) fun x => { x with again := x.again.filter fun l => l != lane % 8 }
        (heard.carries (lane / 8) = false → exec (.headReply t lane groups) s =
          .next ((heard.mapDie (lane / 8) fun x =>
            { x with reading := Cells.put (fun _ => []) x.reading (q.arg / 16) (memAt o 8 16) }).sealed s t)) ∧
        (heard.carries (lane / 8) = true → bit (memNum o 0 8) 16 = true → exec (.headReply t lane groups) s =
          .next ((heard.dieRetrain (lane / 8)).sealed s t)) ∧
        (heard.carries (lane / 8) = true → bit (memNum o 0 8) 16 = false →
          let written := if bit (memNum o 0 8) 18 = true ∨ q.fresh = false then heard else heard.sendIdWrite (lane / 8)
          let sensed := if q.op = 2 then written.takeSensors (lane / 8) (sensorsOf o) (bits (memNum o 16 8) 63 60) else written
          let sent := ((List.range 4).filter (frameAbsent (memNum o 0 8) q.tags)).foldl (State.resendFrame lane false) sensed
          let judged := (List.range 4).foldl (State.judgeCount lane (memNum o 0 8) q.counts) sent
          exec (.headReply t lane groups) s = .next ((if bit (memNum o 0 8) 19 = true ∧ (judged.die (lane / 8)).up = true
            then judged.resync lane else judged).sealed s t)))) ∧
    (∀ kw fire, die < s.regN o3000.DIES → row < 4 → s.printing = true → s.carries die = true →
      let x := s.row die row
      let now := (s.tick t).lineOnDie die row
      x.sendLine ≤ now + 1 → x.replace = false ∨ x.sendLine ≤ now →
      (s.tick t).lineBits die row x.sendLine = some (kw, fire) →
      let inTime := if x.replace then x.sendLine == now && (s.tick t).currentInTime die row
        else x.sendLine == now + 1 && (s.tick t).nextInTime die row
      let sent := if inTime then (s.tick t).sendFire die row x.replace kw x.tag fire (List.range 8)
        else (List.range 8).foldl (State.lineMissed die row x.sendLine) (s.tick t)
      exec (.headFireFrameSend t die row) s =
        .next ((State.flushOrders die (sent.die die).orders (sent.setRow die row { sent.row die row with
          sendLine := x.sendLine + 1, replace := false, tag := if inTime then (x.tag + 1) % 16 else x.tag,
          warmSent := if inTime ∧ kw = true then some x.sendLine else (sent.row die row).warmSent })).sealed s t)) ∧
    (lane < 8 → die < s.regN o3000.DIES → row < 4 → s.printing = true → exec (.headFrameMissed t die row lane) s =
      .next ((State.lineMissed die row (s.row die row).current (s.tick t) lane).sealed s t)) ∧
    (s.mode ≠ 0 → die < s.regN o3000.DIES → (s.tick t).lifetimeDue die = true →
      exec (.lifetimeWrite t die) s = .next (((s.tick t).writeLifetime die).sealed s t))

/-- R264 to R267, R269, R270, R273 to R276 and Table 09-12: TRAIN, RESYNC and RETRAIN of a die's link end, the supervisor stages
the quarantine that failed links ask for, and the resistance meter begins to measure and takes a reading. -/
def Obligations.HeadLinksAndMeterTakeEffect : Prop :=
  ∀ (s : State) (t die : Nat), Alive s → die < 64 →
    let x := s.die die
    let now := max s.now t
    (∀ locks scans memory, x.link = 1 → x.readBlocks 512 = some memory →
      let put := ((s.tick t).setLanes die locks scans).mapDie die fun y => { y with idOk := identityGood memory, memory := memory }
      (identityGood memory = false → exec (.dieTrainEnd t die locks scans) s =
        .next (((put.raise 59 die 1 19 true).dieFails die).sealed s t)) ∧
      (identityGood memory = true → (s.tick t).badLanes locks scans = 0 → now ≤ x.enteredAt + 50000000 →
        let ranked := put.loadRanks die memory
        let known := ranked.mapDie die fun y =>
          { y with life := (s.tick t).lifeFrom memory, copy := match lifeOf memory with
                                                            | some c => c.1
                                                            | none => 1 }
        exec (.dieTrainEnd t die locks scans) s =
          .next (((if known.mode = 0 then known.loadMap die memory else known).dieUp die).sealed s t)) ∧
      (identityGood memory = true → (s.tick t).badLanes locks scans ≠ 0 → x.enteredAt + 50000000 ≤ now →
        exec (.dieTrainEnd t die locks scans) s = .next ((put.dieFails die).sealed s t))) ∧
    (∀ locks scans, x.link = 1 → x.readBlocks 512 = none → x.enteredAt + 50000000 ≤ now →
      exec (.dieTrainEnd t die locks scans) s = .next ((((s.tick t).setLanes die locks scans).dieFails die).sealed s t)) ∧
    (x.link = 3 →
      (now ≤ x.enteredAt + 10000 →
        exec (.dieResyncEnd t die true) s = .next ((((s.tick t).dieUp die).raise 57 die 0 19).sealed s t)) ∧
      (x.enteredAt + 10000 ≤ now → exec (.dieResyncEnd t die false) s = .next (((s.tick t).dieRetrain die).sealed s t))) ∧
    (∀ locks scans memory, x.link = 4 → x.readBlocks 320 = some memory →
      let put := (s.tick t).setLanes die locks scans
      (identityGood memory = true → identityKey memory = identityKey x.memory → (s.tick t).badLanes locks scans = 0 →
        now ≤ x.enteredAt + 2000000 → exec (.dieRetrainEnd t die locks scans) s = .next ((put.dieUp die).sealed s t)) ∧
      (identityGood memory = true → identityKey memory = identityKey x.memory → (s.tick t).badLanes locks scans ≠ 0 →
        x.enteredAt + 2000000 ≤ now → exec (.dieRetrainEnd t die locks scans) s = .next ((put.dieFails die).sealed s t)) ∧
      (identityGood memory = true → identityKey memory ≠ identityKey x.memory → exec (.dieRetrainEnd t die locks scans) s =
        .next (((put.raise 59 die 1 19).dieFails die).sealed s t))) ∧
    (s.quarantineDue = true → exec (.quarantineStage t) s =
      .next (((s.tick t).supervisorCommit .firmware [(o3802.QUARANTINE_MASK, s.reg o3802.QUARANTINE_MASK)]).sealed s t)) ∧
    (x.up = true → s.meterOn = true → bit (s.regN o3805.SENSE_FAULTS) die = false →
      (∀ b, x.lastBurst = some b → b + 200000 ≤ now) →
      (x.meter.idle = false → exec (.dieIdle t die) s =
        .next ((((s.tick t).mapDie die fun x => { x with meter := { x.meter with idle := true, since := 64 } }).nextMeasure
          (partnerOf die)).sealed s t)) ∧
      (x.meter.idle = true → exec (.dieIdle t die) s = .next (((s.tick t).nextMeasure (partnerOf die)).sealed s t))) ∧
    (∀ n reading, x.meter.task = some n →
      let over_ := ((s.tick t).mapDie die fun x => { x with meter := { x.meter with task := none } }).order die 0x21 0
      let taken := if over_.meterOn = false then over_.mapDie die fun x => { x with meter := { x.meter with idle := false } }
        else if n = 4096 then (over_.incReg o3805.MEASUREMENTS).referenceDone die reading
        else (over_.incReg o3805.MEASUREMENTS).heaterDone die n reading
      exec (.resistMeasureDone t die reading) s =
        .next ((((taken.warmWaiting die).warmWaiting (partnerOf die)).nextMeasure die).sealed s t))

/-! ### Chapters 10 to 12: cameras, inspection, light -/

/-- R279, R280, R284, R290, R299, R300: what a camera sends reaches the pipeline that its port is bound to while that pipeline
runs; a packet that is no part of the subset is counted in every state of the pipeline. -/
def Obligations.CameraPacketsTakeEffect : Prop :=
  ∀ (s : State) (t port p header : Nat), Alive s → s.portPipeline port = some p →
    (header ≠ 2 → exec (.csiPacketIgnored t port header) s =
      .next ((((s.tick t).headerFix p header).incReg (o5004.IGNORED_PACKETS + p)).sealed s t)) ∧
    (s.cameraState p = 2 →
      let u := (s.tick t).headerFix p header
      (∀ vc dataType codes i l, (u.tiles p).find? (fun i => tileVc (u.tileWord p i) == vc) = some i → header ≠ 2 →
        dataType = tileType (u.tileWord p i) → tilePixels (u.tileWord p i) codes = some l →
        exec (.csiLinePacket t port header vc dataType true codes) s = .next ((u.feedLine p i (some l)).sealed s t)) ∧
      (∀ vc dataType crcOk codes i f, (u.tiles p).find? (fun i => tileVc (u.tileWord p i) == vc) = some i →
        header = 2 ∨ crcOk = false ∨ dataType ≠ tileType (u.tileWord p i) → (u.pipeline p).receiving = some f →
        dueSlots (f.slots.take f.lines.length) ≤ ((u.pipeline p).feeds.getD i { got := 0, held := [] }).got →
        let v := (u.badLine p).feedLine p i none
        exec (.csiLinePacket t port header vc dataType crcOk codes) s =
          .next ((if (v.pipeline p).frames.any (fun f => decide (16 < f.bad)) then v.restartPort p else v).sealed s t)) ∧
      (∀ vc data f, header ≠ 2 → (u.tiles p).any (fun i => tileVc (u.tileWord p i) == vc) = true →
        (u.pipeline p).receiving = some f → f.embedded.length < 2 → exec (.csiEmbeddedPacket t port header vc true data) s =
          .next ((u.setFrame p { f with embedded := f.embedded ++ [data.take 4096] }).sealed s t)) ∧
      (∀ number f, header ≠ 2 → (u.pipeline p).receiving = none → ((u.pipeline p).frames.find? fun f => !f.begun) = some f →
        exec (.csiFrameStart t port header number) s =
          .next ((u.setFrame p { f with begun := true, csi := number % 65536 }).sealed s t)) ∧
      (∀ number f g, header ≠ 2 → (u.pipeline p).receiving = some f →
        (((u.endCsi p f).pipeline p).frames.find? fun f => !f.begun) = some g →
        exec (.csiFrameStart t port header number) s =
          .next (((u.endCsi p f).setFrame p { g with begun := true, csi := number % 65536 }).sealed s t)) ∧
      (∀ f, header ≠ 2 → (u.pipeline p).receiving = some f →
        exec (.csiFrameEnd t port header) s = .next ((u.endCsi p f).sealed s t)) ∧
      exec (.csiLanesUlps t port) s = .next (((s.tick t).restartPort p).sealed s t) ∧
      (let times := max s.now t :: (s.pipeline p).syncTimes.filter fun u => decide (max s.now t < u + 1000000)
       let v := (s.tick t).mapPipeline p fun x => { x with syncTimes := times }
       exec (.csiLaneSyncError t port) s = .next ((if 4 ≤ times.length then v.restartPort p else v).sealed s t)))

/-- R286 to R290, R292 to R294, R297, R298, R300: line triggers, frame ends, settings transactions and restarts of a
pipeline. -/
def Obligations.CameraPipelineEventsTakeEffect : Prop :=
  ∀ (s : State) (t p : Nat), Alive s → p < 2 →
    (∀ d port,
      let c := State.commitTrigger false (s.tick t) p
      let v := c.extrapolate c.now
      let x := v.pipeline p
      v.triggers p = true → x.due = some d → d ≤ fireTime v.now → v.boundPort p = some port →
      let sync := v.frameStarts p x.nextLine
      let next := v.setPipeline p { x with nextLine := x.nextLine + 1, due := none,
                                            period := some (v.localTime v.now / (v.regN (o5003.FRAME_PERIOD_US + p) * 1000)) }
      let w := if sync then next.startFrame p x.nextLine else next
      let sent := w.emit (.trigger port (w.regN (o5003.TRIG_WIDTH_NS + p)) sync)
      (w.pipeline p).triggered.isSome = false ∨ (w.pipeline p).pendingLines < w.regN (o5003.MAX_PENDING + p) →
      (sync && w.diagLineDue p) = false → exec (.cameraLineTrigger t p) s =
        .next ((((sent.openWindow p (sent.settingsNow p).exposure false).addLine p .due).closeFull p).sealed s t)) ∧
    (∀ f rest, (s.pipeline p).frames = f :: rest → f.closed = true → f.slots.length ≤ f.lines.length →
      let g := (s.pipeline p).settingsOf f.number
      let told := if (s.pipeline p).uncertain.contains (f.number : Int) then f.flag 7 else f
      let u := (((s.tick t).setPipeline p { s.pipeline p with frames := rest }).incReg (o5004.FRAMES + p)).setRegN
        (o5002.APPLIED_GEN + p) g.number
      let held := fun (b : Nat) =>
        ((u.mapPipeline p fun x =>
          { x with held := (x.held.filter u.isHeld) ++ [{ inspected := decide (ringSlots (5 + p) ≤ u.ringEntries (5 + p)),
                                                           released := false, frame := told, settings := g }] }).ringPut (5 + p)
          ((u.mapPipeline p fun x =>
            { x with held := (x.held.filter u.isHeld) ++ [{ inspected := decide (ringSlots (5 + p) ≤ u.ringEntries (5 + p)),
                                                             released := false, frame := told, settings := g }] }).frameDescriptor p
            told g b))
      let v := match told.buffer with
        | none => u
        | some b => held b
      exec (.frameEnd t p) s = .next ((v.ringPut 7 (v.frameRecord p told g)).sealed s t)) ∧
    (∀ g port, (s.pipeline p).pending = some g → (s.pipeline p).write = none → s.boundPort p = some port →
      s.cameraState p ≠ 4 →
      let tr := (s.tick t).settingsWrites p g
      (s.pipeline p).syncCame = true ∨ (s.pipeline p).waitSync = false ∧ (∀ u, (s.tick t).timeToSync p = some u →
        (s.tick t).writeTime p tr + s.regN o5002.WRITE_GUARD_US * 1000 ≤ u) →
      let v := (s.tick t).setPipeline p { s.pipeline p with pending := none, syncCame := false, write := some tr }
      exec (.cameraI2cStart t p) s = .next ((if tr.writes.isEmpty then v.settingsWritten p tr
        else v.emit (.i2c port (s.regN (o5000.I2C_ADDR + port)) tr.writes)).sealed s t)) ∧
    (∀ tr, (s.pipeline p).write = some tr →
      exec (.cameraI2cDone t p true) s = .next (((s.tick t).settingsWritten p tr).sealed s t) ∧
      (let x := s.pipeline p
       let u := (s.tick t).setPipeline p { x with failures := x.failures + 1, write := some { tr with tries := tr.tries + 1 } }
       (10 ≤ x.failures + 1 → s.cameraState p = 2 → exec (.cameraI2cDone t p false) s = .next ((u.restartPort p).sealed s t)) ∧
       (∀ port, x.failures + 1 < 10 → tr.tries + 1 < 3 → s.boundPort p = some port → exec (.cameraI2cDone t p false) s =
         .next ((u.emit (.i2c port (s.regN (o5000.I2C_ADDR + port)) tr.writes)).sealed s t)) ∧
       (x.failures + 1 < 10 → 3 ≤ tr.tries + 1 → exec (.cameraI2cDone t p false) s =
         .next ((((u.mapPipeline p fun x =>
           { x with write := none, waitSync := true, pending := (match x.pending with | some g => some g | none => some tr.settings),
                    frames := x.frames.map fun f => if f.closed then f else f.flag 6 }).incReg
             (o5004.CONTROL_FAULTS + p)).raise 68 p 0 21).sealed s t)))) ∧
    (∀ mbps, s.cameraState p = 1 → exec (.cameraLanesReady t p mbps) s =
      .next ((((s.tick t).setCameraState p 2).showLaneRate p mbps).sealed s t)) ∧
    (∀ mbps, s.cameraState p = 3 → max s.now t ≤ (s.pipeline p).restarts.headD 0 + 20000000 →
      exec (.cameraRestartEnd t p true mbps) s = .next ((((s.tick t).setCameraState p 2).showLaneRate p mbps).sealed s t)) ∧
    (∀ ready mbps, s.cameraState p = 3 → (s.pipeline p).restarts.headD 0 + 20000000 < max s.now t →
      exec (.cameraRestartEnd t p ready mbps) s = .next (((s.tick t).goBlind p).sealed s t))

/-- R306 to R323: inspection takes the next frame of its ring and analyses it unless the pipeline is blind or the frame says
that it cannot be used; a confirmed streak with enough samples is named; a nozzle is checked again. -/
def Obligations.InspectionEventsTakeEffect : Prop :=
  ∀ (s : State) (t p : Nat), Alive s → p < 2 → s.sys.inspection.state = .running →
    (∀ ws u h, s.regionLost 21 = false → State.takeSlot 64 (5 + p) 4 (s.tick t) = (some ws, u) →
      ((u.pipeline p).held.find? fun x => x.frame.number == bits (ws.getD 0 0) 63 32 && !x.inspected) = some h →
      let free (q : HeldFrame) : HeldFrame :=
        if q.frame.number = bits (ws.getD 0 0) 63 32 then { q with inspected := true } else q
      let v := u.mapPipeline p fun x => { x with held := (x.held.map free).filter u.isHeld }
      exec (.frameAnalysis t p) s =
        .next ((if (v.inspecting p).blind ≠ 0 ∨ bit h.frame.flags 7 = true ∨ bit h.frame.flags 0 = true then v
          else v.analyse p h.frame h.settings).sealed s t)) ∧
    (∀ x k ms, (s.inspecting p).blind = 0 →
      ((s.inspecting p).streaks.find? fun k => k.pixel == x && !k.excess && k.confirmed && !k.settled) = some k →
      k.tracked.window ≠ none → (s.tick t).namingSamples p k = some ms →
      exec (.nameEval t p x) s = .next (((s.tick t).judgeName p k ms).sealed s t)) ∧
    (∀ r a b, (s.inspecting p).blind = 0 → s.inspect.recheck = some r → r.pipeline = p → r.probe = some (a, b) →
      b ≤ (s.tick t).webLine (s.inspecting p).seenTo →
      exec (.probationRecheck t p r.nozzle) s = .next (((s.tick t).judgeRecheck r a b).sealed s t)) ∧
    (∀ n, (s.inspecting p).blind = 0 → s.inspect.recheck = none → stateIn s.health.inForce n = 2 →
      causeIn s.health.inForce n = 3 → s.nozzleFitted n = true → s.seesColumn p (namedOf n).column = true →
      (s.tick t).probeIdle = true →
      (match s.inspect.checked.find? fun c => c.1 == n with
        | some c => c.2
        | none => s.sys.releasedAt) + s.regN o5201.RECHECK_MIN * 60000000000 ≤ max s.now t →
      exec (.probationRecheck t p n) s = .next (((s.tick t).startRecheck p n).sealed s t))

/-- R325 to R329, R332, R333, R335, R337, R338, R340 to R342: pulses of the light, the measurement of a segment, a column
fault, the end of a restore test and a thermistor reading. -/
def Obligations.LightEventsTakeEffect : Prop :=
  ∀ (s : State) (t p : Nat), Alive s → p < 2 →
    (∀ w row ns rest, row < 8 → row / 4 = p → (s.tick t).granted = some p → (s.tick t).columnsFree = true →
      s.triggers p = true → (s.lamp p).window = some w → w.rows = (row, ns) :: rest → exec (.lightPulse t row) s =
        .next ((((s.tick t).setLamp p { s.lamp p with window := some { w with rows := rest } }).startPulse row ns).sealed s t)) ∧
    (∀ row rest seen, (s.tick t).columnsFree = true → s.lampState p = 4 → (s.lamp p).testing = some (row :: rest, seen) →
      (if s.triggers p then (s.tick t).gapNow p else decide ((s.lamp p).testedAt = 0 ∨ (s.lamp p).testedAt + 10000 ≤ max s.now t)) = true →
      exec (.diagPulse t p) s =
        .next ((((s.tick t).setLamp p { s.lamp p with testing := some (rest, seen), testedAt := max s.now t }).startPulse row 500).sealed s t)) ∧
    (∀ row, (s.tick t).columnsFree = true → s.lampState p = 1 → s.triggers p = true →
      s.regN o5400.DIAG_PERIOD_LINES ≤ (s.lamp p).lines → (s.tick t).gapNow p = true →
      nextInTurn ((s.tick t).diagRows p) (s.lamp p).lastRow = some row → exec (.diagPulse t p) s =
        .next ((((s.tick t).setLamp p { s.lamp p with lines := 0, gapless := 0, lastRow := row }).startPulse row 500).sealed s t)) ∧
    (∀ column current drain q, s.light.pulse = some q → 500 ≤ q.span → q.start + 400 ≤ max s.now t →
      max s.now t ≤ q.start + 500 → s.lampColumns.contains column = true →
      let seg := 16 * q.row + column
      let found := (s.tick t).segmentFinding column (s.lamp (q.row / 4)).current current drain
      let before_ := s.light.suspect.find? fun e => e.1 == seg
      let rest := s.light.suspect.filter fun e => e.1 != seg
      let put := fun (l : List (Nat × Nat)) =>
        { (s.tick t).incReg o5403.DIAG_DONE with light := { s.light with suspect := l } }
      (s.lamp (q.row / 4)).testing = none → exec (.segmentMeasure t column current drain) s =
        .next ((if found = 0 then put rest
          else if before_ = some (seg, found) then (put rest).segmentFailed seg
          else (put ((seg, found) :: rest)).incReg o5403.DIAG_SUSPECT).sealed s t)) ∧
    (∀ column current, s.lampColumns.contains column = true →
      (match s.light.pulse with
        | some q => if max s.now t < q.start + q.span
          then decide (125 * s.regN (o5401.COL_CURRENT_MA + column) * (s.lamp (q.row / 4)).current < 1600 * current)
          else decide (s.regN (o5401.COL_CURRENT_MA + column) < 10 * current)
        | none => decide (s.regN (o5401.COL_CURRENT_MA + column) < 10 * current)) = true →
      exec (.lightColumnFault t column current) s =
        .next ((((((((s.tick t).lampOff 0).lampOff 1).emit (.lightOff 2)).setRegBit o5403.FAILED_COLUMNS column true).setLampState
          0 2).setLampState 1 2).raise 76 (0xFF00 + column) 1 20 true |>.sealed s t)) ∧
    (∀ seen, (s.lamp p).testing = some ([], seen) → s.lampState p = 4 →
      let segs := (s.lampRows p).flatMap fun i => s.lampColumns.map fun j => 16 * i + j
      let seenOf := fun g => (seen.filter fun e => e.1 == g).map fun e => e.2
      let failed := segs.filter fun g => failsTwice (seenOf g)
      (segs.any fun g => decide ((seenOf g).length < 2)) = false →
      let shown := ((s.tick t).setLamp p { s.lamp p with testing := none }).setRegN (o5403.FAILED_SEGMENTS + p)
        (failed.foldl (fun w g => setBit w (g % 64) true) 0)
      let clear := shown.setRegN o5403.FAILED_COLUMNS 0
      exec (.lightTestDone t p) s =
        .next ((if failed.isEmpty then (clear.setLampState p (if clear.flag (o5400.ENABLE + p) = false then 0
            else if (s.lamp p).hot then 3 else 1)).raise 77 p 0 20
          else shown.setLampState p 2).sealed s t)) ∧
    (∀ reading, -400 ≤ reading → reading ≤ 1500 →
      let shown := ((s.tick t).setReg (o5402.LIGHT_TEMP + p) reading).setLamp p { s.lamp p with invalidAt := none }
      let k := shown.derateFrom (shown.regN (o5402.DERATE + p)) reading
      exec (.ntcRead t p reading) s =
        .next ((if shown.derateOk p k then
            (if k ≠ shown.regN (o5402.DERATE + p) ∨ (shown.lamp p).hot = true then shown.derate p k else shown).lampCool p
          else (shown.setRegN (o5402.DERATE + p) k).lampHot p).sealed s t)) ∧
    (∀ reading, reading < -400 ∨ 1500 < reading →
      let since := (s.lamp p).invalidAt.getD (max s.now t)
      let shown := ((s.tick t).setReg (o5402.LIGHT_TEMP + p) (-32768)).setLamp p { s.lamp p with invalidAt := some since }
      exec (.ntcRead t p reading) s =
        .next ((if since + 100000000 ≤ max s.now t then shown.lampHot p else shown).sealed s t))

/-! ### Chapter 13: axes -/

/-- R350 to R354, R360, R366: the next descriptor of ring 12, for axis n and with the operation of Table 13-2 that the command
names, is carried out when nothing of Table 13-3 refuses it. -/
def Obligations.RingMotionCommandsTakeEffect : Prop :=
  ∀ (s : State) (t n : Nat) (ws : List Nat) (u : State), Alive s → n < 4 → s.sys.motion.state = .running →
    State.takeSlot 256 12 4 (s.tick t) = (some ws, u) →
    let m := readMotion (octetsOfWords ws)
    m.axis = n → u.ringRefusal m (motionReserved (octetsOfWords ws)) = 0 →
      (m.op = 1 → exec (.moveAbs t n .ring) s = .next ((u.runMotion n m).sealed s t)) ∧
      (m.op = 2 → exec (.moveRel t n .ring) s = .next ((u.runMotion n m).sealed s t)) ∧
      (m.op = 3 → exec (.velocity t n .ring) s = .next ((u.runMotion n m).sealed s t)) ∧
      (m.op = 4 → exec (.stop t n .ring) s = .next ((u.runMotion n m).sealed s t)) ∧
      (m.op = 5 → exec (.home t n .ring) s = .next ((u.runMotion n m).sealed s t)) ∧
      (m.op = 6 → exec (.enable t n .ring) s = .next ((u.runMotion n m).sealed s t)) ∧
      (m.op = 7 → exec (.disable t n .ring) s = .next ((u.runMotion n m).sealed s t))

/-- R346 to R349, R358 to R367: a step, an edge of a limit input and its release, a chop cycle, the hold current, the end of
LEARN and a drive fault. -/
def Obligations.AxisEventsTakeEffect : Prop :=
  ∀ (s : State) (t n : Nat), Alive s → n < 4 →
    (∀ duty, (s.axis n).moving = true → (s.axis n).due ≤ max s.now t → s.islandLost 11 = false →
      let u := (s.tick t).stepPulse n
      let v := if u.axisExternal n then u else (u.microstep n).1
      let whole := if u.axisExternal n then false else (u.microstep n).2
      (v.axis n).learning = none → (v.axis n).homing ≠ 3 →
      let w := if whole then (v.fullStep n duty).1 else v
      let stalled := if whole then (v.fullStep n duty).2 else false
      let x := if stalled = true ∧ (w.axis n).stop ≠ 7 then w.axisStall n else w
      exec (.axisStep t n duty) s =
        .next ((if (v.axis n).arrived then v.standStill n
          else if (x.axis n).moving = false then x
          else (x.setAxis n ((x.axis n).afterStep (x.startSpeed n)
            (if (x.axis n).accel ≠ 0 then (x.axis n).accel else x.axisReg n o6000.ACCEL))).showAxis n).sealed s t)) ∧
    (∀ i first high, i < 8 → bit (s.regN (o6010.LIM_MAP + i)) 7 = true →
      first + s.regN o6010.LIM_FILTER_NS ≤ max s.now t → bit (s.regN o6010.LIM_STATE) i = false →
      bits (s.regN (o6010.LIM_MAP + i)) 3 2 = n → (high != bit (s.regN (o6010.LIM_MAP + i)) 6) = true →
      let limits := s.axes.limits.set i { first := first, idle := none }
      let tripped := ({ s.tick t with axes := { s.axes with limits := limits } }).setRegBit o6010.LIM_STATE i true
      let latched := tripped.setRegN (o6010.LATCH + i)
        (place (unsigned 32 (tripped.positionAt n first)) 63 32 + first % 2 ^ 32)
      exec (.limitEdge t i first high) s =
        .next (((latched.tripAxis n i (bit (s.regN (o6010.LIM_MAP + i)) 1) (tripped.positionAt n first)).showAxis n).sealed s t)) ∧
    (∀ i first high l, i < 8 → bit (s.regN (o6010.LIM_MAP + i)) 7 = true →
      first + s.regN o6010.LIM_FILTER_NS ≤ max s.now t → bit (s.regN o6010.LIM_STATE) i = true → s.axes.limits[i]? = some l →
      let u := { s.tick t with axes := { s.axes with limits := s.axes.limits.set i { l with
        idle := if high != bit (s.regN (o6010.LIM_MAP + i)) 6 then none else some first } } }
      exec (.limitEdge t i first high) s =
        .next ((if first < l.first + s.regN o6010.DEBOUNCE_US * 1000 then u.incReg o6010.CHATTER_EDGES else u).sealed s t)) ∧
    (∀ i l since, i < 8 → s.axes.limits[i]? = some l → l.idle = some since → bit (s.regN o6010.LIM_STATE) i = true →
      since + s.regN o6010.DEBOUNCE_US * 1000 ≤ max s.now t → bits (s.regN (o6010.LIM_MAP + i)) 3 2 = n →
      let up := bit (s.regN (o6010.LIM_MAP + i)) 1
      let u := (s.tick t).setRegBit o6010.LIM_STATE i false
      let seek := u.beginStop n (u.axis n).decel 0 .seek
      exec (.limitRelease t i) s =
        .next ((if (u.axis n).homing = 1 ∧ (u.axisReg n o6000.HOME_DIR == 1) = up ∧ u.limitTripped n up = false
          then (seek.setAxis n { seek.axis n with homing := 2 }).settleAxis n else u.showAxis n).sealed s t)) ∧
    (∀ (phase current mean : Nat), phase < 2 → s.axisExternal n = false →
      let c := (s.axis n).chopper phase
      let mid : Int := 2 * (((s.setpoint n phase (s.axis n).entry).natAbs : Int) + s.reg (o6011.OFFSET_MA + 256 * n))
      let h := s.reg (o6011.HYST_MA + 256 * n)
      (c.mode = 1 → c.since + s.regN (o6011.CHOP_BLANK_NS + 256 * n) ≤ max s.now t → mid + h < 2 * (current : Int) →
        exec (.chopCycle t n phase current mean) s = .next (((s.tick t).setBridge n phase 2).sealed s t)) ∧
      (c.mode = 2 ∧ c.since + s.regN (o6011.OFF_MIN_NS + 256 * n) ≤ max s.now t ∨ c.mode = 3 → 2 * (current : Int) < mid - h →
        exec (.chopCycle t n phase current mean) s =
          .next ((((s.tick t).chopDone n phase mean).setBridge n phase 1).sealed s t))) ∧
    ((s.axis n).moving = false → (s.axis n).held = false → s.axisExternal n = false → bit (s.axisReg n o6000.STATUS) 0 = true →
      (s.axis n).lastStep + s.regN (o6011.HOLD_DELAY_MS + 256 * n) * 1000000 ≤ max s.now t →
      exec (.axisHoldCurrent t n) s =
        .next ((((s.tick t).setAxis n { s.axis n with held := true }).setRegN (o6011.CURRENT_MA + 256 * n)
          (s.regN (o6011.I_HOLD_MA + 256 * n))).sealed s t)) ∧
    ((s.axis n).learning = some 17 → (s.axis n).moving = false → s.islandLost 11 = false →
      exec (.learnDone t n) s =
        .next (({ (s.tick t).setAxis n { s.axis n with learning := none, duties := [] } with
          flash := { s.flash with
            duty := (n, (s.axis n).duties.map (meanOpen 3651)) :: s.flash.duty.filter fun e => e.1 != n } }).sealed s t)) ∧
    (∀ figures, bit (s.axisReg n o6000.STATUS) 0 = true →
      (if s.axisExternal n then figures.any fun x => decide (10000 ≤ x)
        else decide (2 ≤ figures.length) && figures.all fun i => decide (3 * s.regN (o6011.I_MAX_MA + 256 * n) < 2 * i)) = true →
      let u := (((((s.tick t).driveOff n).endCommand n 6).setHomed n false).raise 93 n 1 20)
      exec (.axisDriveFault t n figures) s = .next ((if u.axisPaces n then u.pacingLost else u).sealed s t))

/-! ### Chapter 14: the network and time -/

/-- R373 to R378: a port's state, a frame at the switch, ageing, and the frames of the ring. -/
def Obligations.SwitchAndRingEventsTakeEffect : Prop :=
  ∀ (s : State) (t : Nat) (f : NetFrame), Alive s →
    (∀ p autoNeg phyLink full, p = 1 ∨ p = 2 →
      let polled := ((s.tick t).servePort p).emit (.mdio p (s.regN (o7200.PHY_ADDR + (p - 1))) 1)
      let up := autoNeg && phyLink && full && polled.flag (o7200.PORT_ENABLE + (p - 1)) && !polled.islandLost 9
      exec (.phyPoll t p autoNeg phyLink full) s = .next ((polled.setPort p up).sealed s t)) ∧
    (s.netOn = true → s.portUp f.port = true → f.fcsOk = false →
      exec (.switchFrameRx t f) s =
        .next ((((s.tick t).incReg (o7201.FRAMES_IN + (f.port - 1))).incReg (o7201.FCS_ERRORS + (f.port - 1))).sealed s t)) ∧
    (s.netOn = true → s.portUp f.port = true → f.fcsOk = true → isPtp f.data = false → isRing f.data = false →
      14 ≤ f.data.length → f.data.length ≤ 1518 → ¬(s.net.blocked = true ∧ f.port = 2) →
      let learned := ((s.tick t).incReg (o7201.FRAMES_IN + (f.port - 1))).learn (frameSrc f.data) f.port
      exec (.switchFrameRx t f) s =
        .next ((if frameDst f.data = Config.mac % 2 ^ 48 then learned
          else (learned.egress (frameDst f.data) f.port false).foldl (State.forward f false f.data) learned).sealed s t)) ∧
    (∀ mac a, a ∈ s.net.table → a.mac = mac → a.seen + s.regN o7200.AGEING_S * 1000000000 ≤ max s.now t →
      exec (.addressAgeing t mac) s =
        .next (({ s.tick t with net := { s.net with table := s.net.table.filter fun b =>
          !(b.mac == mac && decide (b.seen + s.regN o7200.AGEING_S * 1000000000 ≤ max s.now t)) } }).sealed s t)) ∧
    (s.regN o7200.RING_ROLE = 2 → s.netOn = true →
      exec (.ringCheckSend t) s = .next (((s.tick t).sendRing 1 0).sealed s t)) ∧
    (s.regN o7200.RING_ROLE = 2 → s.netOn = true → s.regN o7200.RING_STATE ≠ 1 →
      s.net.lastCheck + 3 * s.regN o7200.RING_CHECK_MS * 1000000 ≤ max s.now t →
      exec (.ringCheckTimeout t) s = .next (((s.tick t).ringChange 1).sealed s t)) ∧
    (s.netOn = true → s.portUp f.port = true → f.fcsOk = true → isRing f.data = true →
      let seen := ((s.tick t).switchFrame f).2
      (bodyField f.data 0 1 = 1 → seen.regN o7200.RING_ROLE = 2 → bodyField f.data 2 2 = seen.regN o7200.RING_ID →
        (bodyField f.data 6 6 = Config.mac % 2 ^ 48 → seen.regN o7200.RING_STATE = 1 →
          exec (.ringCheckRx t f) s =
            .next ((({ seen with net := { seen.net with lastCheck := seen.now } }).ringChange 2).sealed s t)) ∧
        (bodyField f.data 6 6 ≠ Config.mac % 2 ^ 48 → seen.regN o7200.RING_STATE ≠ 3 →
          exec (.ringCheckRx t f) s = .next ((seen.ringChange 3).sealed s t))) ∧
      (bodyField f.data 0 1 = 2 → bodyField f.data 2 2 = seen.regN o7200.RING_ID →
        exec (.topologyChangeRx t f) s = .next (({ seen with net := { seen.net with table := [] } }).sealed s t)))

/-- R381, R384 to R386, R391, R393: each PTP message type is used as its rule says, once it has gone through the switch and, if it
is an event message, has its receive timestamp. -/
def Obligations.PtpMessagesTakeEffect : Prop :=
  ∀ (s : State) (t : Nat) (f : NetFrame), Alive s →
    let entered : Nat → State := fun type =>
      let switched := ((s.tick t).switchFrame f).2
      if type < 4 then
        switched.stampReceive (switched.receivedAt switched.now f.port) 1 f.port (ptpSeq f.data) type
      else switched
    (s.ptpTaken f 0 = true → (entered 0).usesPtp f.data = true → (entered 0).fromMaster f.data = true →
      let logged : State := { entered 0 with time := { (entered 0).time with logSync := signed 8 (bodyField f.data 33 1) } }
      (ptpTwoStep f.data = false → exec (.syncRx t f) s =
        .next ((logged.syncOffset f.port (ptpSource f.data / 65536)
          (logged.receivedAt logged.now f.port - ptpTime f.data 34 - ptpCorrection f.data)).sealed s t)) ∧
      (ptpTwoStep f.data = true → exec (.syncRx t f) s =
        .next (({ logged with time := { logged.time with lastSync := logged.now } }).sealed s t))) ∧
    (∀ w, s.ptpTaken f 8 = true → (entered 8).usesPtp f.data = true → (entered 8).fromMaster f.data = true →
      ((entered 8).time.twoStep.find? fun w =>
        w.source == ptpSource f.data && w.seq == ptpSeq f.data && w.port == f.port) = some w →
      exec (.followUpRx t f) s =
        .next ((((entered 8).syncOffset f.port (ptpSource f.data / 65536)
          (w.received - ptpTime f.data 34 - ptpCorrection f.data)).followed f.data).sealed s t)) ∧
    (∀ r t3 fwd, s.ptpTaken f 9 = true → (entered 9).usesPtp f.data = true → (entered 9).ownRequest f.data = some r →
      r.sent = some t3 → (entered 9).time.forward = some fwd →
      let ended := (entered 9).endRequest r.seq
      let averaged : State := { ended with time := { ended.time with
        delays := (divOpen 3912 (fwd + (ptpTime f.data 34 - t3 - ptpCorrection f.data)) 2 :: ended.time.delays).take
          (ended.regN o7001.DELAY_AVG) } }
      exec (.delayRespRx t f) s =
        .next ((averaged.setReg o7000.MEAN_PATH_NS (clamp 0 4294967295 (divOpen 3913 averaged.meanPath 65536))).sealed s t)) ∧
    (s.ptpTaken f 2 = true → (entered 2).usesPtp f.data = true → (entered 2).regN o7001.DELAY_MECHANISM = 2 →
      let answer := (entered 2).ptpFrame true
        ((entered 2).ptpMessage 3 (ptpSeq f.data) (ptpCorrection f.data + f.residence) 127
          (octetsOf 10 0 ++ octetsOf 10 (ptpSource f.data)))
      exec (.pdelayReqRx t f) s =
        .next (((entered 2).putStamped true { data := answer, stamp := some (1, ptpSeq f.data, 3) } f.port).sealed s t)) ∧
    (∀ r t1, s.ptpTaken f 3 = true → (entered 3).usesPtp f.data = true → (entered 3).ownRequest f.data = some r →
      r.sent = some t1 → r.back = none → ptpTwoStep f.data = false →
      exec (.pdelayRespRx t f) s =
        .next ((((entered 3).endRequest r.seq).setPeer f.port
          (divOpen 3861 ((entered 3).receivedAt (entered 3).now f.port - t1 - ptpCorrection f.data) 2)).sealed s t)) ∧
    (∀ r t1, s.ptpTaken f 3 = true → (entered 3).usesPtp f.data = true → (entered 3).ownRequest f.data = some r →
      r.sent = some t1 → r.back = none → ptpTwoStep f.data = true →
      let back := ((entered 3).receivedAt (entered 3).now f.port - ptpCorrection f.data, ptpTime f.data 34)
      exec (.pdelayRespRx t f) s =
        .next (({ entered 3 with time := { (entered 3).time with requests := (entered 3).time.requests.map fun (q : DelayRequest) =>
          if q.seq == r.seq then { q with back := some back } else q } }).sealed s t)) ∧
    (∀ r t1 t2 t4, s.ptpTaken f 10 = true → (entered 10).usesPtp f.data = true → (entered 10).ownRequest f.data = some r →
      r.sent = some t1 → r.back = some (t4, t2) →
      exec (.pdelayRespRx t f) s =
        .next ((((entered 10).endRequest r.seq).setPeer f.port
          (divOpen 3862 (t4 - t1 - (ptpTime f.data 34 - t2) - ptpCorrection f.data) 2)).sealed s t)) ∧
    (s.ptpTaken f 11 = true → (entered 11).usesPtp f.data = true →
      let heard : Master := { rank := masterRank (bodyField f.data 47 1) (bodyField f.data 48 4) (bodyField f.data 52 1)
                                (bodyField f.data 53 8) (bodyField f.data 61 2),
                              identity := ptpSource f.data / 65536, port := f.port, heard := (entered 11).now,
                              interval := clamp (-8) 8 (signed 8 (bodyField f.data 33 1)) }
      let noted : State := { entered 11 with time := { (entered 11).time with
        masters := (heard :: (entered 11).time.masters.filter fun x => x.identity != heard.identity).take 8 } }
      exec (.announceRx t f) s = .next (noted.selectMaster.sealed s t))

/-- R382, R385, R386, R390, R396, R399 to R402: what the clock sends, holdover, the return of TSCLK, a capture pair, a
trigger, a trigger input, and PPS. -/
def Obligations.ClockEventsTakeEffect : Prop :=
  ∀ (s : State) (t : Nat), Alive s →
    (s.regN o7001.DELAY_MECHANISM = 1 → s.regN o7001.PTP_ROLE = 1 → s.timeValid = true →
      s.portUp (s.regN o7002.SYNC_PORT) = true →
      exec (.delayReqSend t) s = .next (((s.tick t).sendRequest 1 false 10 (s.regN o7002.SYNC_PORT)).sealed s t)) ∧
    (s.regN o7001.DELAY_MECHANISM = 2 → s.timeValid = true → s.portUp 1 = true ∨ s.portUp 2 = true →
      let ask := fun (u : State) (p : Nat) => if u.portUp p then u.sendRequest 2 true 20 p else u
      exec (.pdelayReqSend t) s = .next ((ask (ask (s.tick t) 1) 2).sealed s t)) ∧
    (s.regN o7001.PTP_ROLE = 2 → s.timeValid = true → s.portUp 1 = true ∨ s.portUp 2 = true ∧ s.net.blocked = false →
      let seq := (s.time.sequence + 1) % 65536
      let send := fun (u : State) (p : Nat) =>
        let at_ := u.sentAt (u.departs p) p
        let message := u.ptpMessage 0 seq (at_ % 65536) (u.reg o7001.LOG_SYNC_INTERVAL) (ptpStamp at_)
        if u.portUp p && !(u.net.blocked && p == 2) then
          u.putStamped true { data := u.ptpFrame false message, stamp := some (1, seq, 0) } p
        else u
      exec (.syncSend t) s =
        .next ((send (send { s.tick t with time := { s.time with sequence := seq } } 1) 2).sealed s t)) ∧
    (s.regN o7000.STATE = 2 ∨ s.regN o7000.STATE = 3 →
      s.time.lastSync + s.regN o7000.HOLDOVER_SYNCS * s.syncInterval ≤ max s.now t →
      exec (.timeHoldover t) s = .next ((s.tick t).holdover.sealed s t)) ∧
    (∀ tau, s.regN o7000.STATE = 5 →
      let carried : State := { s.tick t with
        time := { s.time with base := (s.tick t).localFine (max s.now t), tauBase := tau, pairs := [(max s.now t, tau)] },
        sys := { s.sys with islandsLost := s.sys.islandsLost.filter fun n => n != 10 } }
      exec (.tsclkRestored t tau) s =
        .next ((carried.setRegN o7000.STATE (if s.flag o7000.TAI_VALID then 2 else 0)).sealed s t)) ∧
    (∀ tau, s.islandLost 10 = false → s.islandLost 11 = false → exec (.tsclkCapture t tau) s =
      .next (({ s.tick t with time := { s.time with pairs := ((t, tau) :: s.time.pairs).take 2 } }).sealed s t)) ∧
    (∀ n, n < 8 → (s.tick t).triggerDue n = true →
      (∀ m, m < n → (s.tick t).triggerDue m = false ∨ s.regN (o7003.TRIGGER_TIME + m) ≠ s.regN (o7003.TRIGGER_TIME + n)) →
      let ctrl := s.regN (o7003.TRIGGER_CTRL + n)
      let counted := if s.time.late.contains n then (s.tick t).incReg o7003.LATE_TRIGGERS else s.tick t
      let unlated : State := { counted with time := { counted.time with late := counted.time.late.filter fun m => m != n } }
      let armed := if bits ctrl 27 0 * 1000 = 0 then unlated.setRegN (o7003.TRIGGER_CTRL + n) (setBit ctrl 31 false)
        else unlated.setRegN (o7003.TRIGGER_TIME + n)
          ((unlated.regN (o7003.TRIGGER_TIME + n) + bits ctrl 27 0 * 1000) % 2 ^ 64)
      exec (.timeTriggerFire t n) s =
        .next ((if n = 6 then armed.commitTime else if n = 7 then armed
          else (if bits ctrl 30 28 = 1 then armed.capture (4 + n) armed.now else armed).raise 105 n 0 22).sealed s t)) ∧
    (∀ i high held, i < 4 → s.regN o7004.TRIG_FILTER_NS ≤ held → bit s.time.trigHigh i = !high →
      let seen : State := { s.tick t with time := { s.time with trigHigh := setBit s.time.trigHigh i high } }
      exec (.trigEdge t i high held) s =
        .next ((if bit (s.regN o7004.TRIG_EDGE) (2 * i + if high then 0 else 1) then seen.capture i seen.now
          else seen).sealed s t)) ∧
    (s.regN o7004.PPS_WIDTH_US ≠ 0 → s.timeValid = true →
      (s.tick t).localTime (max s.now t) % 1000000000 ≤ 4 ∨ 999999996 ≤ (s.tick t).localTime (max s.now t) % 1000000000 →
      exec (.ppsOutEdge t) s =
      .next ((({ s.tick t with time := { s.time with ppsUntil := some (max s.now t + s.regN o7004.PPS_WIDTH_US * 1000) } }).emit
        (.pps (s.regN o7004.PPS_WIDTH_US))).sealed s t)) ∧
    (let ns : Int := (s.tick t).localTime (max s.now t)
     exec (.ppsInEdge t) s =
        .next (((s.tick t).setReg o7004.PPS_IN_OFFSET_NS (ns - divNear ns 1000000000 * 1000000000)).sealed s t))

/-! ### Chapter 15: Aqlet -/

/-- R407 to R411: OPEN makes a half-open session, AUTH with the right proof opens it, CLOSE and the two time limits end it,
and a lockout ends. -/
def Obligations.SessionCommandsTakeEffect : Prop :=
  ∀ (s : State) (t : Nat) (rq : Request),
    let q := heard (s.tick t) rq
    let r := readFrame q.frame
    let u := looking s t rq
    (∀ slot, Reaches s t rq → r.op = 0x10 → r.tag = List.replicate 8 0 → u.lockedOut (bits (r.word 0) 63 62) q = false →
      (u.loaderOnly = false ∨ q.path = .raster) → bits (r.word 0) 63 62 ≠ 0 → (u.secretSet (bits (r.word 0) 63 62) = true ∨ q.path = .raster) →
      (List.range 8).find? (fun n => u.aqlet.sessions.all fun x => x.slot != n) = some slot →
      let u1 := (u.draw 32).2
      let u2 := (u1.draw 64).2
      let u3 := (u2.draw 64).2
      let chip := octetsOf 8 (u1.draw 64).1 ++ octetsOf 8 (u2.draw 64).1
      let id := u3.newId (u.draw 32).1
      let x : Session :=
        { slot := slot, id := id, role := bits (r.word 0) 63 62, path := q.path, src := q.src, isOpen := false,
          hostNonce := (r.body.drop 8).take 16, chipNonce := chip, key := [], startedAt := u.now, lastValid := u.now,
          highest := none, cache := [], done := [], running := [], staged := [],
          notices := { mask := 0, seq := 0, lost := 0, queue := [], windowStart := u.now, sent := 0 },
          snapshot := none, assembly := none }
      let opened : State := { u3 with aqlet := { u3.aqlet with sessions := u3.aqlet.sessions ++ [x] } }
      exec (.openSession t rq) s =
        outcome s t rq (opened.sendResponse (replyTo q r) [] (responseBody 0 (octetsOf 8 (place id 63 32) ++ chip)) false false)) ∧
    (∀ x, Reaches s t rq → r.op = 0x11 → r.tag = List.replicate 8 0 → u.sessionFor r.session q = some x → x.isOpen = false →
      r.seq = 0 → r.body = hmac (u.secret x.role) (proofMessage 0x48 x) →
      let body := responseBody 0 (hmac (u.secret x.role) (proofMessage 0x43 x))
      let opened := u.mapSession x.id fun y =>
        { y.answered 0 r.reqId body with
          isOpen := true, key := hmac (u.secret x.role) (proofMessage 0x4B x), lastValid := u.now }
      exec (.auth t rq) s =
        outcome s t rq ((opened.countSessions.audit { auditOf q r x.role with kind := 4 }).sendResponse (replyTo q r) [] body
          false false)) ∧
    (∀ x, Admitted s t rq x → r.op = 0x12 → (serving s t rq x).mode ≠ 7 →
      exec (.closeSession t rq) s =
        outcome s t rq (((serving s t rq x).accept q r x none 0 [] false).closeSession x 1)) ∧
    (∀ n x, Awake s → s.sessionById n = some x → x.isOpen = false → x.startedAt + 5000000000 ≤ max s.now t →
      exec (.sessionAuthTimeout t n) s = .next (((s.tick t).closeSession x 0).sealed s t)) ∧
    (∀ n x, Awake s → s.sessionById n = some x → x.isOpen = true →
      x.lastValid + s.regN o2100.SESSION_IDLE_S * 1000000000 ≤ max s.now t →
      exec (.sessionIdleTimeout t n) s = .next (((s.tick t).closeSession x 2).sealed s t)) ∧
    (∀ role path src, Awake s → exec (.lockoutExpire t role path src) s =
      .next (({ s.tick t with aqlet := { s.aqlet with lockouts := s.aqlet.lockouts.filter fun a =>
        !(a.role == role && a.path == path && a.src == src &&
          decide (a.time + s.regN o2100.LOCKOUT_S * 1000000000 ≤ max s.now t)) } }).sealed s t))

/-- R406, R413, R417 to R420, R445, R446: READ, WRITE, READ_BLOCK, WRITE_BLOCK, STAGE, COMMIT, SUBSCRIBE and TRIGGER in an
open session, when no check of Table 15-3 refuses them. -/
def Obligations.SessionRequestsTakeEffect : Prop :=
  ∀ (s : State) (t : Nat) (rq : Request) (x : Session), Admitted s t rq x →
    let q := heard (s.tick t) rq
    let r := readFrame q.frame
    let k := r.key
    let u := serving s t rq x
    (r.op = 1 → check3 k = 0 → check4 x.role k 1 = 0 → u.check5 1 k [] x.role x.path = 0 → (u.readValue k).length ≤ 1400 →
      u.ownerLost k = false →
      exec (.read t rq) s =
        outcome s t rq ((u.noteRead k).accept q r x none 0
          (octetsOf 8 (place (k / 256) 63 48 + place (k % 256) 47 40 + place (typeCode k) 39 24 + (u.readValue k).length)
            ++ u.readValue k) false)) ∧
    (Granted s t rq x →
      (applyOf k ≠ .t → applyOf k ≠ .b → exec (.write t rq) s =
        outcome s t rq (written (u.applyWrite k (valueIn q) (valueOctetsOf q) (askerOf q r x)) q x [])) ∧
      (applyOf k = .b → exec (.write t rq) s = outcome s t rq (written (u.bootValue k (valueIn q)) q x [])) ∧
      (applyOf k = .t → stagedHealth k = false → exec (.write t rq) s = outcome s t rq (committing u q x))) ∧
    (r.op = 3 → check3 k = 0 → check4 x.role k 1 = 0 → u.check5 3 k [] x.role x.path = 0 → u.ownerLost k = false →
      let off := bits (r.word 1) 63 32
      let cnt := bits (r.word 1) 31 0
      off % 8 = 0 → cnt % 8 = 0 → 8 ≤ cnt → cnt ≤ 1400 →
      (off = 0 →
        let v := u.readValue k
        let shot : Transfer := { key := k, total := v.length, data := v, last := u.now }
        let last := decide (v.length ≤ cnt)
        exec (.readBlock t rq) s =
          outcome s t rq (((u.noteRead k).mapSession x.id fun z => { z with snapshot := if last then none else some shot }).accept
            q r x none 0 (octetsOf 8 (place v.length 31 0) ++ v.take (min cnt v.length)) last)) ∧
      (∀ y, off ≠ 0 → x.snapshot = some y → y.key = k → off < y.total →
        let last := decide (y.total ≤ off + cnt)
        exec (.readBlock t rq) s =
          outcome s t rq ((u.mapSession x.id fun z =>
              { z with snapshot := if last then none else some { y with last := u.now } }).accept q r x none 0
            (octetsOf 8 (place off 63 32 + place y.total 31 0) ++ (y.data.drop off).take (min cnt (y.total - off)))
            last))) ∧
    (r.op = 4 → k ≠ o7E01.IMAGE → check3 k = 0 → check4 x.role k 2 = 0 → u.check5 4 k [] x.role x.path = 0 →
      let off := bits (r.word 1) 63 32
      let total := bits (r.word 1) 31 0
      let data := r.body.drop 16
      (∀ row, rowOf k = some row → total ≤ row.len → off = 0 → r.last = false → 8 ≤ data.length → data.length < total →
        exec (.writeBlock t rq) s =
          outcome s t rq (((u.dropAssembly x.id).mapSession x.id fun z => { z with assembly := some (Transfer.mk k total data u.now) }).accept
            q r x none 0 [] false)) ∧
      (∀ row y, rowOf k = some row → total ≤ row.len → off ≠ 0 → x.assembly = some y → y.key = k → y.total = total →
        y.data.length = off → r.last = true → off < total → total ≤ off + data.length →
        allZero (data.drop (total - off)) = true →
        let o := y.data ++ data.take (total - off)
        let v := u.mapSession x.id fun z => { z with assembly := none }
        v.check5 2 k o x.role x.path = 0 → v.check6 k 0 o false v.reg = 0 → k ≠ o2000.REQUEST →
        v.stateCode k (valueOf k o) o = 0 → v.modes.commit = none → v.ownerLost k = false →
        (applyOf k ≠ .t → applyOf k ≠ .b → exec (.writeBlock t rq) s =
          outcome s t rq ((v.applyWrite k (valueOf k o) o (askerOf q r x)).accept q r x (some k) (writeAudit k o) [] false)) ∧
        (k = o3403.MAP → exec (.healthMapWrite t rq) s =
          outcome s t rq ((v.writeMap o).accept q r x (some k) (writeAudit k o) [] false)))) ∧
    (r.op = 5 → check3 k = 0 → check4 x.role k 2 = 0 → u.check5 5 k (valueOctetsOf q) x.role x.path = 0 →
      u.check6 k (bits (r.word 0) 39 24) (valueOctetsOf q) true (u.lookStaged x) = 0 → applyOf k = .t → stagedHealth k = false →
      (valueOctetsOf q).length ≤ 8 → isOctets k = false → (x.staged.any fun e => e.1 == k) = true ∨ x.staged.length < 64 →
      u.stateCode k (valueIn q) (valueOctetsOf q) = 0 → u.ownerLost k = false →
      let staged := (x.staged.filter fun e => e.1 != k) ++ [(k, valueIn q)]
      exec (.stage t rq) s =
        outcome s t rq ((u.mapSession x.id fun z => { z with staged := staged }).accept q r x none 0
          (octetsOf 8 (place staged.length 63 48)) false)) ∧
    (r.op = 6 → u.loaderOnly = false →
      let action := bits (r.word 0) 63 56
      let lead := bits (r.word 0) 31 0
      let emptied := u.mapSession x.id fun z => { z with staged := [] }
      (lead = 0 ∨ (2048 ≤ lead ∧ lead ≤ 1048576)) →
      (action = 2 → exec (.commit t rq) s =
        outcome s t rq (emptied.accept q r x none 0 (octetsOf 8 0 ++ octetsOf 8 0) false)) ∧
      (action = 1 → (∀ e ∈ x.staged, check4 x.role e.1 2 = 0 ∧ u.check5 6 e.1 [] x.role x.path = 0 ∧
          u.commandCode e.1 e.2 [] = 0) →
        (u.modes.commit = none → exec (.commit t rq) s =
          outcome s t rq ((emptied.startRunning r q x).beginCommit (.session (askerOf q r x)) x.staged
            lead)) ∧
        (u.modes.commit.isSome = true → exec (.commit t rq) s =
          outcome s t rq (emptied.refuse q r x 0x06000002)))) ∧
    (r.op = 7 → u.loaderOnly = false →
      let mask := r.word 0 + r.word 1 * 2 ^ 64
      exec (.subscribe t rq) s =
        outcome s t rq ((u.mapSession x.id fun z =>
            { z with notices := { z.notices with mask := mask, queue := if mask = 0 then [] else z.notices.queue } }).accept
            q r x none 0 (octetsOf 8 (r.word 0) ++ octetsOf 8 (r.word 1)) false)) ∧
    (r.op = 8 → 2 ≤ x.role → u.loaderOnly = false → bits (r.word 0) 63 56 ≤ 5 → bits (bits (r.word 0) 31 0) 30 28 ≤ 1 →
      u.regionLost 22 = false →
      let n := bits (r.word 0) 63 56
      let ctrl := bits (r.word 0) 31 0
      let armed := u.armTrigger n (r.word 1) ctrl
      let rx : Int := if armed.timeValid then
          (if q.path = .network then armed.receivedAt q.rx q.port else armed.localFine q.rx) else 0
      let shot := if bit (r.word 0) 55 then octetsOfWords (armed.captureWords q.rx 0) else []
      exec (.trigger t rq) s =
        outcome s t rq (armed.accept q r x (some (o7003.TRIGGER_CTRL + n)) ctrl
          (octetsOf 8 ((rx / 65536).toNat) ++ octetsOf 8 (place (rx % 65536).toNat 63 48) ++ shot) false)) ∧
    (r.op = 1 → check3 k = 0 → check4 x.role k 1 = 0 → u.check5 1 k [] x.role x.path = 0 → (u.readValue k).length ≤ 1400 →
      exec (.requestTimeout t rq) s = outcome s t rq (u.refuse q r x 0x07000001))

/-- R416, R419, R425, R445 to R447: a NOTIFY frame, the end of a snapshot and of an assembly, and the audit sector. -/
def Obligations.SessionEventsTakeEffect : Prop :=
  ∀ (s : State) (t : Nat), Awake s →
    (∀ n x, s.sessionById n = some x → x.isOpen = true → (s.tick t).loaderOnly = false → s.sys.supervisor.state = .running →
      x.notices.queue ≠ [] →
      let now := if x.notices.windowStart + 1000000000 ≤ (s.tick t).now
        then { x.notices with windowStart := (s.tick t).now, sent := 0 } else x.notices
      (now.sent < 1000 →
        let sent := now.queue.take 88
        let body := octetsOf 8 (place sent.length 63 32 + place now.lost 31 0)
          ++ sent.flatMap fun w => octetsOfWords [w.1, w.2]
        let frame := frameOf (place 1 63 60 + place 0x20 55 48 + body.length) (place x.id 63 32 + now.seq) body x.key
        let noted := (s.tick t).mapSession x.id fun y => { y with notices := { now with
          queue := now.queue.drop 88, lost := 0, seq := (now.seq + 1) % 2 ^ 32, sent := now.sent + 1 } }
        exec (.notify t n) s =
          .next ((((noted.ringPut 14 (frameWords frame)).ringTake 14).sendAqlet x.path x.src [] frame none).sealed s t)) ∧
      (1000 ≤ now.sent → exec (.notify t n) s =
        .next ((((s.tick t).addReg o2100.NOTIFY_SPILLWAY now.queue.length).mapSession x.id fun y => { y with
          notices := { now with queue := [], lost := now.lost + now.queue.length } }).sealed s t))) ∧
    (∀ n, exec (.snapshotTimeout t n) s =
      .next (((s.tick t).mapSession n fun x =>
        { x with snapshot := x.snapshot.filter fun y => !decide (y.last + 10000000000 ≤ (s.tick t).now) }).sealed s t)) ∧
    (∀ n x y, s.sessionById n = some x → x.assembly = some y → y.last + 10000000000 ≤ max s.now t →
      exec (.assemblyTimeout t n) s = .next (((s.tick t).dropAssembly n).sealed s t)) ∧
    (s.aqlet.unwritten ≠ [] → s.islandLost 11 = false →
      (exec (.auditFlashWrite t true) s =
        .next (({ s.tick t with
          flash := s.flash.addAudit s.aqlet.unwritten,
          aqlet := { s.aqlet with unwritten := [] } }).sealed s t)) ∧
      (exec (.auditFlashWrite t false) s = .next (((s.tick t).raise 117 0 1 23).sealed s t)))

/-- The writes of subindices of chapters 02 to 05 that command something (R45, R69, R95, R99, R105, R142, R145, R160, R170). -/
def Obligations.WritesOfThePressTakeEffect : Prop :=
  ∀ (s : State) (t : Nat) (rq : Request) (x : Session),
    let q := heard (s.tick t) rq
    let k := (readFrame q.frame).key
    let n := (valueIn q).toNat
    (Granted s t rq x →
      let u := serving s t rq x
      (∀ ch, ch < 2 → k = o6400.COUNT_PRESET + 256 * ch →
        exec (.countPresetWrite t rq) s = outcome s t rq (written (u.presetCount ch n) q x [])) ∧
      (∀ ch, ch < 2 → k = o6400.FORMAT + 256 * ch →
        exec (.formatWrite t rq) s = outcome s t rq (written (u.writeFormat ch n) q x [])) ∧
      (k = o4000.ENABLE →
        exec (.enableWrite t rq) s = outcome s t rq (written (u.writeLinkEnable (n == 1)) q x [])) ∧
      (k = o4000.RETRAIN → n = 1 → u.regN o4000.STATE = 4 →
        exec (.retrainWrite t rq) s = outcome s t rq (written u.beginRetrain q x [])) ∧
      (k = o4003.LOOP → exec (.loopWrite t rq) s = outcome s t rq (written (u.writeLoop n) q x [])) ∧
      (k = o4003.PRBS_RUN → exec (.prbsRunWrite t rq) s = outcome s t rq (written (u.writePrbs (n == 1)) q x [])) ∧
      (k = o4400.CHANNEL_RESTORE → n = 1 →
        exec (.channelRestoreWrite t rq) s =
          outcome s t rq (written (u.withDram fun d => { d with restoring := (List.range 2).find? fun c => !u.channelUp c }) q x
            [])) ∧
      (k = o3100.PIXEL_BITS →
        exec (.pixelBitsWrite t rq) s = outcome s t rq (written (u.abortWaiting.setReg k (valueIn q)) q x [])) ∧
      (k = o4802.LOG_SEQ →
        exec (.logSeqWrite t rq) s = outcome s t rq (written (u.withPages fun q => { q with logRead := n }) q x []))) ∧
    (∀ found,
      let told := s.withDram fun d => { d with found := some found }
      Granted told t rq x → k = o4405.TRAIN → n = 1 →
      exec (.trainWrite t rq found) s =
        .next (((afterPath (told.tick t) rq (written (serving told t rq x).writeTrain q x [])).withDram fun d =>
          { d with found := none }).sealed s t))

/-- The writes of subindices of chapters 06 to 08 that command something; those of class T begin a commit (R15, R197,
R199, R206, R222, R270, R277). -/
def Obligations.WritesOfTheBarTakeEffect : Prop :=
  ∀ (s : State) (t : Nat) (rq : Request) (x : Session), Granted s t rq x →
    let q := heard (s.tick t) rq
    let k := (readFrame q.frame).key
    let n := (valueIn q).toNat
    let u := serving s t rq x
    (k = o3020.FORCE_TAKEOVER →
      exec (.forceTakeoverWrite t rq) s = outcome s t rq (written (u.takeOver n 5 u.now) q x [])) ∧
    (k = o3020.RETURN_POLDER → exec (.returnPolderWrite t rq) s = outcome s t rq (committing u q x)) ∧
    (k = o3000.DIES → exec (.diesWrite t rq) s = outcome s t rq (written ((u.setDies n).fitDies n) q x [])) ∧
    (∀ i, i < 16 → k = o3401.COLUMN_HEALTH + i →
      exec (.columnHealthWrite t rq) s = outcome s t rq (written (u.writeWindow i n) q x (octetsOf 8 0))) ∧
    (k = o3404.PROBE_ARM → exec (.probeArm t rq) s = outcome s t rq (committing u q x)) ∧
    (k = o3802.QUARANTINE_MASK → exec (.quarantineMaskWrite t rq) s = outcome s t rq (committing u q x)) ∧
    (k = o3802.RETRY → exec (.retryWrite t rq) s = outcome s t rq (written (u.dieTrain n) q x []))

/-- The writes of subindices of chapters 10 to 14 that command something (R281, R291, R297, R300, R318, R338, R346, R351
to R354, R360, R365, R367, R392). -/
def Obligations.WritesOfVisionAndMotionTakeEffect : Prop :=
  ∀ (s : State) (t : Nat) (rq : Request) (x : Session), Granted s t rq x →
    let q := heard (s.tick t) rq
    let r := readFrame q.frame
    let k := r.key
    let n := (valueIn q).toNat
    let u := serving s t rq x
    let m := readMotion (valueOctetsOf q)
    (∀ p, p < 2 → (k = o5002.EXPOSURE_NS + p ∨ k = o5002.GAIN_CDB + p) →
      exec (.settingsWrite t rq) s = outcome s t rq (written (u.writeSetting p k (valueIn q)) q x [])) ∧
    (∀ p, p < 2 → k = o5000.BIND + p →
      exec (.bindWrite t rq) s = outcome s t rq (written (u.bindPipeline p n) q x [])) ∧
    (k = o5003.HOST_RELEASE →
      exec (.hostReleaseWrite t rq) s = outcome s t rq (written (u.hostRelease n) q x [])) ∧
    (∀ p, p < 2 → k = o5004.RESTART + p → n = 1 → u.cameraState p = 4 →
      exec (.cameraRestartWrite t rq) s = outcome s t rq (written (if u.printing then (u.setCameraState p 1).armCamera p else u.setCameraState p 1) q x [])) ∧
    (k = o5203.APPROVE → exec (.approveWrite t rq) s = outcome s t rq (written (u.approve n) q x [])) ∧
    (k = o5203.REJECT → exec (.rejectWrite t rq) s = outcome s t rq (written (u.reject n) q x [])) ∧
    (∀ p, p < 2 → k = o5403.RESTORE + p → n = 1 →
      exec (.restoreWrite t rq) s = outcome s t rq (written (u.startTest p) q x [])) ∧
    (∀ a, a < 4 →
      (k = o6000.DECEL + 256 * a →
        exec (.decelWrite t rq) s = outcome s t rq (written (u.writeDecel a n) q x [])) ∧
      (k = o6000.POSITION_PRESET + 256 * a →
        exec (.positionPresetWrite t rq) s = outcome s t rq (written (u.presetAxis a (valueIn q)) q x [])) ∧
      (k = o6011.LEARN + 256 * a → n = 1 →
        exec (.learnWrite t rq) s = outcome s t rq (written (u.learnStart a) q x [])) ∧
      (k = o6000.COMMAND + 256 * a →
        let done := outcome s t rq (written (u.runMotion a m) q x [])
        ((readMotion (r.body.drop 8)).op = 1 → exec (.moveAbs t a (.write rq)) s = done) ∧
        ((readMotion (r.body.drop 8)).op = 2 → exec (.moveRel t a (.write rq)) s = done) ∧
        ((readMotion (r.body.drop 8)).op = 3 → exec (.velocity t a (.write rq)) s = done) ∧
        ((readMotion (r.body.drop 8)).op = 4 → exec (.stop t a (.write rq)) s = done) ∧
        ((readMotion (r.body.drop 8)).op = 5 → exec (.home t a (.write rq)) s = done) ∧
        ((readMotion (r.body.drop 8)).op = 6 → exec (.enable t a (.write rq)) s = done) ∧
        ((readMotion (r.body.drop 8)).op = 7 → exec (.disable t a (.write rq)) s = done))) ∧
    (k = o7000.RESTEP → n = 1 → 1 ≤ u.regN o7000.STATE → u.regN o7000.STATE ≤ 4 →
      exec (.restepWrite t rq) s =
        outcome s t rq (written ({ u.setRegN o7000.STATE 1 with
          time := { u.time with offsets := [], within := 0, lastTheta := none, jumps := 0 } }) q x []))

/-- The writes of subindices of chapters 15 to 19 that command something (R422, R443, R444, R451 to R454, R466, R467, R517,
R518). -/
def Obligations.WritesOfTheSystemTakeEffect : Prop :=
  ∀ (s : State) (t : Nat) (rq : Request) (x : Session), Granted s t rq x →
    let q := heard (s.tick t) rq
    let r := readFrame q.frame
    let k := r.key
    let n := (valueIn q).toNat
    let u := serving s t rq x
    (∀ i, i < 3 → k = o2102.SECRET_OPERATOR + i →
      let stored : State := { u with flash := { u.flash with secrets := u.flash.secrets.set i (valueOctetsOf q) } }
      exec (.secretWrite t rq) s = outcome s t rq (written (stored.closeRole (i + 1) x.id) q x [])) ∧
    (k = o1010.SAVE →
      exec (.saveWrite t rq) s =
        outcome s t rq (written ({ u.setRegN o1010.SAVE_STATUS 1 with
          modes := { u.modes with saving := some u.saveValues } }) q x [])) ∧
    (k = o1011.LOAD →
      exec (.loadWrite t rq) s =
        outcome s t rq (written ({ u.setRegN o1020.STORED_CRC (Config.storedCrc [] % 2 ^ 32) with
          flash := u.flash.writeCopy [] true, modes := { u.modes with saving := u.modes.saving.map fun _ => [] } }) q x [])) ∧
    (k = o2000.REQUEST →
      let asked := fun c => (r.body.drop 8).head? = some (BitVec.ofNat 8 c) ∧ n = c
      let done := fun c => outcome s t rq (written (u.writeRequest c (askerOf q r x)) q x [])
      (asked 0 → exec (.requestBoot t rq) s = done 0) ∧ (asked 1 → exec (.requestCapped t rq) s = done 1) ∧
      (asked 2 → exec (.requestService t rq) s = done 2) ∧ (asked 3 → exec (.requestReady t rq) s = done 3) ∧
      (asked 4 → exec (.requestPrint t rq) s = done 4) ∧ (asked 5 → exec (.requestProof t rq) s = done 5) ∧
      (asked 6 → exec (.requestTest t rq) s = done 6)) ∧
    (k = o7E02.SWAP → exec (.swapWrite t rq) s = outcome s t rq (written u.swapStart q x [])) ∧
    (k = o7E02.CONFIRM → exec (.confirmWrite t rq) s = outcome s t rq (written u.swapConfirm q x [])) ∧
    (k = o7801.VERIFY_ITEM → exec (.verifyItemWrite t rq) s = outcome s t rq (written (u.startVerify n) q x [])) ∧
    (k = o7801.CLEAR_TRIM → exec (.clearTrimWrite t rq) s = outcome s t rq (written (u.setTrim n none) q x []))

/-- R452 and Table 17-2: no request reaches BOOT or SAFE-HOLD from another mode. The chip refuses it with the first code of
R452 that applies, which `LAST_ABORT` keeps. -/
def Obligations.BootAndSafeHoldRequestsAreRefused : Prop :=
  ∀ (s : State) (t : Nat) (rq : Request) (x : Session), Admitted s t rq x →
    let q := heard (s.tick t) rq
    let r := readFrame q.frame
    let k := r.key
    let n := (valueIn q).toNat
    let u := serving s t rq x
    r.op = 2 → k = o2000.REQUEST → check4 x.role k 2 = 0 → u.check5 2 k (valueOctetsOf q) x.role x.path = 0 →
      u.check6 k (bits (r.word 0) 39 24) (valueOctetsOf q) true u.reg = 0 → u.mode ≠ n →
      let code := if x.role = 1 then 0x02001101 else if u.regN o2001.PHASE ≠ 0 then 0x06001105 else 0x05001101
      let refused := outcome s t rq ((u.setRegN o2000.LAST_ABORT code).refuse q r x code)
      ((r.body.drop 8).head? = some (BitVec.ofNat 8 0) → n = 0 → exec (.requestBoot t rq) s = refused) ∧
      ((r.body.drop 8).head? = some (BitVec.ofNat 8 7) → n = 7 → exec (.requestSafeHold t rq) s = refused)
/-! ### Chapters 16 and 17: stored configuration, modes, tide lines and firmware -/

/-- R443, R451, R453, R454, R465 to R467: the end of a configuration save, of FILLING, of DRAINING and of a PROOF run; an image
segment and a whole image; the restarts of a swap and its time limit. -/
def Obligations.ModeAndFirmwareEventsTakeEffect : Prop :=
  ∀ (s : State) (t : Nat),
    (∀ vs, Awake s → s.modes.saving = some vs →
      let ended : State := { s.tick t with modes := { s.modes with saving := none } }
      (exec (.configSaveDone t true) s =
        .next ((({ ended with flash := s.flash.writeCopy vs true }.setRegN o1010.SAVE_STATUS 2).setRegN o1020.STORED_CRC
          (Config.storedCrc vs % 2 ^ 32)).sealed s t)) ∧
      (exec (.configSaveDone t false) s =
        .next ((({ ended with flash := s.flash.writeCopy vs false }.setRegN o1010.SAVE_STATUS 3).raise 7 0 1 23).sealed s t))) ∧
    (Alive s → (s.tick t).lanesFilled = true → s.regN o2001.PHASE = 1 →
      exec (.fillDone t) s =
        .next ((((s.tick t).setRegN o2001.PHASE 0).setRegN o2001.FILL_US
          ((max s.now t - s.modes.fillFrom) / 1000)).sealed s t)) ∧
    (Alive s → s.regN o2001.PHASE = 2 → s.modes.lastLine + s.regN o3000.LARGEST_DELAY < (s.tick t).firingLine →
      exec (.drainDone t) s = .next (((s.tick t).setMode 3 7).sealed s t)) ∧
    (Alive s → s.mode = 5 → s.noPages = true →
      (s.tick t).runEnd + s.regN o3000.LARGEST_DELAY < (s.tick t).firingLine →
      exec (.proofRunEnd t) s = .next (((s.tick t).setMode 3 4).sealed s t)) ∧
    (Alive s → s.regN o7E02.SWAP_STATE = 1 → s.modes.swapPairs = [] →
      (s.modes.swapBack = false → exec (.swapRestarted t) s =
        .next (({ (s.tick t).setRegN o7E02.SWAP_STATE 2 with
          modes := { s.modes with confirmBy := max s.now t + s.regN o7E02.CONFIRM_S * 1000000000 } }).sealed s t)) ∧
      (s.modes.swapBack = true → exec (.swapRestarted t) s = .next ((s.tick t).swapEnd.sealed s t))) ∧
    (Alive s → s.regN o7E02.SWAP_STATE = 2 → s.modes.confirmBy ≤ max s.now t →
      exec (.swapConfirmTimeout t) s = .next ((s.tick t).swapBack.sealed s t)) ∧
    (∀ rq x check row, Admitted s t rq x →
      let q := heard (s.tick t) rq
      let r := readFrame q.frame
      let u := serving s t rq x
      let off := bits (r.word 1) 63 32
      let total := bits (r.word 1) 31 0
      let data := r.body.drop 16
      r.op = 4 → r.key = o7E01.IMAGE → check4 x.role r.key 2 = 0 → u.check5 4 r.key [] x.role x.path = 0 →
      rowOf r.key = some row → total ≤ row.len →
      (off = 0 → (u.dropAssembly x.id).imageCode x.id = 0 → r.last = false → 8 ≤ data.length → data.length < total →
        exec (.imageTransfer t rq check) s =
          outcome s t rq ((((u.dropAssembly x.id).mapSession x.id fun z =>
            { z with assembly := some (Transfer.mk r.key total data u.now) }).imageReceiving).accept q r x none 0 [] false)) ∧
      (∀ y, off ≠ 0 → x.assembly = some y → y.key = r.key → y.total = total → y.data.length = off → u.imageCode x.id = 0 →
        r.last = true → off < total → total ≤ off + data.length → allZero (data.drop (total - off)) = true →
        exec (.imageTransfer t rq check) s =
          outcome s t rq ((u.mapSession x.id fun z => { z with assembly := none }).imageArrived q r x
            (y.data ++ data.take (total - off)) check)))

/-- R181, R458 to R464: an acknowledgement that leaves others waiting and one that settles, the deadline and the time limit of
a commit, the tide line, and the retirement of the older generation. -/
def Obligations.TideEventsTakeEffect : Prop :=
  ∀ (s : State) (t : Nat) (c : Commit), Alive s → s.modes.commit = some c →
    (∀ who, c.stage = .staging →
      let left := c.waiting.filter fun p => p != who
      let noted := (s.tick t).setCommit (some { c with waiting := left })
      (left ≠ [] → ¬(left = [16] ∧ s.spareState = 1) →
        exec (.tideAck t who) s = .next (noted.sealed s t)) ∧
      (left = [16] → s.spareState = 1 →
        exec (.tideAck t who) s = .next ((noted.spareLeaves.settle { c with waiting := left }).sealed s t)) ∧
      (left = [] → exec (.tideAck t who) s = .next ((noted.settle { c with waiting := left }).sealed s t))) ∧
    (c.stage = .staging → s.printing = true → c.line - 256 ≤ (s.tick t).firingLine →
      exec (.tideDeadline t) s = .next (((s.tick t).abandon 1).sealed s t)) ∧
    (c.stage = .staging → c.since + s.regN o2002.TIDE_TIMEOUT_MS * 1000000 ≤ max s.now t →
      exec (.tideTimeout t) s = .next (((s.tick t).abandon 2).sealed s t)) ∧
    (c.stage = .settled → c.line ≤ (s.tick t).firingLine →
      exec (.tideLineReached t) s =
        .next (((((s.tick t).setRegN o2002.TIDE_STATE 4).setCommit (some { c with stage := .retiring })).comeIntoForce c).sealed
          s t)) ∧
    (c.stage = .retiring → c.line + s.regN o3000.LARGEST_DELAY < (s.tick t).firingLine →
      exec (.generationRetire t) s = .next ((s.tick t).retire.sealed s t))

/-! ### Chapters 18 and 19: mailboxes, rings, locks, the journal, power and reset -/

/-- R472, R483 to R495, R474: CLEAR, a notice posted and taken, the indexes of a ring, a lock read and released, and the
journal's sector; the answer names the master and the abort code. -/
def Obligations.HostWindowCommandsTakeEffect : Prop :=
  ∀ (s : State) (t m : Nat), Alive s → m ≠ 2 →
    (∀ w v met, w < 2 → exec (.clearWrite t m w v met) s =
      .next (((State.clearFlags (s.tick t) w v met).answerTo m 0 0).sealed s t)) ∧
    (∀ ch v, ch < 32 → m = s.mbSender ch → 0x10000 ≤ bits (v % 2 ^ 64) 63 16 → bits (v % 2 ^ 64) 63 16 ≤ 0xFFFFFF8 →
      s.mbFull ch = false →
      let posts := (bits (s.mbStatus ch) 31 0 + 1) % 2 ^ 32
      let marked := (s.tick t).setRegN (o7400.MB_STATUS + ch)
        (place m 63 60 + place (s.epoch m) 59 52 + 2 ^ 51 + posts)
      let events : Events := { s.events with notices := (ch, v % 2 ^ 64) :: s.events.notices.filter fun p => p.1 != ch }
      let posted : State := { marked with events := events }
      exec (.mbNoticePost t m ch v) s =
        .next (((posted.ringDoorbell (posted.mbReceiver ch) ch).answerTo m 0 0).sealed s t)) ∧
    (∀ ch, ch < 32 → m = s.mbReceiver ch → s.mbFull ch = true → bit (s.mbStatus ch) 50 = false →
      let emptied := (s.tick t).setRegN (o7400.MB_STATUS + ch) (setBit (setBit (s.mbStatus ch) 51 false) 50 false)
      let taken : State := { emptied with
        events := { s.events with notices := s.events.notices.filter fun p => p.1 != ch } }
      let more := (List.range 32).any fun c => taken.mbFull c && taken.mbReceiver c == m
      (pairOf m = none →
        exec (.mbNoticeTake t m ch) s = .next ((taken.answerTo m 0 (s.noticeIn ch)).sealed s t)) ∧
      (∀ p, pairOf m = some p → exec (.mbNoticeTake t m ch) s =
        .next (((if more then taken else taken.setPair p { taken.pair p with doorbell := false }).answerTo m 0
          (s.noticeIn ch)).sealed s t))) ∧
    (∀ r v, r < 16 → m = ringProducer r → (v % 2 ^ 32 + (2 ^ 32 - s.ringTail r)) % 2 ^ 32 ≤ ringSlots r →
      let moved : State := { s.tick t with events := { s.events with heads := s.events.heads.set r (v % 2 ^ 32) } }
      exec (.ringHeadWrite t m r v) s =
        .next (((if ringConsumer r = 1 ∧ decide (s.ringEntries r = 0) ∧ moved.ringEntries r ≠ 0 then moved.raise 118 r 0 23
          else moved).answerTo m 0 0).sealed s t)) ∧
    (∀ r v, r < 16 → m = ringConsumer r → (v % 2 ^ 32 + (2 ^ 32 - s.ringTail r)) % 2 ^ 32 ≤ s.ringEntries r →
      let there : State := { s.tick t with events := { s.events with tails := s.events.tails.set r (v % 2 ^ 32) } }
      let moved := if r = 10 then State.drainStamps s.time.txQueue there else there
      exec (.ringTailWrite t m r v) s =
        .next (((if m = 1 ∧ moved.ringEntries r ≠ 0 then moved.raise 118 r 0 23 else moved).answerTo m 0 0).sealed s t)) ∧
    (∀ l, l < 32 →
      (s.lockOwner l = none →
        let held := (s.tick t).setRegN (o7402.LOCK_STATE + l) (2 ^ 15 + place m 14 11 + place (s.epoch m) 10 3)
        exec (.lockRead t m l none) s = .next ((held.answerTo m 0 (held.lockResult l 1)).sealed s t)) ∧
      (∀ o, s.lockOwner l = some o → exec (.lockRead t m l none) s =
        .next (((s.tick t).answerTo m 0 (s.lockResult l (if o = m then 3 else 2))).sealed s t)) ∧
      (s.lockOwner l = some m → exec (.lockWrite t m l false) s =
        .next ((((s.tick t).setRegN (o7402.LOCK_STATE + l) 0).answerTo m 0 0).sealed s t)) ∧
      (s.lockOwner l ≠ some m → exec (.lockWrite t m l false) s =
        .next (((s.tick t).answerTo m 0x06001303 0).sealed s t))) ∧
    (s.islandLost 11 = false → exec (.journalFlashWrite t true) s =
      .next (({ s.tick t with
        flash := s.flash.addJournal s.events.journal,
        events := { s.events with journal := [] } }).sealed s t))

/-- R500 to R502, R506, R509, R510, R515, R516, R518, R522, R457: a sag, the end of its save, the restart, the rails, the
junction sensors, a verify run, RESET_N, and start-up. -/
def Obligations.PowerAndResetCommandsTakeEffect : Prop :=
  ∀ (s : State) (t : Nat), Awake s →
    (∀ src mv ns, 1000 ≤ ns →
      (src = 0 ∧ bit (s.regN o7C00.SAG_SOURCES) 0 = true ∧ mv < s.regN o7C00.VBUS_THRESHOLD_MV ∨
        src = 15 ∧ bit (s.regN o7C00.SAG_SOURCES) 1 = true) →
      exec (.supplySag t src mv ns) s = .next ((((s.tick t).raise 9 src 3 23).safeHold 6 0xFF).sealed s t)) ∧
    (∀ ok r, s.mode = 7 → s.power.pending = true → s.power.resetLater = false → s.power.saving = some r →
      exec (.holdupSaveDone t ok) s =
        .next (({ (s.tick t).emit (.saved r.octets) with
          flash := { s.flash with slots := writeSlot r ok s.flash.slots, saves := r.count },
          power := { s.power with saving := none, pending := false,
                                  holding := if s.regN o2001.CAUSE = 6 then .afterSag else .afterFault } }).sealed s t)) ∧
    (∀ boot mv ns, s.mode = 7 → s.regN o2001.CAUSE = 6 → s.power.holding = .afterSag →
      s.flag o7C00.AUTO_RESTART = true → s.regN o7C00.VBUS_RESTART_MV ≤ mv → s.regN o7C00.RESTART_MS * 1000000 ≤ ns →
      exec (.sagRestart t boot mv ns) s = .next (((s.tick t).resetState.startUp boot).sealed s t)) ∧
    (∀ rails bus, exec (.railSample t rails bus) s =
      .next ((((List.range 11).foldl (State.sampleRail rails) (s.tick t)).setRegN o7C01.VBUS_MV bus).sealed s t)) ∧
    (∀ x rest g, s.power.genTemp = some g →
      let hi := rest.foldl max x
      let temp := clamp (-400) 1150 (divOpen 5151 ((x :: rest).foldl (· + ·) 0) (x :: rest).length)
      let seen := ((s.tick t).setReg o7C01.JUNCTION_MAX hi).setReg o7800.JUNCTION_MEAN temp
      let peaked := if seen.reg o7C01.JUNCTION_PEAK < hi then seen.setReg o7C01.JUNCTION_PEAK hi else seen
      let cooled : State := { peaked with power := { peaked.power with hot := false } }
      (1100 ≤ hi → hi ≤ 1150 → exec (.junctionRead t (x :: rest)) s =
        .next ((if 10 ≤ (temp - g).natAbs then peaked.newGeneration temp else peaked).sealed s t)) ∧
      (hi < 1100 → exec (.junctionRead t (x :: rest)) s =
        .next ((if 10 ≤ (temp - g).natAbs then cooled.newGeneration temp else cooled).sealed s t))) ∧
    (∀ deltas spreads item, s.mode ≠ 7 → s.power.verifyItem = some item →
      let begun : State := { s.tick t with power := { s.power with verifyItem := none } }
      let w := worst deltas
      let shown := begun.setReg o7801.VERIFY_DEVIATION (divNear w 1000)
      let far := decide (1000000 < w.natAbs)
      let wide := spreads.any fun d => decide (250000 < d)
      ((far || wide) = true → exec (.calVerifyDone t deltas spreads) s =
        .next (((((shown.setRegN o7801.VERIFY_STATE 3).setRegN o7801.VERIFY_QUALITY 0).setRegN o7801.VERIFY_REASON
          ((if far then 1 else 0) + if wide then 2 else 0)).raise 124 shown.nearestSet 0 23 true).sealed s t)) ∧
      ((far || wide) = false →
        let q := 255 * (1000000 - w.natAbs) / 1000000
        let rated : State := { shown with flash := { shown.flash with quality := shown.flash.quality.set item q } }
        let trimmed := (rated.setRegN (o7800.ITEM_QUALITY + item) q).setTrim item (some deltas)
        exec (.calVerifyDone t deltas spreads) s =
          .next (((((trimmed.setRegN o7801.VERIFY_STATE 2).setRegN o7801.VERIFY_QUALITY q).setRegN o7801.VERIFY_REASON
            0).raise 124 shown.nearestSet 0 23).sealed s t))) ∧
    (∀ low, 1000 ≤ low →
      (s.power.pending = false → exec (.resetAssert t low) s = .next ((s.tick t).resetState.sealed s t)) ∧
      (s.power.pending = true → exec (.resetAssert t low) s =
        .next (({ s.tick t with power := { s.power with resetLater := true, bootLater := none } }).sealed s t))) ∧
    (∀ report : StartupReport, s.mode = 0 → s.modes.loader = false → s.sizeGib ≠ 0 → report.failed = [] →
      let found := ((((s.tick t).setRegN o4403.CHANNELS 3).refreshBuffers 0).refreshBuffers 1).judgeBoth
      let trained := found.trained report.train
      trained.mode = 0 →
      let armed := trained.armMotionCycle.setRegN o2001.BOOT_MS ((trained.now - trained.sys.releasedAt) / 1000000)
      let capped := armed.setMode 1 2 { kind := 3, master := 3 }
      let noted := match capped.modes.fellBack with
        | some i => capped.raise 114 i 1 23
        | none => capped
      exec (.startupComplete t report) s =
        .next ((if noted.modes.restored then noted.raise 10 0 0 23 else noted).sealed s t))

/-- R457, R522: at the release of RESET_N the chip starts up. -/
def Obligations.ReleaseOfResetStartsTheChip : Prop :=
  ∀ (s : State) (t : Nat) (boot : BootReport), s.sys.inReset = true →
    exec (.resetRelease t boot) s = .next (((s.tick t).startUp boot).sealed s t)

/-! ### The chip as a whole -/

/-- A step takes the command at the front of the queue and runs it on the state with the rest of the queue; an accepted command
leaves the queue alone. -/
def Obligations.StepRunsTheFrontCommand : Prop :=
  ∀ (s : State) (c : Instr) (rest : List Instr), s.pending = c :: rest → step s = exec c { s with pending := rest }

/-- The model's choice (log entry 3): with nothing waiting one block position of the raster link passes, in which the link's
transmitter sends its next column (R77 to R79); the queue stays empty and no time passes. In reset, with the link DISABLED and
after a sag nothing at all changes. -/
def Obligations.EmptyQueuePassesABlockPosition : Prop :=
  ∀ s : State, s.pending = [] →
    step s = .next (s.lineTick.sealed s s.now) ∧
    (s.sys.inReset = true ∨ s.regN o4000.STATE = 0 ∨ (s.mode = 7 ∧ s.power.holding ≠ .afterFault) → step s = .next s)

/-- R45, R409, R436, R486, R494, R522: after RESET_N the chip is in its reset state and BOOT, its counts are 0, no lock is held, no ring and no mailbox holds
anything, no session is open, no flag stands, and nothing waits; the memory, which nothing has written, reads 0 (the model's
choice, log entry 9). -/
def Obligations.ResetLeavesTheChipSilent : Prop :=
  State.reset.sys.inReset = true ∧ State.reset.mode = 0 ∧ State.reset.regN o6400.COUNT = 0 ∧
    State.reset.regN (o6400.COUNT + 256) = 0 ∧ (∀ l, l < 32 → State.reset.lockOwner l = none) ∧
    (∀ r, r < 16 → State.reset.ringEntries r = 0) ∧ (∀ ch, ch < 32 → State.reset.mbFull ch = false) ∧
    State.reset.aqlet.sessions = [] ∧ State.reset.regN o2801.FLAGS = 0 ∧ State.reset.regN (o2801.FLAGS + 1) = 0 ∧
    State.reset.pending = [] ∧ (∀ a, State.reset.byte a = 0)

/-- The queue stands in time order at reset. -/
def Obligations.InvariantHoldsAtReset : Prop := QueueInOrder State.reset

/-- Every step keeps the queue in time order: time never runs past a waiting command (the model's reading of time, log
entry 10). -/
def Obligations.EveryStepKeepsTheInvariant : Prop :=
  ∀ (s s' : State), QueueInOrder s → step s = .next s' → QueueInOrder s'

/-- No command stops the chip: each answers a next state, which keeps the queue, and time goes on to the command's time and
never back. -/
def Obligations.EveryCommandAnswersANextState : Prop :=
  ∀ (c : Instr) (s : State), ∃ s', exec c s = .next s' ∧ s'.pending = s.pending ∧ s.now ≤ s'.now ∧ s'.now ≤ max s.now c.time

/-- R522: in the reset state only the release of RESET_N does anything. -/
def Obligations.OnlyReleaseActsInReset : Prop :=
  ∀ (c : Instr) (s : State), s.sys.inReset = true → (∀ t boot, c ≠ .resetRelease t boot) → exec c s = .next s

/-- R505, R509, R511: in SAFE-HOLD a command of a block that is shed or stopped changes nothing but the time. -/
def Obligations.SafeHoldStopsTheWork : Prop :=
  ∀ (c : Instr) (s : State), Awake s → s.mode = 7 → c.inSafeHold = false →
    exec c s = .next ((s.tick c.time).sealed s c.time)

/-- R471, R474: raising an event changes only registers, the rings' memory, the event log and the sessions' notices; of the
registers it changes only those of 2800h to 2803h and the spillway counters of the rings; the flag of the source stands
afterwards. -/
def Obligations.RaisingAnEventOnlyRecordsIt : Prop :=
  ∀ (s : State) (src detail breach region : Nat) (alt : Bool), src < 128 → Cells.wf resetValue s.regs = true →
    let raised := s.raise src detail breach region alt
    (∃ regs mem events aqlet, raised = { s with regs := regs, mem := mem, events := events, aqlet := aqlet }) ∧
    (∀ q, ¬(0x2800 ≤ q / 256 ∧ q / 256 ≤ 0x2803) → ¬(o7401.RING_SPILLWAY ≤ q ∧ q < o7401.RING_SPILLWAY + 16) →
      raised.reg q = s.reg q) ∧
    bit (raised.regN (o2801.FLAGS + src / 64)) (src % 64) = true

/-- R112, R481: what is written to the shared memory is read back, every octet outside it reads as before, and the memory keeps
its canonical form. -/
def Obligations.SharedMemoryHoldsWhatIsStored : Prop :=
  ∀ (s : State) (a : Nat) (o : Octets), Memory.wf s.mem = true →
    (s.store a o).load a o.length = o ∧ (∀ q, q < a ∨ a + o.length ≤ q → (s.store a o).byte q = s.byte q) ∧
      Memory.wf (s.store a o).mem = true

/-- R434, R437: a value put into a subindex is read back, every other subindex reads as before, and nothing else changes. -/
def Obligations.SubindexHoldsWhatIsPut : Prop :=
  ∀ (s : State) (k : Nat) (v : Int), Cells.wf resetValue s.regs = true →
    (s.setReg k v).reg k = v ∧ (∀ q, q ≠ k → (s.setReg k v).reg q = s.reg q) ∧
      Cells.wf resetValue (s.setReg k v).regs = true ∧ ∃ regs, s.setReg k v = { s with regs := regs }

/-- R39, R43, R44: a count moves by one, modulo 2⁴⁸, at each count edge held for FILTER_NS, which in SAFE-HOLD does nothing else;
an UP and a DOWN edge of one sample leave every register as it is. -/
def Obligations.CountsWrapModulo48Bits : Prop :=
  ∀ (s : State) (t ch : Nat), ch < 2 → Awake s → Cells.wf resetValue s.regs = true → s.islandLost 11 = false →
    (∀ (x : Levels) (down : Bool), s.mode = 7 → s.regN (o6400.FILTER_NS + 256 * ch) ≤ x.held →
      edgeOf (s.regN (o6400.FORMAT + 256 * ch)) (s.channel ch).a (s.channel ch).b x.a x.b = some down →
      let back := down != (s.regN (o6400.INVERT + 256 * ch) == 1)
      ∃ s', exec (.positionEdge t ch x) s = .next s' ∧
        s'.countOf ch = (s.countOf ch + if back then 2 ^ 48 - 1 else 1) % 2 ^ 48 ∧
        (∀ q, q ≠ o6400.COUNT + 256 * ch → s'.reg q = s.reg q) ∧
        s'.pos = (s.setChannel ch { s.channel ch with a := x.a, b := x.b }).pos) ∧
    (∀ held, s.regN (o6400.FILTER_NS + 256 * ch) ≤ held → s.regN (o6400.FORMAT + 256 * ch) = 2 → (s.channel ch).a = false →
      (s.channel ch).b = false →
      ∃ s', exec (.upDownSameSample t ch held) s = .next s' ∧ s'.regs = s.regs ∧
        s'.pos = (s.setChannel ch { s.channel ch with a := true, b := true }).pos)

/-- R206: an automatic source never changes a nozzle that is OUT with cause factory or electrical, nor one that a write of the same
instant names; any other it moves to a worse state, or to GOOD in the two cases of the rule, with its own cause; no other nozzle
changes, and the map in force stays. -/
def Obligations.AutomaticSourcesOnlyWorsen : Prop :=
  ∀ (s : State) (n state cause : Nat), Cells.wf (fun _ => 0) s.health.staged = true → state < 4 →
    let was := stateIn s.health.staged n
    let by_ := causeIn s.health.staged n
    let written := s.health.written.any fun w => w.1 == s.now && decide (w.2.1 ≤ n ∧ n ≤ w.2.2)
    let after := (s.autoHealth n state cause).2
    (written = true ∨ was = 3 ∧ (by_ = 1 ∨ by_ = 2) → after = s) ∧
    (¬(written = true ∨ was = 3 ∧ (by_ = 1 ∨ by_ = 2)) → was < state →
      stateIn after.health.staged n = state ∧ causeIn after.health.staged n = cause) ∧
    (written = false → state = 0 → was = 1 → by_ = 2 → cause = 2 →
      stateIn after.health.staged n = 0 ∧ causeIn after.health.staged n = 2) ∧
    (written = false → state = 0 → was ≠ 0 → by_ = 3 → cause = 3 →
      stateIn after.health.staged n = 0 ∧ causeIn after.health.staged n = 3) ∧
    (state ≠ 0 → state ≤ was → after = s) ∧
    (∀ q, q ≠ n → mapGet after.health.staged q = mapGet s.health.staged q) ∧
    after.health.inForce = s.health.inForce

/-- R472: a write of CLEAR clears the flags written with 1, but those raised in the same instant; the other flags of the word,
and every other register, read as before. -/
def Obligations.ClearWritesClearTheirFlags : Prop :=
  ∀ (s : State) (w v met : Nat), Cells.wf resetValue s.regs = true →
    (∀ b, b < 64 → bit ((s.clearFlags w v met).regN (o2801.FLAGS + w)) b =
      (bit (s.regN (o2801.FLAGS + w)) b && !(bit v b && !bit met b))) ∧
    (∀ q, q ≠ o2801.FLAGS + w → (s.clearFlags w v met).reg q = s.reg q)

/-- R494: the reader of a free lock holds it; no other lock and no other register changes; another master's read finds it HELD
with its owner and another master's write is refused with 06001303h, neither with any effect on it; the owner's write frees it. -/
def Obligations.LockIsHeldByOneMaster : Prop :=
  ∀ (s : State) (t m l : Nat), Alive s → Cells.wf resetValue s.regs = true → m < 16 → m ≠ 2 → l < 32 → s.lockOwner l = none →
    ∃ s', exec (.lockRead t m l none) s = .next s' ∧ s'.lockOwner l = some m ∧
      (∀ n, n ≠ l → s'.lockOwner n = s.lockOwner n) ∧ (∀ q, q ≠ o7402.LOCK_STATE + l → s'.reg q = s.reg q) ∧
      (∀ u n, n ≠ m → n ≠ 2 →
        (∃ s'' v, exec (.lockRead u n l none) s' = .next s'' ∧ s''.regs = s'.regs ∧ s''.out = .answer n 0 v :: s'.out ∧
          bits v 63 56 = 2 ∧ bits v 55 52 = m) ∧
        (∃ s'', exec (.lockWrite u n l false) s' = .next s'' ∧ s''.regs = s'.regs ∧
          s''.out = .answer n 0x06001303 0 :: s'.out)) ∧
      (∀ u, ∃ s'', exec (.lockWrite u m l false) s' = .next s'' ∧ s''.lockOwner l = none ∧
        (∀ q, q ≠ o7402.LOCK_STATE + l → s''.reg q = s'.reg q))

/-- R483, R484: a notice that its bound sender posts into an empty slot fills it and is the one that the bound receiver takes,
which empties the slot again; while it stands, a second post is refused with 06001301h and the slot keeps its notice. -/
def Obligations.MailboxHoldsOneNotice : Prop :=
  ∀ (s : State) (t m n ch v : Nat), Alive s → Cells.wf resetValue s.regs = true → ch < 32 → m = s.mbSender ch →
    n = s.mbReceiver ch → m ≠ 2 → n ≠ 2 → v < 2 ^ 64 → 0x10000 ≤ bits v 63 16 → bits v 63 16 ≤ 0xFFFFFF8 →
    s.mbFull ch = false →
    ∃ s', exec (.mbNoticePost t m ch v) s = .next s' ∧ s'.mbFull ch = true ∧ s'.noticeIn ch = v ∧
      (∀ c, c ≠ ch → c < 32 → s'.mbFull c = s.mbFull c ∧ s'.noticeIn c = s.noticeIn c) ∧
      (∀ u w, 0x10000 ≤ bits (w % 2 ^ 64) 63 16 → bits (w % 2 ^ 64) 63 16 ≤ 0xFFFFFF8 →
        ∃ s'', exec (.mbNoticePost u m ch w) s' = .next s'' ∧ s''.mbFull ch = true ∧ s''.noticeIn ch = v ∧
          s''.out = .answer m 0x06001301 0 :: s'.out) ∧
      (∀ u, ∃ s'', exec (.mbNoticeTake u n ch) s' = .next s'' ∧ s''.out = .answer n 0 v :: s'.out ∧ s''.mbFull ch = false ∧
        (∀ c, c ≠ ch → c < 32 → s''.mbFull c = s.mbFull c ∧ s''.noticeIn c = s.noticeIn c))

/-! ### What a request must pass -/

/-- R430: a request that names an index without an object is refused with 03000001h, one that names a subindex above the object's
highest with 03000002h; the refusal is counted, audited and answered. -/
def Obligations.UnknownSubindexIsRefused : Prop :=
  ∀ (s : State) (t : Nat) (rq : Request) (x : Session), Admitted s t rq x →
    let q := heard (s.tick t) rq
    let r := readFrame q.frame
    let u := serving s t rq x
    let refused := fun (v : State) code => outcome s t rq (((v.incReg o2100.REQUESTS_REFUSED).audit
      { auditOf q r x.role with abort := code }).answerSession x (replyTo q r) code [] false)
    ∀ code, (objectAt (r.key / 256) = none ∧ code = 0x03000001 ∨
        ∃ o, objectAt (r.key / 256) = some o ∧ o.highest < r.key % 256 ∧ code = 0x03000002) →
      (r.op = 1 → exec (.read t rq) s = refused u code) ∧
      (r.op = 2 → exec (.write t rq) s = refused u code) ∧
      (r.op = 3 → exec (.readBlock t rq) s = refused u code) ∧
      (r.op = 4 → exec (.writeBlock t rq) s = refused (u.dropAssembly x.id) code) ∧
      (r.op = 5 → exec (.stage t rq) s = refused u code)

/-- R440: a WRITE of class Q in CAPPED, READY or SERVICE that passes the other checks comes into force as one of class I does; in
any other mode it is refused with class 05h and changes nothing but the count, the audit and the answer. What R509 lets the
recovery loader take is not refused. -/
def Obligations.ClassQNeedsAQuietMode : Prop :=
  ∀ (s : State) (t : Nat) (rq : Request) (x : Session), Admitted s t rq x →
    let q := heard (s.tick t) rq
    let r := readFrame q.frame
    let u := serving s t rq x
    r.op = 2 → applyOf r.key = .q →
      (u.quiet = true → Granted s t rq x →
        exec (.write t rq) s =
          outcome s t rq (written (u.applyWrite r.key (valueIn q) (valueOctetsOf q) (askerOf q r x)) q x [])) ∧
      (u.quiet = false → check4 x.role r.key 2 = 0 →
        (u.loaderOnly = true → u.loaderAllows 2 r.key x.role x.path = false) →
        ∃ code, abortClass code = 5 ∧
          exec (.write t rq) s =
            outcome s t rq (((u.incReg o2100.REQUESTS_REFUSED).audit { auditOf q r x.role with abort := code }).answerSession x
              (replyTo q r) code [] false))

/-- R106: a write, whole or in blocks, of a Q-class subindex of 4000h in PRINT, PROOF or TEST is refused with class 05h, changes
nothing but the count, the audit and the answer, and is audited. -/
def Obligations.LinkSettingsStandWhilePrinting : Prop :=
  ∀ (s : State) (t : Nat) (rq : Request) (x : Session), Admitted s t rq x →
    let q := heard (s.tick t) rq
    let r := readFrame q.frame
    let u := serving s t rq x
    let refused := fun (v : State) => outcome s t rq (((v.incReg o2100.REQUESTS_REFUSED).audit
      { auditOf q r x.role with abort := 0x05000000 }).answerSession x (replyTo q r) 0x05000000 [] false)
    r.key / 256 = 0x4000 → applyOf r.key = .q → (u.mode = 4 ∨ u.mode = 5 ∨ u.mode = 6) → check4 x.role r.key 2 = 0 →
      abortClass 0x05000000 = 5 ∧ (r.op = 2 → exec (.write t rq) s = refused u) ∧
      (r.op = 4 → exec (.writeBlock t rq) s = refused (u.dropAssembly x.id))

/-- R408, R413: a request of an open session whose TAG is not that of its key is discarded: it is counted and answered with a
zero TAG, is not audited, and does nothing. -/
def Obligations.WrongTagIsDiscarded : Prop :=
  ∀ (s : State) (t : Nat) (rq : Request) (x : Session), Reaches s t rq →
    let q := heard (s.tick t) rq
    let r := readFrame q.frame
    let u := looking s t rq
    u.sessionFor r.session q = some x → x.isOpen = true → r.tag ≠ tagOf x.key r.signed →
      let discarded := outcome s t rq ((u.incReg o2100.FRAMES_DISCARDED).sendResponse (replyTo q r) []
        (responseBody 0x01000F03 []) false false)
      (r.op = 1 → exec (.read t rq) s = discarded) ∧ (r.op = 2 → exec (.write t rq) s = discarded) ∧
      (r.op = 3 → exec (.readBlock t rq) s = discarded) ∧
      (r.op = 4 → r.key ≠ o7E01.IMAGE → exec (.writeBlock t rq) s = discarded) ∧
      (∀ image, r.op = 4 → r.key = o7E01.IMAGE → exec (.imageTransfer t rq image) s = discarded) ∧
      (r.op = 5 → exec (.stage t rq) s = discarded) ∧ (r.op = 6 → exec (.commit t rq) s = discarded) ∧
      (r.op = 7 → exec (.subscribe t rq) s = discarded) ∧ (r.op = 8 → exec (.trigger t rq) s = discarded) ∧
      (r.op = 18 → exec (.closeSession t rq) s = discarded)

/-- R412: how a request of an open session with the right TAG is taken by its SEQ and REQ_ID: one already answered is answered
from the cache and executes nothing, one that executes is ignored, and an old or unknown one and a 17th unanswered one are
refused without effect. -/
def Obligations.RepeatedRequestsDoNotExecute : Prop :=
  ∀ (s : State) (t : Nat) (rq : Request) (x : Session), Reaches s t rq →
    let q := heard (s.tick t) rq
    let r := readFrame q.frame
    let u := serving s t rq x
    r.op = 2 → (looking s t rq).sessionFor r.session q = some x → x.isOpen = true → r.tag = tagOf x.key r.signed →
      (∀ run, x.running.find? (fun y => y.seq == r.seq) = some run → run.reqId = r.reqId →
        exec (.write t rq) s = outcome s t rq u) ∧
      (∀ c, x.running.find? (fun y => y.seq == r.seq) = none →
        x.cache.find? (fun c => c.seq == r.seq && c.reqId == r.reqId) = some c →
        exec (.write t rq) s =
          outcome s t rq ((u.incReg o2100.CACHED_REPLIES).sendResponse (replyTo q r) x.key c.frame true false)) ∧
      (∀ h, x.running.find? (fun y => y.seq == r.seq) = none →
        x.cache.find? (fun c => c.seq == r.seq && c.reqId == r.reqId) = none → x.highest = some h → r.seq ≤ h →
        (r.seq + 32 < h ∨ r.seq ∈ x.done) → exec (.write t rq) s = outcome s t rq (u.discard q r 0x01000F02)) ∧
      (x.running.find? (fun y => y.seq == r.seq) = none →
        x.cache.find? (fun c => c.seq == r.seq && c.reqId == r.reqId) = none → x.highest = none →
        16 ≤ x.running.length → exec (.write t rq) s = outcome s t rq (u.discard q r 0x01000F04))

/-- R407, R409: an AUTH, on whatever path and in whatever state it comes, opens no session but a half-open one of the same path
and source whose proof it carries. -/
def Obligations.OnlyTheRightProofOpensASession : Prop :=
  ∀ (s s' : State) (t : Nat) (rq : Request) (id : Nat), exec (.auth t rq) s = .next s' → sessionOpen s id = false →
    sessionOpen s' id = true →
      let q := heard (s.tick t) rq
      ∃ x ∈ s.aqlet.sessions, x.id = id ∧ x.isOpen = false ∧ x.path = q.path ∧ x.src = q.src ∧
        (readFrame q.frame).body = hmac (s.secret x.role) (proofMessage 0x48 x)
end

