-- ==== Sys2Proof/Laws/Bits.lean ====
section
/-! SUPPORT. Laws/Bits.lean: the laws of a bit and of setting it. -/
namespace Sys2Proof.Laws

open Sys2Proof.Machine

/-- A bit as a quotient. -/
theorem bit_eq (w b : Nat) : bit w b = decide (w / 2 ^ b % 2 = 1) := by
  unfold bit bits
  rw [Nat.shiftRight_eq_div_pow, show b + 1 - b = 1 by omega]
  simp [BEq.beq]

/-- A word under its bit b: its upper part, the bit, and its lower part. -/
theorem word_split (w b : Nat) : w = (w / 2 ^ (b + 1)) * 2 ^ (b + 1) + (w / 2 ^ b % 2) * 2 ^ b + w % 2 ^ b := by
  have h1 := Nat.div_add_mod w (2 ^ b)
  have h2 := Nat.div_add_mod (w / 2 ^ b) 2
  rw [Nat.div_div_eq_div_mul, ← Nat.pow_succ] at h2
  have e : 2 ^ (b + 1) = 2 ^ b * 2 := Nat.pow_succ 2 b
  have : w / 2 ^ (b + 1) * 2 ^ (b + 1) = 2 ^ b * (2 * (w / 2 ^ (b + 1))) := by
    rw [e, Nat.mul_comm, Nat.mul_assoc]
  rw [this]
  have : w / 2 ^ b % 2 * 2 ^ b = 2 ^ b * (w / 2 ^ b % 2) := Nat.mul_comm _ _
  rw [this, ← Nat.mul_add, h2, h1]

/-- The bits of a word made of an upper part, a bit and a lower part. -/
theorem bit_build {hi x lo b : Nat} (hx : x < 2) (hlo : lo < 2 ^ b) (i : Nat) :
    bit (hi * 2 ^ (b + 1) + x * 2 ^ b + lo) i =
      if i < b then bit lo i else if i = b then decide (x = 1) else bit hi (i - b - 1) := by
  rw [bit_eq]
  split
  · next h =>
    rw [bit_eq]
    have e1 : 2 ^ (b + 1) = 2 ^ i * (2 * 2 ^ (b - i)) := by
      rw [← Nat.mul_assoc, Nat.mul_comm (2 ^ i) 2, Nat.mul_assoc, ← Nat.pow_add, Nat.pow_succ, Nat.mul_comm]
      congr 2; omega
    have e2 : 2 ^ b = 2 ^ i * (2 * 2 ^ (b - i - 1)) := by
      rw [← Nat.mul_assoc, Nat.mul_comm (2 ^ i) 2, Nat.mul_assoc, ← Nat.pow_add, Nat.mul_comm, ← Nat.pow_succ]
      congr 1; omega
    have e : hi * 2 ^ (b + 1) + x * 2 ^ b + lo = 2 ^ i * (2 * (hi * 2 ^ (b - i) + x * 2 ^ (b - i - 1))) + lo := by
      have a1 : hi * 2 ^ (b + 1) = 2 ^ i * (2 * (hi * 2 ^ (b - i))) := by
        rw [e1]; simp only [Nat.mul_left_comm]
      have a2 : x * 2 ^ b = 2 ^ i * (2 * (x * 2 ^ (b - i - 1))) := by
        conv => lhs; rw [e2]
        simp only [Nat.mul_left_comm]
      rw [a1, a2, ← Nat.mul_add, ← Nat.mul_add]
    rw [e, Nat.mul_add_div (Nat.two_pow_pos i), Nat.mul_add_mod]
  · split
    · next h =>
      subst h
      have e : hi * 2 ^ (i + 1) + x * 2 ^ i + lo = 2 ^ i * (2 * hi + x) + lo := by
        have a : hi * 2 ^ (i + 1) = 2 ^ i * (2 * hi) := by
          rw [Nat.pow_succ, Nat.mul_comm, Nat.mul_assoc]
        rw [a, Nat.mul_comm x, ← Nat.mul_add]
      rw [e, Nat.mul_add_div (Nat.two_pow_pos i), Nat.div_eq_of_lt hlo, Nat.add_zero, Nat.mul_add_mod,
        Nat.mod_eq_of_lt hx]
    · next h1 h2 =>
      rw [bit_eq]
      have e : i = (b + 1) + (i - b - 1) := by omega
      have q : 2 ^ i = 2 ^ (b + 1) * 2 ^ (i - b - 1) := by rw [← Nat.pow_add, ← e]
      rw [q, ← Nat.div_div_eq_div_mul]
      have l : x * 2 ^ b + lo < 2 ^ (b + 1) := by
        have : x * 2 ^ b ≤ 2 ^ b := by
          have : x ≤ 1 := by omega
          calc x * 2 ^ b ≤ 1 * 2 ^ b := Nat.mul_le_mul_right _ this
            _ = 2 ^ b := Nat.one_mul _
        rw [Nat.pow_succ]; omega
      rw [Nat.add_assoc, Nat.mul_comm, Nat.mul_add_div (Nat.two_pow_pos _), Nat.div_eq_of_lt l, Nat.add_zero]

/-- A set bit reads as set; every other bit reads as before. -/
theorem bit_setBit (w b i : Nat) (on : Bool) : bit (setBit w b on) i = if i = b then on else bit w i := by
  have split_ := word_split w b
  have lo := Nat.mod_lt w (Nat.two_pow_pos b)
  have x2 : w / 2 ^ b % 2 < 2 := Nat.mod_lt _ (by decide)
  have self : ∀ i, bit w i = if i < b then bit (w % 2 ^ b) i else if i = b then decide (w / 2 ^ b % 2 = 1)
      else bit (w / 2 ^ (b + 1)) (i - b - 1) := by
    intro i
    conv => lhs; rw [split_]
    exact bit_build x2 lo i
  unfold setBit
  split
  · next h =>
    split
    · next e => rw [e, h]
    · rfl
  · next h =>
    have hb : bit w b = decide (w / 2 ^ b % 2 = 1) := bit_eq w b
    split
    · next o =>
      subst o
      have z : w / 2 ^ b % 2 = 0 := by
        rw [hb] at h; simp at h; omega
      have e : w + 2 ^ b = w / 2 ^ (b + 1) * 2 ^ (b + 1) + 1 * 2 ^ b + w % 2 ^ b := by
        conv => lhs; rw [split_]
        rw [z]; omega
      rw [e, bit_build (by decide) lo, self]
      by_cases h1 : i < b
      · rw [if_pos h1, if_pos h1, if_neg (by omega)]
      · rw [if_neg h1, if_neg h1]
        by_cases h2 : i = b
        · rw [if_pos h2, if_pos h2]; rfl
        · rw [if_neg h2, if_neg h2, if_neg h2]
    · next o =>
      have o' : on = false := by simpa using o
      subst o'
      have z : w / 2 ^ b % 2 = 1 := by
        rw [hb] at h; simp at h; omega
      have e : w - 2 ^ b = w / 2 ^ (b + 1) * 2 ^ (b + 1) + 0 * 2 ^ b + w % 2 ^ b := by
        conv => lhs; rw [split_]
        rw [z]; omega
      rw [e, bit_build (by decide) lo, self]
      by_cases h1 : i < b
      · rw [if_pos h1, if_pos h1, if_neg (by omega)]
      · rw [if_neg h1, if_neg h1]
        by_cases h2 : i = b
        · rw [if_pos h2, if_pos h2]; rfl
        · rw [if_neg h2, if_neg h2, if_neg h2]

end Sys2Proof.Laws
end

