-- ==== Sys2Proof/Laws/Cells.lean ====
section
/-! SUPPORT. Laws/Cells.lean: the laws of sparse data in canonical form, and of the shared memory and the dictionary's
values, which are kept in it. -/
namespace Sys2Proof.Laws

open Sys2Proof.Machine

section Cells

variable {α : Type} [DecidableEq α] {d : Nat → α}

/-- A bound on the keys may be lowered. -/
theorem wfFrom_mono {l : List (Nat × α)} : ∀ {a b : Nat}, a ≤ b → Cells.wfFrom d b l = true → Cells.wfFrom d a l = true := by
  cases l with
  | nil => intros; rfl
  | cons p rest =>
    intro a b h w
    simp only [Cells.wfFrom, Bool.and_eq_true, decide_eq_true_eq] at w ⊢
    exact ⟨⟨Nat.le_trans h w.1.1, w.1.2⟩, w.2⟩

/-- A key below the bound is not listed. -/
theorem get_below {l : List (Nat × α)} : ∀ {lo k : Nat}, Cells.wfFrom d lo l = true → k < lo → Cells.get d l k = d k := by
  induction l with
  | nil => intros; rfl
  | cons p rest ih =>
    intro lo k w h
    simp only [Cells.wfFrom, Bool.and_eq_true, decide_eq_true_eq] at w
    unfold Cells.get
    rw [if_neg (by omega)]
    exact ih w.2 (by omega)

/-- What has been put is read back. -/
theorem get_put_same {l : List (Nat × α)} {k : Nat} {v : α} : ∀ {lo : Nat}, Cells.wfFrom d lo l = true →
    Cells.get d (Cells.put d l k v) k = v := by
  induction l with
  | nil =>
    intro lo _
    unfold Cells.put
    split
    · next h => exact h.symm
    · simp [Cells.get]
  | cons p rest ih =>
    intro lo w
    have w' := w
    simp only [Cells.wfFrom, Bool.and_eq_true, decide_eq_true_eq] at w
    unfold Cells.put
    split
    · next h =>
      split
      · next e =>
        have b : Cells.wfFrom d p.1 (p :: rest) = true := by
          simp only [Cells.wfFrom, Bool.and_eq_true, decide_eq_true_eq]; exact ⟨⟨Nat.le_refl _, w.1.2⟩, w.2⟩
        exact (get_below b h).trans e.symm
      · simp [Cells.get]
    · split
      · next h e =>
        split
        · next f => exact (get_below w.2 (by omega)).trans f.symm
        · simp [Cells.get]
      · next h e =>
        unfold Cells.get
        rw [if_neg e]
        exact ih w.2

/-- Every other key reads as before. -/
theorem get_put_other {l : List (Nat × α)} {k q : Nat} {v : α} (h : q ≠ k) :
    Cells.get d (Cells.put d l k v) q = Cells.get d l q := by
  induction l with
  | nil =>
    unfold Cells.put
    split
    · rfl
    · simp [Cells.get, Ne.symm h]
  | cons p rest ih =>
    unfold Cells.put
    split
    · split
      · rfl
      · conv => lhs; unfold Cells.get
        rw [if_neg (Ne.symm h)]
    · split
      · next e =>
        split
        · conv => rhs; unfold Cells.get
          rw [if_neg (by rw [e]; exact Ne.symm h)]
        · unfold Cells.get
          rw [if_neg (Ne.symm h), if_neg (by rw [e]; exact Ne.symm h)]
      · unfold Cells.get
        rw [ih]

/-- Putting keeps the canonical form. -/
theorem wfFrom_put {l : List (Nat × α)} {k : Nat} {v : α} : ∀ {lo : Nat}, Cells.wfFrom d lo l = true → lo ≤ k →
    Cells.wfFrom d lo (Cells.put d l k v) = true := by
  induction l with
  | nil =>
    intro lo _ h
    unfold Cells.put
    split
    · rfl
    · next e => simp [Cells.wfFrom, h, e]
  | cons p rest ih =>
    intro lo w h
    have w' := w
    simp only [Cells.wfFrom, Bool.and_eq_true, decide_eq_true_eq] at w
    unfold Cells.put
    split
    · next lt =>
      split
      · exact w'
      · next e =>
        simp only [Cells.wfFrom, Bool.and_eq_true, decide_eq_true_eq]
        exact ⟨⟨h, e⟩, ⟨by omega, w.1.2⟩, w.2⟩
    · split
      · next e =>
        split
        · exact wfFrom_mono (by omega) w.2
        · next f =>
          simp only [Cells.wfFrom, Bool.and_eq_true, decide_eq_true_eq]
          exact ⟨⟨h, f⟩, e ▸ w.2⟩
      · simp only [Cells.wfFrom, Bool.and_eq_true, decide_eq_true_eq]
        exact ⟨⟨w.1.1, w.1.2⟩, ih w.2 (by omega)⟩

/-- Putting keeps the canonical form. -/
theorem wf_put {l : List (Nat × α)} {k : Nat} {v : α} (w : Cells.wf d l = true) : Cells.wf d (Cells.put d l k v) = true :=
  wfFrom_put w (Nat.zero_le k)

end Cells

/-! ### The shared memory -/

/-- Every write keeps the canonical form. -/
theorem memory_store_wf {o : Octets} : ∀ {m : List Host.Cell} {a : Nat}, Memory.wf m = true →
    Memory.wf (Memory.store m a o) = true := by
  induction o with
  | nil => intro m a w; exact w
  | cons b rest ih => intro m a w; exact ih (wf_put w)

/-- Taking entries out keeps the canonical form. -/
theorem wfFrom_filter {α : Type} [DecidableEq α] {d : Nat → α} {keep : Nat × α → Bool} {l : List (Nat × α)} :
    ∀ {lo : Nat}, Cells.wfFrom d lo l = true → Cells.wfFrom d lo (l.filter keep) = true := by
  induction l with
  | nil => intro lo w; exact w
  | cons e l ih =>
    obtain ⟨j, v⟩ := e
    intro lo w
    simp only [Cells.wfFrom, Bool.and_eq_true, decide_eq_true_eq] at w
    rw [List.filter_cons]
    split
    · simp only [Cells.wfFrom, Bool.and_eq_true, decide_eq_true_eq]
      exact ⟨w.1, ih w.2⟩
    · exact ih (wfFrom_mono (by omega) w.2)

/-- Clearing octets keeps the canonical form. -/
theorem memory_wipe_wf {m : List Host.Cell} {a n : Nat} (w : Memory.wf m = true) : Memory.wf (Memory.wipe m a n) = true :=
  wfFrom_filter w

/-- Clearing leaves every octet outside it alone, and 0 inside. -/
theorem memory_wipe_get {m : List Host.Cell} {a n q : Nat} :
    Cells.get (fun _ => (0 : Byte)) (Memory.wipe m a n) q =
      if q < a ∨ a + n ≤ q then Cells.get (fun _ => (0 : Byte)) m q else 0 := by
  induction m with
  | nil => simp [Memory.wipe, Cells.get]
  | cons e m ih =>
    obtain ⟨j, v⟩ := e
    unfold Memory.wipe at ih ⊢
    rw [List.filter_cons]
    by_cases h : j = q
    · subst h
      by_cases g : j < a ∨ a + n ≤ j
      · simp [g, Cells.get]
      · simp only [g, decide_false, Bool.false_eq_true, if_false] at ih ⊢
        exact ih
    · have r : Cells.get (fun _ => (0 : Byte)) ((j, v) :: m) q = Cells.get (fun _ => (0 : Byte)) m q := by
        simp [Cells.get, h]
      rw [r]
      split
      · rw [← ih]; simp [Cells.get, h]
      · exact ih

/-- A write leaves every octet outside it alone. -/
theorem memory_store_other {o : Octets} : ∀ {m : List Host.Cell} {a q : Nat}, (q < a ∨ a + o.length ≤ q) →
    Cells.get (fun _ => (0 : Byte)) (Memory.store m a o) q = Cells.get (fun _ => (0 : Byte)) m q := by
  induction o with
  | nil => intros; rfl
  | cons b rest ih =>
    intro m a q h
    simp only [List.length_cons] at h
    unfold Memory.store
    rw [ih (by omega), get_put_other (by omega)]

/-- A write is read back, octet by octet. -/
theorem memory_store_same {o : Octets} : ∀ {m : List Host.Cell} {a i : Nat}, Memory.wf m = true → (h : i < o.length) →
    Cells.get (fun _ => (0 : Byte)) (Memory.store m a o) (a + i) = o[i] := by
  induction o with
  | nil => intro m a i w h; exact absurd h (Nat.not_lt_zero _)
  | cons b rest ih =>
    intro m a i w h
    unfold Memory.store
    cases i with
    | zero => rw [memory_store_other (by omega)]; exact get_put_same w
    | succ n =>
      have e : a + (n + 1) = a + 1 + n := by omega
      rw [e]
      exact ih (wf_put w) (Nat.lt_of_succ_lt_succ h)

/-! ### The dictionary's values -/

variable {s : State} {k q : Nat} {v : Int}

/-- A written value is read back. -/
theorem reg_setReg (w : Cells.wf resetValue s.regs = true) : (s.setReg k v).reg k = v := get_put_same w

/-- A write leaves every other subindex alone. -/
theorem reg_setReg_other (h : q ≠ k) : (s.setReg k v).reg q = s.reg q := get_put_other h

/-- The same of a natural number. -/
theorem regN_setRegN_other {n : Nat} (h : q ≠ k) : (s.setRegN k n).regN q = s.regN q := by
  unfold State.regN State.setRegN
  rw [reg_setReg_other h]

/-- A write keeps the canonical form of the dictionary's values. -/
theorem setReg_wf (w : Cells.wf resetValue s.regs = true) : Cells.wf resetValue (s.setReg k v).regs = true := wf_put w

/-- State.reset lists nothing. -/
theorem reset_mem_wf : Memory.wf State.reset.mem = true := rfl
theorem reset_regs_wf : Cells.wf resetValue State.reset.regs = true := rfl

end Sys2Proof.Laws
end

