-- ==== Sys2Proof/Laws/Octets.lean ====
section
/-! SUPPORT. Laws/Octets.lean: what the octets of a number spell (R405). -/
namespace Sys2Proof.Laws

open Sys2Proof.Machine

/-- The octets of a number end in its low octet. -/
theorem octetsOf_succ (n v : Nat) : octetsOf (n + 1) v = octetsOf n (v / 256) ++ [BitVec.ofNat 8 v] := by
  unfold octetsOf
  rw [List.range_succ, List.map_append]
  congr 1
  · apply List.map_congr_left
    intro i hi
    have hi := List.mem_range.1 hi
    rw [show (8 * (n + 1 - 1 - i)) = 8 + 8 * (n - 1 - i) by omega, Nat.shiftRight_add, Nat.shiftRight_eq_div_pow v 8]
  · simp

/-- A number as n octets and read back is the number modulo 256ⁿ. -/
theorem numberOf_octetsOf (n v : Nat) : numberOf (octetsOf n v) = v % 256 ^ n := by
  induction n generalizing v with
  | zero => simp [octetsOf, numberOf, Nat.mod_one]
  | succ n ih =>
    have h : numberOf (octetsOf n (v / 256) ++ [BitVec.ofNat 8 v]) = numberOf (octetsOf n (v / 256)) * 256 + v % 256 := by
      simp [numberOf]
    rw [octetsOf_succ, h, ih, Nat.pow_succ, Nat.mul_comm (256 ^ n), Nat.mod_mul]
    omega

end Sys2Proof.Laws
end

