-- ==== Sys2Proof/Laws/Frame.lean ====
section
/-! SUPPORT. Laws/Frame.lean: an Aqlet frame that was built is read back as it was built (R405, R408). -/
namespace Sys2Proof.Laws

open Sys2Proof.Machine

/-- n octets spell n octets. -/
@[simp] theorem octetsOf_length (n v : Nat) : (octetsOf n v).length = n := by simp [octetsOf]

/-- A frame under a key is read as its header words, its body, its right `TAG` and the octets that the `TAG` covers. -/
theorem readFrame_frameOf (w0 w1 : Nat) (body key : Octets) (k : key.isEmpty = false)
    (n : bits (w0 % 256 ^ 8) 15 0 = body.length) :
    readFrame (frameOf w0 w1 body key) =
      { w0 := w0 % 256 ^ 8, w1 := w1 % 256 ^ 8, body := body,
        tag := tagOf key (octetsOf 8 w0 ++ octetsOf 8 w1 ++ body), signed := octetsOf 8 w0 ++ octetsOf 8 w1 ++ body } := by
  have t : frameOf w0 w1 body key =
      octetsOf 8 w0 ++ (octetsOf 8 w1 ++ (body ++ tagOf key (octetsOf 8 w0 ++ octetsOf 8 w1 ++ body))) := by
    simp only [frameOf]
    rw [if_neg (by simp [k])]
    simp only [List.append_assoc]
  have a : wordOf (frameOf w0 w1 body key) 0 = w0 % 256 ^ 8 := by
    rw [← numberOf_octetsOf]
    unfold wordOf
    rw [t, show 8 * 0 = 0 from rfl, List.drop_zero, List.take_append_of_le_length (by simp), List.take_of_length_le (by simp)]
  have b : wordOf (frameOf w0 w1 body key) 1 = w1 % 256 ^ 8 := by
    rw [← numberOf_octetsOf]
    unfold wordOf
    rw [t, show 8 * 1 = (octetsOf 8 w0).length by simp, List.drop_left, List.take_append_of_le_length (by simp),
      List.take_of_length_le (by simp)]
  have c : frameOf w0 w1 body key =
      (octetsOf 8 w0 ++ octetsOf 8 w1 ++ body) ++ tagOf key (octetsOf 8 w0 ++ octetsOf 8 w1 ++ body) := by
    rw [t]; simp only [List.append_assoc]
  have l : (octetsOf 8 w0 ++ octetsOf 8 w1 ++ body).length = 16 + body.length := by simp; omega
  have e : frameOf w0 w1 body key = (octetsOf 8 w0 ++ octetsOf 8 w1) ++
      (body ++ tagOf key (octetsOf 8 w0 ++ octetsOf 8 w1 ++ body)) := by
    rw [t]; simp only [List.append_assoc]
  have d : ((frameOf w0 w1 body key).drop 16).take body.length = body := by
    rw [e, show 16 = (octetsOf 8 w0 ++ octetsOf 8 w1).length by simp, List.drop_left, List.take_left]
  unfold readFrame
  rw [a, b, n]
  simp only [d]
  congr 1
  · rw [c, ← l, List.drop_left, tagOf, List.take_take]; rfl
  · rw [c, ← l, List.take_left]

end Sys2Proof.Laws
end

