-- ==== Sys2Proof/Laws/Raise.lean ====
section
/-! SUPPORT. Laws/Raise.lean: all that raising an event and putting a record on a ring can do. -/
namespace Sys2Proof.Laws

open Sys2Proof.Machine

/-- What of a session no event touches: its identifier, state, role, source and nonces. -/
def who (x : Session) : Nat × Bool × Nat × Path × Nat × Octets × Octets :=
  (x.id, x.isOpen, x.role, x.path, x.src, x.hostNonce, x.chipNonce)

/-- Only registers, the rings' memory, the event log and the sessions' notices may differ. -/
def Raised (s s' : State) : Prop :=
  ∃ regs mem events aqlet, s' = { s with regs := regs, mem := mem, events := events, aqlet := aqlet } ∧
    aqlet.sessions.map who = s.aqlet.sessions.map who

theorem Raised.refl (s : State) : Raised s s := ⟨s.regs, s.mem, s.events, s.aqlet, rfl, rfl⟩

theorem Raised.trans {a b c : State} (x : Raised a b) (y : Raised b c) : Raised a c := by
  obtain ⟨_, _, _, _, rfl, u⟩ := x
  obtain ⟨r, m, e, q, rfl, v⟩ := y
  exact ⟨r, m, e, q, rfl, v.trans u⟩

theorem raised_setReg (s : State) (k : Nat) (v : Int) : Raised s (s.setReg k v) := ⟨_, s.mem, s.events, s.aqlet, rfl, rfl⟩
theorem raised_incReg (s : State) (k : Nat) : Raised s (s.incReg k) := ⟨_, s.mem, s.events, s.aqlet, rfl, rfl⟩
theorem raised_store (s : State) (a : Nat) (o : Octets) : Raised s (s.store a o) :=
  ⟨s.regs, _, s.events, s.aqlet, rfl, rfl⟩
theorem raised_wipe (s : State) (a n : Nat) : Raised s (s.wipe a n) := ⟨s.regs, _, s.events, s.aqlet, rfl, rfl⟩
theorem raised_events (s : State) (e : Events) : Raised s { s with events := e } :=
  ⟨s.regs, s.mem, e, s.aqlet, rfl, rfl⟩

theorem raised_notice (s : State) (src : Nat) (w : List Nat) : Raised s (s.notice src w) := by
  refine ⟨s.regs, s.mem, s.events, _, rfl, ?_⟩
  rw [List.map_map]
  apply List.map_congr_left
  intro x _
  unfold Function.comp
  dsimp only
  split <;> rfl

theorem raised_ringPutWith {ring : Nat → Nat → State → State} (h : ∀ e d s, Raised s (ring e d s)) (r : Nat)
    (words : List Nat) (s : State) : Raised s (State.ringPutWith ring r words s) := by
  unfold State.ringPutWith
  split
  · exact Raised.refl s
  · split
    · dsimp only
      split
      · exact ((raised_incReg s _).trans (raised_events _ _)).trans (h _ _ _)
      · exact raised_incReg s _
    · dsimp only
      split
      · exact (((raised_wipe s _ _).trans (raised_store _ _ _)).trans (raised_events _ _)).trans (h _ _ _)
      · exact ((raised_wipe s _ _).trans (raised_store _ _ _)).trans (raised_events _ _)

/-- An if whose two sides leave the rest alone. -/
theorem raised_ite {s a b : State} {c : Prop} [Decidable c] (x : Raised s a) (y : Raised s b) :
    Raised s (if c then a else b) := by
  split
  · exact x
  · exact y

/-- Raising an event touches nothing else. -/
theorem raised_raiseFuel (n : Nat) : ∀ (src detail breach region : Nat) (alt : Bool) (s : State),
    Raised s (State.raiseFuel n src detail breach region alt s) := by
  induction n with
  | zero =>
    intro src detail breach region alt s
    unfold State.raiseFuel
    extract_lets s1 s2 s3 s4 routed seq r s5 e s6 beyond s7
    have h4 : Raised s s4 := raised_ite ⟨_, _, _, _, rfl, rfl⟩ ⟨_, _, _, _, rfl, rfl⟩
    have h5 : Raised s s5 := h4.trans (raised_notice _ _ _)
    exact raised_ite ((h5.trans (raised_events _ _)).trans
      (raised_ite ((raised_events s6 _).trans (raised_incReg _ _)) (Raised.refl _))) h5
  | succ n ih =>
    intro src detail breach region alt s
    unfold State.raiseFuel
    extract_lets s1 s2 s3 s4 routed seq r s5 e s6 beyond e2 s7
    have h4 : Raised s s4 := raised_ite ⟨_, _, _, _, rfl, rfl⟩ ⟨_, _, _, _, rfl, rfl⟩
    have h5 : Raised s s5 := h4.trans (raised_notice _ _ _)
    have h7 : Raised s s7 := (h5.trans (raised_events _ _)).trans
      (raised_ite ((raised_events s6 _).trans (raised_incReg _ _)) (Raised.refl _))
    have h8 := h7.trans (raised_ringPutWith (fun e d s => ih e d 0 23 false s) 9 r.words s7)
    exact raised_ite (raised_ite (h8.trans (ih _ _ _ _ _ _)) h8) h5

theorem raised_raise (s : State) (src detail breach region : Nat) (alt : Bool) :
    Raised s (s.raise src detail breach region alt) := raised_raiseFuel 4 src detail breach region alt s

theorem raised_ringPut (s : State) (r : Nat) (words : List Nat) : Raised s (s.ringPut r words) :=
  raised_ringPutWith (fun e d s => raised_raise s e d 0 23 false) r words s

/-- Taking a slot of a ring touches nothing else. -/
theorem raised_ringTake (s : State) (r : Nat) : Raised s (s.ringTake r) :=
  raised_ite (Raised.refl s) (raised_events _ _)

theorem raised_raiseLimited (s : State) (src unit detail breach region ns : Nat) (alt : Bool) :
    Raised s (s.raiseLimited src unit detail breach region ns alt) := by
  unfold State.raiseLimited
  split
  · exact Raised.refl s
  · exact (raised_events s _).trans (raised_raise _ _ _ _ _ _)

theorem raised_audit (s : State) (e : AuditEntry) : Raised s (s.audit e) := by
  unfold State.audit
  extract_lets seq r q1 s'
  refine Raised.trans ?_ (raised_ringPut _ _ _)
  exact raised_ite ⟨s.regs, s.mem, s.events, { s.aqlet with auditSeq := seq, unwritten := r :: s.aqlet.unwritten }, rfl, rfl⟩
    (Raised.trans ⟨s.regs, s.mem, s.events, { s.aqlet with auditSeq := seq }, rfl, rfl⟩ (raised_incReg _ _))

end Sys2Proof.Laws
end

