-- ==== Sys2Proof/Laws/State.lean ====
section
/-! SUPPORT. Laws/State.lean: what each field of State reads after each plain update. -/
namespace Sys2Proof.Laws

open Sys2Proof.Machine

variable (s : State)

/-! Time. -/
@[simp] theorem tick_now (t : Nat) : (s.tick t).now = max s.now t := rfl
@[simp] theorem tick_free (t : Nat) : (s.tick t).free = s.free := rfl
@[simp] theorem tick_regs (t : Nat) : (s.tick t).regs = s.regs := rfl
@[simp] theorem tick_blobs (t : Nat) : (s.tick t).blobs = s.blobs := rfl
@[simp] theorem tick_mem (t : Nat) : (s.tick t).mem = s.mem := rfl
@[simp] theorem tick_out (t : Nat) : (s.tick t).out = s.out := rfl
@[simp] theorem tick_pending (t : Nat) : (s.tick t).pending = s.pending := rfl
@[simp] theorem tick_sys (t : Nat) : (s.tick t).sys = s.sys := rfl
@[simp] theorem tick_pos (t : Nat) : (s.tick t).pos = s.pos := rfl
@[simp] theorem tick_link (t : Nat) : (s.tick t).link = s.link := rfl
@[simp] theorem tick_pageStore (t : Nat) : (s.tick t).pageStore = s.pageStore := rfl
@[simp] theorem tick_dram (t : Nat) : (s.tick t).dram = s.dram := rfl
@[simp] theorem tick_polders (t : Nat) : (s.tick t).polders = s.polders := rfl
@[simp] theorem tick_health (t : Nat) : (s.tick t).health = s.health := rfl
@[simp] theorem tick_firing (t : Nat) : (s.tick t).firing = s.firing := rfl
@[simp] theorem tick_heads (t : Nat) : (s.tick t).heads = s.heads := rfl
@[simp] theorem tick_time (t : Nat) : (s.tick t).time = s.time := rfl
@[simp] theorem tick_net (t : Nat) : (s.tick t).net = s.net := rfl
@[simp] theorem tick_aqlet (t : Nat) : (s.tick t).aqlet = s.aqlet := rfl
@[simp] theorem tick_cameras (t : Nat) : (s.tick t).cameras = s.cameras := rfl
@[simp] theorem tick_inspect (t : Nat) : (s.tick t).inspect = s.inspect := rfl
@[simp] theorem tick_light (t : Nat) : (s.tick t).light = s.light := rfl
@[simp] theorem tick_axes (t : Nat) : (s.tick t).axes = s.axes := rfl
@[simp] theorem tick_modes (t : Nat) : (s.tick t).modes = s.modes := rfl
@[simp] theorem tick_events (t : Nat) : (s.tick t).events = s.events := rfl
@[simp] theorem tick_power (t : Nat) : (s.tick t).power = s.power := rfl
@[simp] theorem tick_flash (t : Nat) : (s.tick t).flash = s.flash := rfl

/-! The end of a command. -/
@[simp] theorem sealed_now (s₀ : State) (t : Nat) : (s.sealed s₀ t).now = max s₀.now t := rfl
@[simp] theorem sealed_free (s₀ : State) (t : Nat) : (s.sealed s₀ t).free = s.free := rfl
@[simp] theorem sealed_regs (s₀ : State) (t : Nat) : (s.sealed s₀ t).regs = s.regs := rfl
@[simp] theorem sealed_blobs (s₀ : State) (t : Nat) : (s.sealed s₀ t).blobs = s.blobs := rfl
@[simp] theorem sealed_mem (s₀ : State) (t : Nat) : (s.sealed s₀ t).mem = s.mem := rfl
@[simp] theorem sealed_out (s₀ : State) (t : Nat) : (s.sealed s₀ t).out = s.out := rfl
@[simp] theorem sealed_pending (s₀ : State) (t : Nat) : (s.sealed s₀ t).pending = s₀.pending := rfl
@[simp] theorem sealed_sys (s₀ : State) (t : Nat) : (s.sealed s₀ t).sys = s.sys := rfl
@[simp] theorem sealed_pos (s₀ : State) (t : Nat) : (s.sealed s₀ t).pos = s.pos := rfl
@[simp] theorem sealed_link (s₀ : State) (t : Nat) : (s.sealed s₀ t).link = s.link := rfl
@[simp] theorem sealed_pageStore (s₀ : State) (t : Nat) : (s.sealed s₀ t).pageStore = s.pageStore := rfl
@[simp] theorem sealed_dram (s₀ : State) (t : Nat) : (s.sealed s₀ t).dram = s.dram := rfl
@[simp] theorem sealed_polders (s₀ : State) (t : Nat) : (s.sealed s₀ t).polders = s.polders := rfl
@[simp] theorem sealed_health (s₀ : State) (t : Nat) : (s.sealed s₀ t).health = s.health := rfl
@[simp] theorem sealed_firing (s₀ : State) (t : Nat) : (s.sealed s₀ t).firing = s.firing := rfl
@[simp] theorem sealed_heads (s₀ : State) (t : Nat) : (s.sealed s₀ t).heads = s.heads := rfl
@[simp] theorem sealed_time (s₀ : State) (t : Nat) : (s.sealed s₀ t).time = s.time := rfl
@[simp] theorem sealed_net (s₀ : State) (t : Nat) : (s.sealed s₀ t).net = s.net := rfl
@[simp] theorem sealed_aqlet (s₀ : State) (t : Nat) : (s.sealed s₀ t).aqlet = s.aqlet := rfl
@[simp] theorem sealed_cameras (s₀ : State) (t : Nat) : (s.sealed s₀ t).cameras = s.cameras := rfl
@[simp] theorem sealed_inspect (s₀ : State) (t : Nat) : (s.sealed s₀ t).inspect = s.inspect := rfl
@[simp] theorem sealed_light (s₀ : State) (t : Nat) : (s.sealed s₀ t).light = s.light := rfl
@[simp] theorem sealed_axes (s₀ : State) (t : Nat) : (s.sealed s₀ t).axes = s.axes := rfl
@[simp] theorem sealed_modes (s₀ : State) (t : Nat) : (s.sealed s₀ t).modes = s.modes := rfl
@[simp] theorem sealed_events (s₀ : State) (t : Nat) : (s.sealed s₀ t).events = s.events := rfl
@[simp] theorem sealed_power (s₀ : State) (t : Nat) : (s.sealed s₀ t).power = s.power := rfl
@[simp] theorem sealed_flash (s₀ : State) (t : Nat) : (s.sealed s₀ t).flash = s.flash := rfl

/-! An output. -/
@[simp] theorem emit_now (o : Out) : (s.emit o).now = s.now := rfl
@[simp] theorem emit_free (o : Out) : (s.emit o).free = s.free := rfl
@[simp] theorem emit_regs (o : Out) : (s.emit o).regs = s.regs := rfl
@[simp] theorem emit_blobs (o : Out) : (s.emit o).blobs = s.blobs := rfl
@[simp] theorem emit_mem (o : Out) : (s.emit o).mem = s.mem := rfl
@[simp] theorem emit_out (o : Out) : (s.emit o).out = o :: s.out := rfl
@[simp] theorem emit_pending (o : Out) : (s.emit o).pending = s.pending := rfl
@[simp] theorem emit_sys (o : Out) : (s.emit o).sys = s.sys := rfl
@[simp] theorem emit_pos (o : Out) : (s.emit o).pos = s.pos := rfl
@[simp] theorem emit_link (o : Out) : (s.emit o).link = s.link := rfl
@[simp] theorem emit_pageStore (o : Out) : (s.emit o).pageStore = s.pageStore := rfl
@[simp] theorem emit_dram (o : Out) : (s.emit o).dram = s.dram := rfl
@[simp] theorem emit_polders (o : Out) : (s.emit o).polders = s.polders := rfl
@[simp] theorem emit_health (o : Out) : (s.emit o).health = s.health := rfl
@[simp] theorem emit_firing (o : Out) : (s.emit o).firing = s.firing := rfl
@[simp] theorem emit_heads (o : Out) : (s.emit o).heads = s.heads := rfl
@[simp] theorem emit_time (o : Out) : (s.emit o).time = s.time := rfl
@[simp] theorem emit_net (o : Out) : (s.emit o).net = s.net := rfl
@[simp] theorem emit_aqlet (o : Out) : (s.emit o).aqlet = s.aqlet := rfl
@[simp] theorem emit_cameras (o : Out) : (s.emit o).cameras = s.cameras := rfl
@[simp] theorem emit_inspect (o : Out) : (s.emit o).inspect = s.inspect := rfl
@[simp] theorem emit_light (o : Out) : (s.emit o).light = s.light := rfl
@[simp] theorem emit_axes (o : Out) : (s.emit o).axes = s.axes := rfl
@[simp] theorem emit_modes (o : Out) : (s.emit o).modes = s.modes := rfl
@[simp] theorem emit_events (o : Out) : (s.emit o).events = s.events := rfl
@[simp] theorem emit_power (o : Out) : (s.emit o).power = s.power := rfl
@[simp] theorem emit_flash (o : Out) : (s.emit o).flash = s.flash := rfl

/-! A register. -/
@[simp] theorem setReg_now (k : Nat) (v : Int) : (s.setReg k v).now = s.now := rfl
@[simp] theorem setReg_free (k : Nat) (v : Int) : (s.setReg k v).free = s.free := rfl
@[simp] theorem setReg_regs (k : Nat) (v : Int) : (s.setReg k v).regs = Cells.put resetValue s.regs k v := rfl
@[simp] theorem setReg_blobs (k : Nat) (v : Int) : (s.setReg k v).blobs = s.blobs := rfl
@[simp] theorem setReg_mem (k : Nat) (v : Int) : (s.setReg k v).mem = s.mem := rfl
@[simp] theorem setReg_out (k : Nat) (v : Int) : (s.setReg k v).out = s.out := rfl
@[simp] theorem setReg_pending (k : Nat) (v : Int) : (s.setReg k v).pending = s.pending := rfl
@[simp] theorem setReg_sys (k : Nat) (v : Int) : (s.setReg k v).sys = s.sys := rfl
@[simp] theorem setReg_pos (k : Nat) (v : Int) : (s.setReg k v).pos = s.pos := rfl
@[simp] theorem setReg_link (k : Nat) (v : Int) : (s.setReg k v).link = s.link := rfl
@[simp] theorem setReg_pageStore (k : Nat) (v : Int) : (s.setReg k v).pageStore = s.pageStore := rfl
@[simp] theorem setReg_dram (k : Nat) (v : Int) : (s.setReg k v).dram = s.dram := rfl
@[simp] theorem setReg_polders (k : Nat) (v : Int) : (s.setReg k v).polders = s.polders := rfl
@[simp] theorem setReg_health (k : Nat) (v : Int) : (s.setReg k v).health = s.health := rfl
@[simp] theorem setReg_firing (k : Nat) (v : Int) : (s.setReg k v).firing = s.firing := rfl
@[simp] theorem setReg_heads (k : Nat) (v : Int) : (s.setReg k v).heads = s.heads := rfl
@[simp] theorem setReg_time (k : Nat) (v : Int) : (s.setReg k v).time = s.time := rfl
@[simp] theorem setReg_net (k : Nat) (v : Int) : (s.setReg k v).net = s.net := rfl
@[simp] theorem setReg_aqlet (k : Nat) (v : Int) : (s.setReg k v).aqlet = s.aqlet := rfl
@[simp] theorem setReg_cameras (k : Nat) (v : Int) : (s.setReg k v).cameras = s.cameras := rfl
@[simp] theorem setReg_inspect (k : Nat) (v : Int) : (s.setReg k v).inspect = s.inspect := rfl
@[simp] theorem setReg_light (k : Nat) (v : Int) : (s.setReg k v).light = s.light := rfl
@[simp] theorem setReg_axes (k : Nat) (v : Int) : (s.setReg k v).axes = s.axes := rfl
@[simp] theorem setReg_modes (k : Nat) (v : Int) : (s.setReg k v).modes = s.modes := rfl
@[simp] theorem setReg_events (k : Nat) (v : Int) : (s.setReg k v).events = s.events := rfl
@[simp] theorem setReg_power (k : Nat) (v : Int) : (s.setReg k v).power = s.power := rfl
@[simp] theorem setReg_flash (k : Nat) (v : Int) : (s.setReg k v).flash = s.flash := rfl

/-! A register, by a natural number. -/
@[simp] theorem setRegN_now (k v : Nat) : (s.setRegN k v).now = s.now := rfl
@[simp] theorem setRegN_free (k v : Nat) : (s.setRegN k v).free = s.free := rfl
@[simp] theorem setRegN_regs (k v : Nat) : (s.setRegN k v).regs = Cells.put resetValue s.regs k (v : Int) := rfl
@[simp] theorem setRegN_blobs (k v : Nat) : (s.setRegN k v).blobs = s.blobs := rfl
@[simp] theorem setRegN_mem (k v : Nat) : (s.setRegN k v).mem = s.mem := rfl
@[simp] theorem setRegN_out (k v : Nat) : (s.setRegN k v).out = s.out := rfl
@[simp] theorem setRegN_pending (k v : Nat) : (s.setRegN k v).pending = s.pending := rfl
@[simp] theorem setRegN_sys (k v : Nat) : (s.setRegN k v).sys = s.sys := rfl
@[simp] theorem setRegN_pos (k v : Nat) : (s.setRegN k v).pos = s.pos := rfl
@[simp] theorem setRegN_link (k v : Nat) : (s.setRegN k v).link = s.link := rfl
@[simp] theorem setRegN_pageStore (k v : Nat) : (s.setRegN k v).pageStore = s.pageStore := rfl
@[simp] theorem setRegN_dram (k v : Nat) : (s.setRegN k v).dram = s.dram := rfl
@[simp] theorem setRegN_polders (k v : Nat) : (s.setRegN k v).polders = s.polders := rfl
@[simp] theorem setRegN_health (k v : Nat) : (s.setRegN k v).health = s.health := rfl
@[simp] theorem setRegN_firing (k v : Nat) : (s.setRegN k v).firing = s.firing := rfl
@[simp] theorem setRegN_heads (k v : Nat) : (s.setRegN k v).heads = s.heads := rfl
@[simp] theorem setRegN_time (k v : Nat) : (s.setRegN k v).time = s.time := rfl
@[simp] theorem setRegN_net (k v : Nat) : (s.setRegN k v).net = s.net := rfl
@[simp] theorem setRegN_aqlet (k v : Nat) : (s.setRegN k v).aqlet = s.aqlet := rfl
@[simp] theorem setRegN_cameras (k v : Nat) : (s.setRegN k v).cameras = s.cameras := rfl
@[simp] theorem setRegN_inspect (k v : Nat) : (s.setRegN k v).inspect = s.inspect := rfl
@[simp] theorem setRegN_light (k v : Nat) : (s.setRegN k v).light = s.light := rfl
@[simp] theorem setRegN_axes (k v : Nat) : (s.setRegN k v).axes = s.axes := rfl
@[simp] theorem setRegN_modes (k v : Nat) : (s.setRegN k v).modes = s.modes := rfl
@[simp] theorem setRegN_events (k v : Nat) : (s.setRegN k v).events = s.events := rfl
@[simp] theorem setRegN_power (k v : Nat) : (s.setRegN k v).power = s.power := rfl
@[simp] theorem setRegN_flash (k v : Nat) : (s.setRegN k v).flash = s.flash := rfl

/-! A BOOLEAN register. -/
@[simp] theorem setFlag_now (k : Nat) (b : Bool) : (s.setFlag k b).now = s.now := rfl
@[simp] theorem setFlag_free (k : Nat) (b : Bool) : (s.setFlag k b).free = s.free := rfl
@[simp] theorem setFlag_regs (k : Nat) (b : Bool) : (s.setFlag k b).regs = Cells.put resetValue s.regs k (if b then 1 else 0) := rfl
@[simp] theorem setFlag_blobs (k : Nat) (b : Bool) : (s.setFlag k b).blobs = s.blobs := rfl
@[simp] theorem setFlag_mem (k : Nat) (b : Bool) : (s.setFlag k b).mem = s.mem := rfl
@[simp] theorem setFlag_out (k : Nat) (b : Bool) : (s.setFlag k b).out = s.out := rfl
@[simp] theorem setFlag_pending (k : Nat) (b : Bool) : (s.setFlag k b).pending = s.pending := rfl
@[simp] theorem setFlag_sys (k : Nat) (b : Bool) : (s.setFlag k b).sys = s.sys := rfl
@[simp] theorem setFlag_pos (k : Nat) (b : Bool) : (s.setFlag k b).pos = s.pos := rfl
@[simp] theorem setFlag_link (k : Nat) (b : Bool) : (s.setFlag k b).link = s.link := rfl
@[simp] theorem setFlag_pageStore (k : Nat) (b : Bool) : (s.setFlag k b).pageStore = s.pageStore := rfl
@[simp] theorem setFlag_dram (k : Nat) (b : Bool) : (s.setFlag k b).dram = s.dram := rfl
@[simp] theorem setFlag_polders (k : Nat) (b : Bool) : (s.setFlag k b).polders = s.polders := rfl
@[simp] theorem setFlag_health (k : Nat) (b : Bool) : (s.setFlag k b).health = s.health := rfl
@[simp] theorem setFlag_firing (k : Nat) (b : Bool) : (s.setFlag k b).firing = s.firing := rfl
@[simp] theorem setFlag_heads (k : Nat) (b : Bool) : (s.setFlag k b).heads = s.heads := rfl
@[simp] theorem setFlag_time (k : Nat) (b : Bool) : (s.setFlag k b).time = s.time := rfl
@[simp] theorem setFlag_net (k : Nat) (b : Bool) : (s.setFlag k b).net = s.net := rfl
@[simp] theorem setFlag_aqlet (k : Nat) (b : Bool) : (s.setFlag k b).aqlet = s.aqlet := rfl
@[simp] theorem setFlag_cameras (k : Nat) (b : Bool) : (s.setFlag k b).cameras = s.cameras := rfl
@[simp] theorem setFlag_inspect (k : Nat) (b : Bool) : (s.setFlag k b).inspect = s.inspect := rfl
@[simp] theorem setFlag_light (k : Nat) (b : Bool) : (s.setFlag k b).light = s.light := rfl
@[simp] theorem setFlag_axes (k : Nat) (b : Bool) : (s.setFlag k b).axes = s.axes := rfl
@[simp] theorem setFlag_modes (k : Nat) (b : Bool) : (s.setFlag k b).modes = s.modes := rfl
@[simp] theorem setFlag_events (k : Nat) (b : Bool) : (s.setFlag k b).events = s.events := rfl
@[simp] theorem setFlag_power (k : Nat) (b : Bool) : (s.setFlag k b).power = s.power := rfl
@[simp] theorem setFlag_flash (k : Nat) (b : Bool) : (s.setFlag k b).flash = s.flash := rfl

/-! A counter. -/
@[simp] theorem addReg_now (k n : Nat) : (s.addReg k n).now = s.now := rfl
@[simp] theorem addReg_free (k n : Nat) : (s.addReg k n).free = s.free := rfl
@[simp] theorem addReg_regs (k n : Nat) : (s.addReg k n).regs = Cells.put resetValue s.regs k (((s.regN k + n) % 2 ^ widthOf k : Nat) : Int) := rfl
@[simp] theorem addReg_blobs (k n : Nat) : (s.addReg k n).blobs = s.blobs := rfl
@[simp] theorem addReg_mem (k n : Nat) : (s.addReg k n).mem = s.mem := rfl
@[simp] theorem addReg_out (k n : Nat) : (s.addReg k n).out = s.out := rfl
@[simp] theorem addReg_pending (k n : Nat) : (s.addReg k n).pending = s.pending := rfl
@[simp] theorem addReg_sys (k n : Nat) : (s.addReg k n).sys = s.sys := rfl
@[simp] theorem addReg_pos (k n : Nat) : (s.addReg k n).pos = s.pos := rfl
@[simp] theorem addReg_link (k n : Nat) : (s.addReg k n).link = s.link := rfl
@[simp] theorem addReg_pageStore (k n : Nat) : (s.addReg k n).pageStore = s.pageStore := rfl
@[simp] theorem addReg_dram (k n : Nat) : (s.addReg k n).dram = s.dram := rfl
@[simp] theorem addReg_polders (k n : Nat) : (s.addReg k n).polders = s.polders := rfl
@[simp] theorem addReg_health (k n : Nat) : (s.addReg k n).health = s.health := rfl
@[simp] theorem addReg_firing (k n : Nat) : (s.addReg k n).firing = s.firing := rfl
@[simp] theorem addReg_heads (k n : Nat) : (s.addReg k n).heads = s.heads := rfl
@[simp] theorem addReg_time (k n : Nat) : (s.addReg k n).time = s.time := rfl
@[simp] theorem addReg_net (k n : Nat) : (s.addReg k n).net = s.net := rfl
@[simp] theorem addReg_aqlet (k n : Nat) : (s.addReg k n).aqlet = s.aqlet := rfl
@[simp] theorem addReg_cameras (k n : Nat) : (s.addReg k n).cameras = s.cameras := rfl
@[simp] theorem addReg_inspect (k n : Nat) : (s.addReg k n).inspect = s.inspect := rfl
@[simp] theorem addReg_light (k n : Nat) : (s.addReg k n).light = s.light := rfl
@[simp] theorem addReg_axes (k n : Nat) : (s.addReg k n).axes = s.axes := rfl
@[simp] theorem addReg_modes (k n : Nat) : (s.addReg k n).modes = s.modes := rfl
@[simp] theorem addReg_events (k n : Nat) : (s.addReg k n).events = s.events := rfl
@[simp] theorem addReg_power (k n : Nat) : (s.addReg k n).power = s.power := rfl
@[simp] theorem addReg_flash (k n : Nat) : (s.addReg k n).flash = s.flash := rfl

/-! A counter, by 1. -/
@[simp] theorem incReg_now (k : Nat) : (s.incReg k).now = s.now := rfl
@[simp] theorem incReg_free (k : Nat) : (s.incReg k).free = s.free := rfl
@[simp] theorem incReg_regs (k : Nat) : (s.incReg k).regs = Cells.put resetValue s.regs k (((s.regN k + 1) % 2 ^ widthOf k : Nat) : Int) := rfl
@[simp] theorem incReg_blobs (k : Nat) : (s.incReg k).blobs = s.blobs := rfl
@[simp] theorem incReg_mem (k : Nat) : (s.incReg k).mem = s.mem := rfl
@[simp] theorem incReg_out (k : Nat) : (s.incReg k).out = s.out := rfl
@[simp] theorem incReg_pending (k : Nat) : (s.incReg k).pending = s.pending := rfl
@[simp] theorem incReg_sys (k : Nat) : (s.incReg k).sys = s.sys := rfl
@[simp] theorem incReg_pos (k : Nat) : (s.incReg k).pos = s.pos := rfl
@[simp] theorem incReg_link (k : Nat) : (s.incReg k).link = s.link := rfl
@[simp] theorem incReg_pageStore (k : Nat) : (s.incReg k).pageStore = s.pageStore := rfl
@[simp] theorem incReg_dram (k : Nat) : (s.incReg k).dram = s.dram := rfl
@[simp] theorem incReg_polders (k : Nat) : (s.incReg k).polders = s.polders := rfl
@[simp] theorem incReg_health (k : Nat) : (s.incReg k).health = s.health := rfl
@[simp] theorem incReg_firing (k : Nat) : (s.incReg k).firing = s.firing := rfl
@[simp] theorem incReg_heads (k : Nat) : (s.incReg k).heads = s.heads := rfl
@[simp] theorem incReg_time (k : Nat) : (s.incReg k).time = s.time := rfl
@[simp] theorem incReg_net (k : Nat) : (s.incReg k).net = s.net := rfl
@[simp] theorem incReg_aqlet (k : Nat) : (s.incReg k).aqlet = s.aqlet := rfl
@[simp] theorem incReg_cameras (k : Nat) : (s.incReg k).cameras = s.cameras := rfl
@[simp] theorem incReg_inspect (k : Nat) : (s.incReg k).inspect = s.inspect := rfl
@[simp] theorem incReg_light (k : Nat) : (s.incReg k).light = s.light := rfl
@[simp] theorem incReg_axes (k : Nat) : (s.incReg k).axes = s.axes := rfl
@[simp] theorem incReg_modes (k : Nat) : (s.incReg k).modes = s.modes := rfl
@[simp] theorem incReg_events (k : Nat) : (s.incReg k).events = s.events := rfl
@[simp] theorem incReg_power (k : Nat) : (s.incReg k).power = s.power := rfl
@[simp] theorem incReg_flash (k : Nat) : (s.incReg k).flash = s.flash := rfl

/-! A bit of a register. -/
@[simp] theorem setRegBit_now (k b : Nat) (on : Bool) : (s.setRegBit k b on).now = s.now := rfl
@[simp] theorem setRegBit_free (k b : Nat) (on : Bool) : (s.setRegBit k b on).free = s.free := rfl
@[simp] theorem setRegBit_regs (k b : Nat) (on : Bool) : (s.setRegBit k b on).regs = Cells.put resetValue s.regs k ((setBit (s.regN k) b on : Nat) : Int) := rfl
@[simp] theorem setRegBit_blobs (k b : Nat) (on : Bool) : (s.setRegBit k b on).blobs = s.blobs := rfl
@[simp] theorem setRegBit_mem (k b : Nat) (on : Bool) : (s.setRegBit k b on).mem = s.mem := rfl
@[simp] theorem setRegBit_out (k b : Nat) (on : Bool) : (s.setRegBit k b on).out = s.out := rfl
@[simp] theorem setRegBit_pending (k b : Nat) (on : Bool) : (s.setRegBit k b on).pending = s.pending := rfl
@[simp] theorem setRegBit_sys (k b : Nat) (on : Bool) : (s.setRegBit k b on).sys = s.sys := rfl
@[simp] theorem setRegBit_pos (k b : Nat) (on : Bool) : (s.setRegBit k b on).pos = s.pos := rfl
@[simp] theorem setRegBit_link (k b : Nat) (on : Bool) : (s.setRegBit k b on).link = s.link := rfl
@[simp] theorem setRegBit_pageStore (k b : Nat) (on : Bool) : (s.setRegBit k b on).pageStore = s.pageStore := rfl
@[simp] theorem setRegBit_dram (k b : Nat) (on : Bool) : (s.setRegBit k b on).dram = s.dram := rfl
@[simp] theorem setRegBit_polders (k b : Nat) (on : Bool) : (s.setRegBit k b on).polders = s.polders := rfl
@[simp] theorem setRegBit_health (k b : Nat) (on : Bool) : (s.setRegBit k b on).health = s.health := rfl
@[simp] theorem setRegBit_firing (k b : Nat) (on : Bool) : (s.setRegBit k b on).firing = s.firing := rfl
@[simp] theorem setRegBit_heads (k b : Nat) (on : Bool) : (s.setRegBit k b on).heads = s.heads := rfl
@[simp] theorem setRegBit_time (k b : Nat) (on : Bool) : (s.setRegBit k b on).time = s.time := rfl
@[simp] theorem setRegBit_net (k b : Nat) (on : Bool) : (s.setRegBit k b on).net = s.net := rfl
@[simp] theorem setRegBit_aqlet (k b : Nat) (on : Bool) : (s.setRegBit k b on).aqlet = s.aqlet := rfl
@[simp] theorem setRegBit_cameras (k b : Nat) (on : Bool) : (s.setRegBit k b on).cameras = s.cameras := rfl
@[simp] theorem setRegBit_inspect (k b : Nat) (on : Bool) : (s.setRegBit k b on).inspect = s.inspect := rfl
@[simp] theorem setRegBit_light (k b : Nat) (on : Bool) : (s.setRegBit k b on).light = s.light := rfl
@[simp] theorem setRegBit_axes (k b : Nat) (on : Bool) : (s.setRegBit k b on).axes = s.axes := rfl
@[simp] theorem setRegBit_modes (k b : Nat) (on : Bool) : (s.setRegBit k b on).modes = s.modes := rfl
@[simp] theorem setRegBit_events (k b : Nat) (on : Bool) : (s.setRegBit k b on).events = s.events := rfl
@[simp] theorem setRegBit_power (k b : Nat) (on : Bool) : (s.setRegBit k b on).power = s.power := rfl
@[simp] theorem setRegBit_flash (k b : Nat) (on : Bool) : (s.setRegBit k b on).flash = s.flash := rfl

/-! A string. -/
@[simp] theorem setBlob_now (k : Nat) (o : Octets) : (s.setBlob k o).now = s.now := rfl
@[simp] theorem setBlob_free (k : Nat) (o : Octets) : (s.setBlob k o).free = s.free := rfl
@[simp] theorem setBlob_regs (k : Nat) (o : Octets) : (s.setBlob k o).regs = s.regs := rfl
@[simp] theorem setBlob_blobs (k : Nat) (o : Octets) : (s.setBlob k o).blobs = Cells.put (fun _ => []) s.blobs k o := rfl
@[simp] theorem setBlob_mem (k : Nat) (o : Octets) : (s.setBlob k o).mem = s.mem := rfl
@[simp] theorem setBlob_out (k : Nat) (o : Octets) : (s.setBlob k o).out = s.out := rfl
@[simp] theorem setBlob_pending (k : Nat) (o : Octets) : (s.setBlob k o).pending = s.pending := rfl
@[simp] theorem setBlob_sys (k : Nat) (o : Octets) : (s.setBlob k o).sys = s.sys := rfl
@[simp] theorem setBlob_pos (k : Nat) (o : Octets) : (s.setBlob k o).pos = s.pos := rfl
@[simp] theorem setBlob_link (k : Nat) (o : Octets) : (s.setBlob k o).link = s.link := rfl
@[simp] theorem setBlob_pageStore (k : Nat) (o : Octets) : (s.setBlob k o).pageStore = s.pageStore := rfl
@[simp] theorem setBlob_dram (k : Nat) (o : Octets) : (s.setBlob k o).dram = s.dram := rfl
@[simp] theorem setBlob_polders (k : Nat) (o : Octets) : (s.setBlob k o).polders = s.polders := rfl
@[simp] theorem setBlob_health (k : Nat) (o : Octets) : (s.setBlob k o).health = s.health := rfl
@[simp] theorem setBlob_firing (k : Nat) (o : Octets) : (s.setBlob k o).firing = s.firing := rfl
@[simp] theorem setBlob_heads (k : Nat) (o : Octets) : (s.setBlob k o).heads = s.heads := rfl
@[simp] theorem setBlob_time (k : Nat) (o : Octets) : (s.setBlob k o).time = s.time := rfl
@[simp] theorem setBlob_net (k : Nat) (o : Octets) : (s.setBlob k o).net = s.net := rfl
@[simp] theorem setBlob_aqlet (k : Nat) (o : Octets) : (s.setBlob k o).aqlet = s.aqlet := rfl
@[simp] theorem setBlob_cameras (k : Nat) (o : Octets) : (s.setBlob k o).cameras = s.cameras := rfl
@[simp] theorem setBlob_inspect (k : Nat) (o : Octets) : (s.setBlob k o).inspect = s.inspect := rfl
@[simp] theorem setBlob_light (k : Nat) (o : Octets) : (s.setBlob k o).light = s.light := rfl
@[simp] theorem setBlob_axes (k : Nat) (o : Octets) : (s.setBlob k o).axes = s.axes := rfl
@[simp] theorem setBlob_modes (k : Nat) (o : Octets) : (s.setBlob k o).modes = s.modes := rfl
@[simp] theorem setBlob_events (k : Nat) (o : Octets) : (s.setBlob k o).events = s.events := rfl
@[simp] theorem setBlob_power (k : Nat) (o : Octets) : (s.setBlob k o).power = s.power := rfl
@[simp] theorem setBlob_flash (k : Nat) (o : Octets) : (s.setBlob k o).flash = s.flash := rfl

/-! The shared memory. -/
@[simp] theorem store_now (a : Nat) (o : Octets) : (s.store a o).now = s.now := rfl
@[simp] theorem store_free (a : Nat) (o : Octets) : (s.store a o).free = s.free := rfl
@[simp] theorem store_regs (a : Nat) (o : Octets) : (s.store a o).regs = s.regs := rfl
@[simp] theorem store_blobs (a : Nat) (o : Octets) : (s.store a o).blobs = s.blobs := rfl
@[simp] theorem store_mem (a : Nat) (o : Octets) : (s.store a o).mem = Memory.store s.mem a o := rfl
@[simp] theorem store_out (a : Nat) (o : Octets) : (s.store a o).out = s.out := rfl
@[simp] theorem store_pending (a : Nat) (o : Octets) : (s.store a o).pending = s.pending := rfl
@[simp] theorem store_sys (a : Nat) (o : Octets) : (s.store a o).sys = s.sys := rfl
@[simp] theorem store_pos (a : Nat) (o : Octets) : (s.store a o).pos = s.pos := rfl
@[simp] theorem store_link (a : Nat) (o : Octets) : (s.store a o).link = s.link := rfl
@[simp] theorem store_pageStore (a : Nat) (o : Octets) : (s.store a o).pageStore = s.pageStore := rfl
@[simp] theorem store_dram (a : Nat) (o : Octets) : (s.store a o).dram = s.dram := rfl
@[simp] theorem store_polders (a : Nat) (o : Octets) : (s.store a o).polders = s.polders := rfl
@[simp] theorem store_health (a : Nat) (o : Octets) : (s.store a o).health = s.health := rfl
@[simp] theorem store_firing (a : Nat) (o : Octets) : (s.store a o).firing = s.firing := rfl
@[simp] theorem store_heads (a : Nat) (o : Octets) : (s.store a o).heads = s.heads := rfl
@[simp] theorem store_time (a : Nat) (o : Octets) : (s.store a o).time = s.time := rfl
@[simp] theorem store_net (a : Nat) (o : Octets) : (s.store a o).net = s.net := rfl
@[simp] theorem store_aqlet (a : Nat) (o : Octets) : (s.store a o).aqlet = s.aqlet := rfl
@[simp] theorem store_cameras (a : Nat) (o : Octets) : (s.store a o).cameras = s.cameras := rfl
@[simp] theorem store_inspect (a : Nat) (o : Octets) : (s.store a o).inspect = s.inspect := rfl
@[simp] theorem store_light (a : Nat) (o : Octets) : (s.store a o).light = s.light := rfl
@[simp] theorem store_axes (a : Nat) (o : Octets) : (s.store a o).axes = s.axes := rfl
@[simp] theorem store_modes (a : Nat) (o : Octets) : (s.store a o).modes = s.modes := rfl
@[simp] theorem store_events (a : Nat) (o : Octets) : (s.store a o).events = s.events := rfl
@[simp] theorem store_power (a : Nat) (o : Octets) : (s.store a o).power = s.power := rfl
@[simp] theorem store_flash (a : Nat) (o : Octets) : (s.store a o).flash = s.flash := rfl

/-! The shared memory, cleared. -/
@[simp] theorem wipe_now (a n : Nat) : (s.wipe a n).now = s.now := rfl
@[simp] theorem wipe_free (a n : Nat) : (s.wipe a n).free = s.free := rfl
@[simp] theorem wipe_regs (a n : Nat) : (s.wipe a n).regs = s.regs := rfl
@[simp] theorem wipe_blobs (a n : Nat) : (s.wipe a n).blobs = s.blobs := rfl
@[simp] theorem wipe_mem (a n : Nat) : (s.wipe a n).mem = Memory.wipe s.mem a n := rfl
@[simp] theorem wipe_out (a n : Nat) : (s.wipe a n).out = s.out := rfl
@[simp] theorem wipe_pending (a n : Nat) : (s.wipe a n).pending = s.pending := rfl
@[simp] theorem wipe_sys (a n : Nat) : (s.wipe a n).sys = s.sys := rfl
@[simp] theorem wipe_pos (a n : Nat) : (s.wipe a n).pos = s.pos := rfl
@[simp] theorem wipe_link (a n : Nat) : (s.wipe a n).link = s.link := rfl
@[simp] theorem wipe_pageStore (a n : Nat) : (s.wipe a n).pageStore = s.pageStore := rfl
@[simp] theorem wipe_dram (a n : Nat) : (s.wipe a n).dram = s.dram := rfl
@[simp] theorem wipe_polders (a n : Nat) : (s.wipe a n).polders = s.polders := rfl
@[simp] theorem wipe_health (a n : Nat) : (s.wipe a n).health = s.health := rfl
@[simp] theorem wipe_firing (a n : Nat) : (s.wipe a n).firing = s.firing := rfl
@[simp] theorem wipe_heads (a n : Nat) : (s.wipe a n).heads = s.heads := rfl
@[simp] theorem wipe_time (a n : Nat) : (s.wipe a n).time = s.time := rfl
@[simp] theorem wipe_net (a n : Nat) : (s.wipe a n).net = s.net := rfl
@[simp] theorem wipe_aqlet (a n : Nat) : (s.wipe a n).aqlet = s.aqlet := rfl
@[simp] theorem wipe_cameras (a n : Nat) : (s.wipe a n).cameras = s.cameras := rfl
@[simp] theorem wipe_inspect (a n : Nat) : (s.wipe a n).inspect = s.inspect := rfl
@[simp] theorem wipe_light (a n : Nat) : (s.wipe a n).light = s.light := rfl
@[simp] theorem wipe_axes (a n : Nat) : (s.wipe a n).axes = s.axes := rfl
@[simp] theorem wipe_modes (a n : Nat) : (s.wipe a n).modes = s.modes := rfl
@[simp] theorem wipe_events (a n : Nat) : (s.wipe a n).events = s.events := rfl
@[simp] theorem wipe_power (a n : Nat) : (s.wipe a n).power = s.power := rfl
@[simp] theorem wipe_flash (a n : Nat) : (s.wipe a n).flash = s.flash := rfl

/-! A rate limit. -/
@[simp] theorem noteLimit_now (k : Nat) : (s.noteLimit k).now = s.now := rfl
@[simp] theorem noteLimit_free (k : Nat) : (s.noteLimit k).free = s.free := rfl
@[simp] theorem noteLimit_regs (k : Nat) : (s.noteLimit k).regs = s.regs := rfl
@[simp] theorem noteLimit_blobs (k : Nat) : (s.noteLimit k).blobs = s.blobs := rfl
@[simp] theorem noteLimit_mem (k : Nat) : (s.noteLimit k).mem = s.mem := rfl
@[simp] theorem noteLimit_out (k : Nat) : (s.noteLimit k).out = s.out := rfl
@[simp] theorem noteLimit_pending (k : Nat) : (s.noteLimit k).pending = s.pending := rfl
@[simp] theorem noteLimit_sys (k : Nat) : (s.noteLimit k).sys = s.sys := rfl
@[simp] theorem noteLimit_pos (k : Nat) : (s.noteLimit k).pos = s.pos := rfl
@[simp] theorem noteLimit_link (k : Nat) : (s.noteLimit k).link = s.link := rfl
@[simp] theorem noteLimit_pageStore (k : Nat) : (s.noteLimit k).pageStore = s.pageStore := rfl
@[simp] theorem noteLimit_dram (k : Nat) : (s.noteLimit k).dram = s.dram := rfl
@[simp] theorem noteLimit_polders (k : Nat) : (s.noteLimit k).polders = s.polders := rfl
@[simp] theorem noteLimit_health (k : Nat) : (s.noteLimit k).health = s.health := rfl
@[simp] theorem noteLimit_firing (k : Nat) : (s.noteLimit k).firing = s.firing := rfl
@[simp] theorem noteLimit_heads (k : Nat) : (s.noteLimit k).heads = s.heads := rfl
@[simp] theorem noteLimit_time (k : Nat) : (s.noteLimit k).time = s.time := rfl
@[simp] theorem noteLimit_net (k : Nat) : (s.noteLimit k).net = s.net := rfl
@[simp] theorem noteLimit_aqlet (k : Nat) : (s.noteLimit k).aqlet = s.aqlet := rfl
@[simp] theorem noteLimit_cameras (k : Nat) : (s.noteLimit k).cameras = s.cameras := rfl
@[simp] theorem noteLimit_inspect (k : Nat) : (s.noteLimit k).inspect = s.inspect := rfl
@[simp] theorem noteLimit_light (k : Nat) : (s.noteLimit k).light = s.light := rfl
@[simp] theorem noteLimit_axes (k : Nat) : (s.noteLimit k).axes = s.axes := rfl
@[simp] theorem noteLimit_modes (k : Nat) : (s.noteLimit k).modes = s.modes := rfl
@[simp] theorem noteLimit_events (k : Nat) : (s.noteLimit k).events = { s.events with limits := (k, s.now) :: s.events.limits.filter fun p => decide (p.1 ≠ k) } := rfl
@[simp] theorem noteLimit_power (k : Nat) : (s.noteLimit k).power = s.power := rfl
@[simp] theorem noteLimit_flash (k : Nat) : (s.noteLimit k).flash = s.flash := rfl

/-! The raster link. -/
@[simp] theorem withLink_now (f : Link → Link) : (s.withLink f).now = s.now := rfl
@[simp] theorem withLink_free (f : Link → Link) : (s.withLink f).free = s.free := rfl
@[simp] theorem withLink_regs (f : Link → Link) : (s.withLink f).regs = s.regs := rfl
@[simp] theorem withLink_blobs (f : Link → Link) : (s.withLink f).blobs = s.blobs := rfl
@[simp] theorem withLink_mem (f : Link → Link) : (s.withLink f).mem = s.mem := rfl
@[simp] theorem withLink_out (f : Link → Link) : (s.withLink f).out = s.out := rfl
@[simp] theorem withLink_pending (f : Link → Link) : (s.withLink f).pending = s.pending := rfl
@[simp] theorem withLink_sys (f : Link → Link) : (s.withLink f).sys = s.sys := rfl
@[simp] theorem withLink_pos (f : Link → Link) : (s.withLink f).pos = s.pos := rfl
@[simp] theorem withLink_link (f : Link → Link) : (s.withLink f).link = f s.link := rfl
@[simp] theorem withLink_pageStore (f : Link → Link) : (s.withLink f).pageStore = s.pageStore := rfl
@[simp] theorem withLink_dram (f : Link → Link) : (s.withLink f).dram = s.dram := rfl
@[simp] theorem withLink_polders (f : Link → Link) : (s.withLink f).polders = s.polders := rfl
@[simp] theorem withLink_health (f : Link → Link) : (s.withLink f).health = s.health := rfl
@[simp] theorem withLink_firing (f : Link → Link) : (s.withLink f).firing = s.firing := rfl
@[simp] theorem withLink_heads (f : Link → Link) : (s.withLink f).heads = s.heads := rfl
@[simp] theorem withLink_time (f : Link → Link) : (s.withLink f).time = s.time := rfl
@[simp] theorem withLink_net (f : Link → Link) : (s.withLink f).net = s.net := rfl
@[simp] theorem withLink_aqlet (f : Link → Link) : (s.withLink f).aqlet = s.aqlet := rfl
@[simp] theorem withLink_cameras (f : Link → Link) : (s.withLink f).cameras = s.cameras := rfl
@[simp] theorem withLink_inspect (f : Link → Link) : (s.withLink f).inspect = s.inspect := rfl
@[simp] theorem withLink_light (f : Link → Link) : (s.withLink f).light = s.light := rfl
@[simp] theorem withLink_axes (f : Link → Link) : (s.withLink f).axes = s.axes := rfl
@[simp] theorem withLink_modes (f : Link → Link) : (s.withLink f).modes = s.modes := rfl
@[simp] theorem withLink_events (f : Link → Link) : (s.withLink f).events = s.events := rfl
@[simp] theorem withLink_power (f : Link → Link) : (s.withLink f).power = s.power := rfl
@[simp] theorem withLink_flash (f : Link → Link) : (s.withLink f).flash = s.flash := rfl

/-! The lanes. -/
@[simp] theorem withLanes_now (f : Lanes → Lanes) : (s.withLanes f).now = s.now := rfl
@[simp] theorem withLanes_free (f : Lanes → Lanes) : (s.withLanes f).free = s.free := rfl
@[simp] theorem withLanes_regs (f : Lanes → Lanes) : (s.withLanes f).regs = s.regs := rfl
@[simp] theorem withLanes_blobs (f : Lanes → Lanes) : (s.withLanes f).blobs = s.blobs := rfl
@[simp] theorem withLanes_mem (f : Lanes → Lanes) : (s.withLanes f).mem = s.mem := rfl
@[simp] theorem withLanes_out (f : Lanes → Lanes) : (s.withLanes f).out = s.out := rfl
@[simp] theorem withLanes_pending (f : Lanes → Lanes) : (s.withLanes f).pending = s.pending := rfl
@[simp] theorem withLanes_sys (f : Lanes → Lanes) : (s.withLanes f).sys = s.sys := rfl
@[simp] theorem withLanes_pos (f : Lanes → Lanes) : (s.withLanes f).pos = s.pos := rfl
@[simp] theorem withLanes_link (f : Lanes → Lanes) : (s.withLanes f).link = { s.link with lanes := f s.link.lanes } := rfl
@[simp] theorem withLanes_pageStore (f : Lanes → Lanes) : (s.withLanes f).pageStore = s.pageStore := rfl
@[simp] theorem withLanes_dram (f : Lanes → Lanes) : (s.withLanes f).dram = s.dram := rfl
@[simp] theorem withLanes_polders (f : Lanes → Lanes) : (s.withLanes f).polders = s.polders := rfl
@[simp] theorem withLanes_health (f : Lanes → Lanes) : (s.withLanes f).health = s.health := rfl
@[simp] theorem withLanes_firing (f : Lanes → Lanes) : (s.withLanes f).firing = s.firing := rfl
@[simp] theorem withLanes_heads (f : Lanes → Lanes) : (s.withLanes f).heads = s.heads := rfl
@[simp] theorem withLanes_time (f : Lanes → Lanes) : (s.withLanes f).time = s.time := rfl
@[simp] theorem withLanes_net (f : Lanes → Lanes) : (s.withLanes f).net = s.net := rfl
@[simp] theorem withLanes_aqlet (f : Lanes → Lanes) : (s.withLanes f).aqlet = s.aqlet := rfl
@[simp] theorem withLanes_cameras (f : Lanes → Lanes) : (s.withLanes f).cameras = s.cameras := rfl
@[simp] theorem withLanes_inspect (f : Lanes → Lanes) : (s.withLanes f).inspect = s.inspect := rfl
@[simp] theorem withLanes_light (f : Lanes → Lanes) : (s.withLanes f).light = s.light := rfl
@[simp] theorem withLanes_axes (f : Lanes → Lanes) : (s.withLanes f).axes = s.axes := rfl
@[simp] theorem withLanes_modes (f : Lanes → Lanes) : (s.withLanes f).modes = s.modes := rfl
@[simp] theorem withLanes_events (f : Lanes → Lanes) : (s.withLanes f).events = s.events := rfl
@[simp] theorem withLanes_power (f : Lanes → Lanes) : (s.withLanes f).power = s.power := rfl
@[simp] theorem withLanes_flash (f : Lanes → Lanes) : (s.withLanes f).flash = s.flash := rfl

/-! A lane. -/
@[simp] theorem withUnit_now (n : Nat) (f : Lane → Lane) : (s.withUnit n f).now = s.now := rfl
@[simp] theorem withUnit_free (n : Nat) (f : Lane → Lane) : (s.withUnit n f).free = s.free := rfl
@[simp] theorem withUnit_regs (n : Nat) (f : Lane → Lane) : (s.withUnit n f).regs = s.regs := rfl
@[simp] theorem withUnit_blobs (n : Nat) (f : Lane → Lane) : (s.withUnit n f).blobs = s.blobs := rfl
@[simp] theorem withUnit_mem (n : Nat) (f : Lane → Lane) : (s.withUnit n f).mem = s.mem := rfl
@[simp] theorem withUnit_out (n : Nat) (f : Lane → Lane) : (s.withUnit n f).out = s.out := rfl
@[simp] theorem withUnit_pending (n : Nat) (f : Lane → Lane) : (s.withUnit n f).pending = s.pending := rfl
@[simp] theorem withUnit_sys (n : Nat) (f : Lane → Lane) : (s.withUnit n f).sys = s.sys := rfl
@[simp] theorem withUnit_pos (n : Nat) (f : Lane → Lane) : (s.withUnit n f).pos = s.pos := rfl
@[simp] theorem withUnit_link (n : Nat) (f : Lane → Lane) : (s.withUnit n f).link = { s.link with lanes := { s.link.lanes with units := s.link.lanes.units.modify n f } } := rfl
@[simp] theorem withUnit_pageStore (n : Nat) (f : Lane → Lane) : (s.withUnit n f).pageStore = s.pageStore := rfl
@[simp] theorem withUnit_dram (n : Nat) (f : Lane → Lane) : (s.withUnit n f).dram = s.dram := rfl
@[simp] theorem withUnit_polders (n : Nat) (f : Lane → Lane) : (s.withUnit n f).polders = s.polders := rfl
@[simp] theorem withUnit_health (n : Nat) (f : Lane → Lane) : (s.withUnit n f).health = s.health := rfl
@[simp] theorem withUnit_firing (n : Nat) (f : Lane → Lane) : (s.withUnit n f).firing = s.firing := rfl
@[simp] theorem withUnit_heads (n : Nat) (f : Lane → Lane) : (s.withUnit n f).heads = s.heads := rfl
@[simp] theorem withUnit_time (n : Nat) (f : Lane → Lane) : (s.withUnit n f).time = s.time := rfl
@[simp] theorem withUnit_net (n : Nat) (f : Lane → Lane) : (s.withUnit n f).net = s.net := rfl
@[simp] theorem withUnit_aqlet (n : Nat) (f : Lane → Lane) : (s.withUnit n f).aqlet = s.aqlet := rfl
@[simp] theorem withUnit_cameras (n : Nat) (f : Lane → Lane) : (s.withUnit n f).cameras = s.cameras := rfl
@[simp] theorem withUnit_inspect (n : Nat) (f : Lane → Lane) : (s.withUnit n f).inspect = s.inspect := rfl
@[simp] theorem withUnit_light (n : Nat) (f : Lane → Lane) : (s.withUnit n f).light = s.light := rfl
@[simp] theorem withUnit_axes (n : Nat) (f : Lane → Lane) : (s.withUnit n f).axes = s.axes := rfl
@[simp] theorem withUnit_modes (n : Nat) (f : Lane → Lane) : (s.withUnit n f).modes = s.modes := rfl
@[simp] theorem withUnit_events (n : Nat) (f : Lane → Lane) : (s.withUnit n f).events = s.events := rfl
@[simp] theorem withUnit_power (n : Nat) (f : Lane → Lane) : (s.withUnit n f).power = s.power := rfl
@[simp] theorem withUnit_flash (n : Nat) (f : Lane → Lane) : (s.withUnit n f).flash = s.flash := rfl

/-! The page store. -/
@[simp] theorem withPages_now (f : PageStore → PageStore) : (s.withPages f).now = s.now := rfl
@[simp] theorem withPages_free (f : PageStore → PageStore) : (s.withPages f).free = s.free := rfl
@[simp] theorem withPages_regs (f : PageStore → PageStore) : (s.withPages f).regs = s.regs := rfl
@[simp] theorem withPages_blobs (f : PageStore → PageStore) : (s.withPages f).blobs = s.blobs := rfl
@[simp] theorem withPages_mem (f : PageStore → PageStore) : (s.withPages f).mem = s.mem := rfl
@[simp] theorem withPages_out (f : PageStore → PageStore) : (s.withPages f).out = s.out := rfl
@[simp] theorem withPages_pending (f : PageStore → PageStore) : (s.withPages f).pending = s.pending := rfl
@[simp] theorem withPages_sys (f : PageStore → PageStore) : (s.withPages f).sys = s.sys := rfl
@[simp] theorem withPages_pos (f : PageStore → PageStore) : (s.withPages f).pos = s.pos := rfl
@[simp] theorem withPages_link (f : PageStore → PageStore) : (s.withPages f).link = s.link := rfl
@[simp] theorem withPages_pageStore (f : PageStore → PageStore) : (s.withPages f).pageStore = f s.pageStore := rfl
@[simp] theorem withPages_dram (f : PageStore → PageStore) : (s.withPages f).dram = s.dram := rfl
@[simp] theorem withPages_polders (f : PageStore → PageStore) : (s.withPages f).polders = s.polders := rfl
@[simp] theorem withPages_health (f : PageStore → PageStore) : (s.withPages f).health = s.health := rfl
@[simp] theorem withPages_firing (f : PageStore → PageStore) : (s.withPages f).firing = s.firing := rfl
@[simp] theorem withPages_heads (f : PageStore → PageStore) : (s.withPages f).heads = s.heads := rfl
@[simp] theorem withPages_time (f : PageStore → PageStore) : (s.withPages f).time = s.time := rfl
@[simp] theorem withPages_net (f : PageStore → PageStore) : (s.withPages f).net = s.net := rfl
@[simp] theorem withPages_aqlet (f : PageStore → PageStore) : (s.withPages f).aqlet = s.aqlet := rfl
@[simp] theorem withPages_cameras (f : PageStore → PageStore) : (s.withPages f).cameras = s.cameras := rfl
@[simp] theorem withPages_inspect (f : PageStore → PageStore) : (s.withPages f).inspect = s.inspect := rfl
@[simp] theorem withPages_light (f : PageStore → PageStore) : (s.withPages f).light = s.light := rfl
@[simp] theorem withPages_axes (f : PageStore → PageStore) : (s.withPages f).axes = s.axes := rfl
@[simp] theorem withPages_modes (f : PageStore → PageStore) : (s.withPages f).modes = s.modes := rfl
@[simp] theorem withPages_events (f : PageStore → PageStore) : (s.withPages f).events = s.events := rfl
@[simp] theorem withPages_power (f : PageStore → PageStore) : (s.withPages f).power = s.power := rfl
@[simp] theorem withPages_flash (f : PageStore → PageStore) : (s.withPages f).flash = s.flash := rfl

/-! The DRAM. -/
@[simp] theorem withDram_now (f : Dram → Dram) : (s.withDram f).now = s.now := rfl
@[simp] theorem withDram_free (f : Dram → Dram) : (s.withDram f).free = s.free := rfl
@[simp] theorem withDram_regs (f : Dram → Dram) : (s.withDram f).regs = s.regs := rfl
@[simp] theorem withDram_blobs (f : Dram → Dram) : (s.withDram f).blobs = s.blobs := rfl
@[simp] theorem withDram_mem (f : Dram → Dram) : (s.withDram f).mem = s.mem := rfl
@[simp] theorem withDram_out (f : Dram → Dram) : (s.withDram f).out = s.out := rfl
@[simp] theorem withDram_pending (f : Dram → Dram) : (s.withDram f).pending = s.pending := rfl
@[simp] theorem withDram_sys (f : Dram → Dram) : (s.withDram f).sys = s.sys := rfl
@[simp] theorem withDram_pos (f : Dram → Dram) : (s.withDram f).pos = s.pos := rfl
@[simp] theorem withDram_link (f : Dram → Dram) : (s.withDram f).link = s.link := rfl
@[simp] theorem withDram_pageStore (f : Dram → Dram) : (s.withDram f).pageStore = s.pageStore := rfl
@[simp] theorem withDram_dram (f : Dram → Dram) : (s.withDram f).dram = f s.dram := rfl
@[simp] theorem withDram_polders (f : Dram → Dram) : (s.withDram f).polders = s.polders := rfl
@[simp] theorem withDram_health (f : Dram → Dram) : (s.withDram f).health = s.health := rfl
@[simp] theorem withDram_firing (f : Dram → Dram) : (s.withDram f).firing = s.firing := rfl
@[simp] theorem withDram_heads (f : Dram → Dram) : (s.withDram f).heads = s.heads := rfl
@[simp] theorem withDram_time (f : Dram → Dram) : (s.withDram f).time = s.time := rfl
@[simp] theorem withDram_net (f : Dram → Dram) : (s.withDram f).net = s.net := rfl
@[simp] theorem withDram_aqlet (f : Dram → Dram) : (s.withDram f).aqlet = s.aqlet := rfl
@[simp] theorem withDram_cameras (f : Dram → Dram) : (s.withDram f).cameras = s.cameras := rfl
@[simp] theorem withDram_inspect (f : Dram → Dram) : (s.withDram f).inspect = s.inspect := rfl
@[simp] theorem withDram_light (f : Dram → Dram) : (s.withDram f).light = s.light := rfl
@[simp] theorem withDram_axes (f : Dram → Dram) : (s.withDram f).axes = s.axes := rfl
@[simp] theorem withDram_modes (f : Dram → Dram) : (s.withDram f).modes = s.modes := rfl
@[simp] theorem withDram_events (f : Dram → Dram) : (s.withDram f).events = s.events := rfl
@[simp] theorem withDram_power (f : Dram → Dram) : (s.withDram f).power = s.power := rfl
@[simp] theorem withDram_flash (f : Dram → Dram) : (s.withDram f).flash = s.flash := rfl

/-! The polders. -/
@[simp] theorem withPolders_now (f : Polders → Polders) : (s.withPolders f).now = s.now := rfl
@[simp] theorem withPolders_free (f : Polders → Polders) : (s.withPolders f).free = s.free := rfl
@[simp] theorem withPolders_regs (f : Polders → Polders) : (s.withPolders f).regs = s.regs := rfl
@[simp] theorem withPolders_blobs (f : Polders → Polders) : (s.withPolders f).blobs = s.blobs := rfl
@[simp] theorem withPolders_mem (f : Polders → Polders) : (s.withPolders f).mem = s.mem := rfl
@[simp] theorem withPolders_out (f : Polders → Polders) : (s.withPolders f).out = s.out := rfl
@[simp] theorem withPolders_pending (f : Polders → Polders) : (s.withPolders f).pending = s.pending := rfl
@[simp] theorem withPolders_sys (f : Polders → Polders) : (s.withPolders f).sys = s.sys := rfl
@[simp] theorem withPolders_pos (f : Polders → Polders) : (s.withPolders f).pos = s.pos := rfl
@[simp] theorem withPolders_link (f : Polders → Polders) : (s.withPolders f).link = s.link := rfl
@[simp] theorem withPolders_pageStore (f : Polders → Polders) : (s.withPolders f).pageStore = s.pageStore := rfl
@[simp] theorem withPolders_dram (f : Polders → Polders) : (s.withPolders f).dram = s.dram := rfl
@[simp] theorem withPolders_polders (f : Polders → Polders) : (s.withPolders f).polders = f s.polders := rfl
@[simp] theorem withPolders_health (f : Polders → Polders) : (s.withPolders f).health = s.health := rfl
@[simp] theorem withPolders_firing (f : Polders → Polders) : (s.withPolders f).firing = s.firing := rfl
@[simp] theorem withPolders_heads (f : Polders → Polders) : (s.withPolders f).heads = s.heads := rfl
@[simp] theorem withPolders_time (f : Polders → Polders) : (s.withPolders f).time = s.time := rfl
@[simp] theorem withPolders_net (f : Polders → Polders) : (s.withPolders f).net = s.net := rfl
@[simp] theorem withPolders_aqlet (f : Polders → Polders) : (s.withPolders f).aqlet = s.aqlet := rfl
@[simp] theorem withPolders_cameras (f : Polders → Polders) : (s.withPolders f).cameras = s.cameras := rfl
@[simp] theorem withPolders_inspect (f : Polders → Polders) : (s.withPolders f).inspect = s.inspect := rfl
@[simp] theorem withPolders_light (f : Polders → Polders) : (s.withPolders f).light = s.light := rfl
@[simp] theorem withPolders_axes (f : Polders → Polders) : (s.withPolders f).axes = s.axes := rfl
@[simp] theorem withPolders_modes (f : Polders → Polders) : (s.withPolders f).modes = s.modes := rfl
@[simp] theorem withPolders_events (f : Polders → Polders) : (s.withPolders f).events = s.events := rfl
@[simp] theorem withPolders_power (f : Polders → Polders) : (s.withPolders f).power = s.power := rfl
@[simp] theorem withPolders_flash (f : Polders → Polders) : (s.withPolders f).flash = s.flash := rfl

/-! Nozzle health. -/
@[simp] theorem withHealth_now (f : Health → Health) : (s.withHealth f).now = s.now := rfl
@[simp] theorem withHealth_free (f : Health → Health) : (s.withHealth f).free = s.free := rfl
@[simp] theorem withHealth_regs (f : Health → Health) : (s.withHealth f).regs = s.regs := rfl
@[simp] theorem withHealth_blobs (f : Health → Health) : (s.withHealth f).blobs = s.blobs := rfl
@[simp] theorem withHealth_mem (f : Health → Health) : (s.withHealth f).mem = s.mem := rfl
@[simp] theorem withHealth_out (f : Health → Health) : (s.withHealth f).out = s.out := rfl
@[simp] theorem withHealth_pending (f : Health → Health) : (s.withHealth f).pending = s.pending := rfl
@[simp] theorem withHealth_sys (f : Health → Health) : (s.withHealth f).sys = s.sys := rfl
@[simp] theorem withHealth_pos (f : Health → Health) : (s.withHealth f).pos = s.pos := rfl
@[simp] theorem withHealth_link (f : Health → Health) : (s.withHealth f).link = s.link := rfl
@[simp] theorem withHealth_pageStore (f : Health → Health) : (s.withHealth f).pageStore = s.pageStore := rfl
@[simp] theorem withHealth_dram (f : Health → Health) : (s.withHealth f).dram = s.dram := rfl
@[simp] theorem withHealth_polders (f : Health → Health) : (s.withHealth f).polders = s.polders := rfl
@[simp] theorem withHealth_health (f : Health → Health) : (s.withHealth f).health = f s.health := rfl
@[simp] theorem withHealth_firing (f : Health → Health) : (s.withHealth f).firing = s.firing := rfl
@[simp] theorem withHealth_heads (f : Health → Health) : (s.withHealth f).heads = s.heads := rfl
@[simp] theorem withHealth_time (f : Health → Health) : (s.withHealth f).time = s.time := rfl
@[simp] theorem withHealth_net (f : Health → Health) : (s.withHealth f).net = s.net := rfl
@[simp] theorem withHealth_aqlet (f : Health → Health) : (s.withHealth f).aqlet = s.aqlet := rfl
@[simp] theorem withHealth_cameras (f : Health → Health) : (s.withHealth f).cameras = s.cameras := rfl
@[simp] theorem withHealth_inspect (f : Health → Health) : (s.withHealth f).inspect = s.inspect := rfl
@[simp] theorem withHealth_light (f : Health → Health) : (s.withHealth f).light = s.light := rfl
@[simp] theorem withHealth_axes (f : Health → Health) : (s.withHealth f).axes = s.axes := rfl
@[simp] theorem withHealth_modes (f : Health → Health) : (s.withHealth f).modes = s.modes := rfl
@[simp] theorem withHealth_events (f : Health → Health) : (s.withHealth f).events = s.events := rfl
@[simp] theorem withHealth_power (f : Health → Health) : (s.withHealth f).power = s.power := rfl
@[simp] theorem withHealth_flash (f : Health → Health) : (s.withHealth f).flash = s.flash := rfl

/-! The head links. -/
@[simp] theorem withHeads_now (f : Heads → Heads) : (s.withHeads f).now = s.now := rfl
@[simp] theorem withHeads_free (f : Heads → Heads) : (s.withHeads f).free = s.free := rfl
@[simp] theorem withHeads_regs (f : Heads → Heads) : (s.withHeads f).regs = s.regs := rfl
@[simp] theorem withHeads_blobs (f : Heads → Heads) : (s.withHeads f).blobs = s.blobs := rfl
@[simp] theorem withHeads_mem (f : Heads → Heads) : (s.withHeads f).mem = s.mem := rfl
@[simp] theorem withHeads_out (f : Heads → Heads) : (s.withHeads f).out = s.out := rfl
@[simp] theorem withHeads_pending (f : Heads → Heads) : (s.withHeads f).pending = s.pending := rfl
@[simp] theorem withHeads_sys (f : Heads → Heads) : (s.withHeads f).sys = s.sys := rfl
@[simp] theorem withHeads_pos (f : Heads → Heads) : (s.withHeads f).pos = s.pos := rfl
@[simp] theorem withHeads_link (f : Heads → Heads) : (s.withHeads f).link = s.link := rfl
@[simp] theorem withHeads_pageStore (f : Heads → Heads) : (s.withHeads f).pageStore = s.pageStore := rfl
@[simp] theorem withHeads_dram (f : Heads → Heads) : (s.withHeads f).dram = s.dram := rfl
@[simp] theorem withHeads_polders (f : Heads → Heads) : (s.withHeads f).polders = s.polders := rfl
@[simp] theorem withHeads_health (f : Heads → Heads) : (s.withHeads f).health = s.health := rfl
@[simp] theorem withHeads_firing (f : Heads → Heads) : (s.withHeads f).firing = s.firing := rfl
@[simp] theorem withHeads_heads (f : Heads → Heads) : (s.withHeads f).heads = f s.heads := rfl
@[simp] theorem withHeads_time (f : Heads → Heads) : (s.withHeads f).time = s.time := rfl
@[simp] theorem withHeads_net (f : Heads → Heads) : (s.withHeads f).net = s.net := rfl
@[simp] theorem withHeads_aqlet (f : Heads → Heads) : (s.withHeads f).aqlet = s.aqlet := rfl
@[simp] theorem withHeads_cameras (f : Heads → Heads) : (s.withHeads f).cameras = s.cameras := rfl
@[simp] theorem withHeads_inspect (f : Heads → Heads) : (s.withHeads f).inspect = s.inspect := rfl
@[simp] theorem withHeads_light (f : Heads → Heads) : (s.withHeads f).light = s.light := rfl
@[simp] theorem withHeads_axes (f : Heads → Heads) : (s.withHeads f).axes = s.axes := rfl
@[simp] theorem withHeads_modes (f : Heads → Heads) : (s.withHeads f).modes = s.modes := rfl
@[simp] theorem withHeads_events (f : Heads → Heads) : (s.withHeads f).events = s.events := rfl
@[simp] theorem withHeads_power (f : Heads → Heads) : (s.withHeads f).power = s.power := rfl
@[simp] theorem withHeads_flash (f : Heads → Heads) : (s.withHeads f).flash = s.flash := rfl

/-! Inspection. -/
@[simp] theorem withInspect_now (f : Inspection → Inspection) : (s.withInspect f).now = s.now := rfl
@[simp] theorem withInspect_free (f : Inspection → Inspection) : (s.withInspect f).free = s.free := rfl
@[simp] theorem withInspect_regs (f : Inspection → Inspection) : (s.withInspect f).regs = s.regs := rfl
@[simp] theorem withInspect_blobs (f : Inspection → Inspection) : (s.withInspect f).blobs = s.blobs := rfl
@[simp] theorem withInspect_mem (f : Inspection → Inspection) : (s.withInspect f).mem = s.mem := rfl
@[simp] theorem withInspect_out (f : Inspection → Inspection) : (s.withInspect f).out = s.out := rfl
@[simp] theorem withInspect_pending (f : Inspection → Inspection) : (s.withInspect f).pending = s.pending := rfl
@[simp] theorem withInspect_sys (f : Inspection → Inspection) : (s.withInspect f).sys = s.sys := rfl
@[simp] theorem withInspect_pos (f : Inspection → Inspection) : (s.withInspect f).pos = s.pos := rfl
@[simp] theorem withInspect_link (f : Inspection → Inspection) : (s.withInspect f).link = s.link := rfl
@[simp] theorem withInspect_pageStore (f : Inspection → Inspection) : (s.withInspect f).pageStore = s.pageStore := rfl
@[simp] theorem withInspect_dram (f : Inspection → Inspection) : (s.withInspect f).dram = s.dram := rfl
@[simp] theorem withInspect_polders (f : Inspection → Inspection) : (s.withInspect f).polders = s.polders := rfl
@[simp] theorem withInspect_health (f : Inspection → Inspection) : (s.withInspect f).health = s.health := rfl
@[simp] theorem withInspect_firing (f : Inspection → Inspection) : (s.withInspect f).firing = s.firing := rfl
@[simp] theorem withInspect_heads (f : Inspection → Inspection) : (s.withInspect f).heads = s.heads := rfl
@[simp] theorem withInspect_time (f : Inspection → Inspection) : (s.withInspect f).time = s.time := rfl
@[simp] theorem withInspect_net (f : Inspection → Inspection) : (s.withInspect f).net = s.net := rfl
@[simp] theorem withInspect_aqlet (f : Inspection → Inspection) : (s.withInspect f).aqlet = s.aqlet := rfl
@[simp] theorem withInspect_cameras (f : Inspection → Inspection) : (s.withInspect f).cameras = s.cameras := rfl
@[simp] theorem withInspect_inspect (f : Inspection → Inspection) : (s.withInspect f).inspect = f s.inspect := rfl
@[simp] theorem withInspect_light (f : Inspection → Inspection) : (s.withInspect f).light = s.light := rfl
@[simp] theorem withInspect_axes (f : Inspection → Inspection) : (s.withInspect f).axes = s.axes := rfl
@[simp] theorem withInspect_modes (f : Inspection → Inspection) : (s.withInspect f).modes = s.modes := rfl
@[simp] theorem withInspect_events (f : Inspection → Inspection) : (s.withInspect f).events = s.events := rfl
@[simp] theorem withInspect_power (f : Inspection → Inspection) : (s.withInspect f).power = s.power := rfl
@[simp] theorem withInspect_flash (f : Inspection → Inspection) : (s.withInspect f).flash = s.flash := rfl

/-! A row of a die. -/
@[simp] theorem setRow_now (d r : Nat) (v : RowLine) : (s.setRow d r v).now = s.now := rfl
@[simp] theorem setRow_free (d r : Nat) (v : RowLine) : (s.setRow d r v).free = s.free := rfl
@[simp] theorem setRow_regs (d r : Nat) (v : RowLine) : (s.setRow d r v).regs = s.regs := rfl
@[simp] theorem setRow_blobs (d r : Nat) (v : RowLine) : (s.setRow d r v).blobs = s.blobs := rfl
@[simp] theorem setRow_mem (d r : Nat) (v : RowLine) : (s.setRow d r v).mem = s.mem := rfl
@[simp] theorem setRow_out (d r : Nat) (v : RowLine) : (s.setRow d r v).out = s.out := rfl
@[simp] theorem setRow_pending (d r : Nat) (v : RowLine) : (s.setRow d r v).pending = s.pending := rfl
@[simp] theorem setRow_sys (d r : Nat) (v : RowLine) : (s.setRow d r v).sys = s.sys := rfl
@[simp] theorem setRow_pos (d r : Nat) (v : RowLine) : (s.setRow d r v).pos = s.pos := rfl
@[simp] theorem setRow_link (d r : Nat) (v : RowLine) : (s.setRow d r v).link = s.link := rfl
@[simp] theorem setRow_pageStore (d r : Nat) (v : RowLine) : (s.setRow d r v).pageStore = s.pageStore := rfl
@[simp] theorem setRow_dram (d r : Nat) (v : RowLine) : (s.setRow d r v).dram = s.dram := rfl
@[simp] theorem setRow_polders (d r : Nat) (v : RowLine) : (s.setRow d r v).polders = s.polders := rfl
@[simp] theorem setRow_health (d r : Nat) (v : RowLine) : (s.setRow d r v).health = s.health := rfl
@[simp] theorem setRow_firing (d r : Nat) (v : RowLine) : (s.setRow d r v).firing = { s.firing with rows := Cells.put (fun _ => RowLine.idle) s.firing.rows (4 * d + r) v } := rfl
@[simp] theorem setRow_heads (d r : Nat) (v : RowLine) : (s.setRow d r v).heads = s.heads := rfl
@[simp] theorem setRow_time (d r : Nat) (v : RowLine) : (s.setRow d r v).time = s.time := rfl
@[simp] theorem setRow_net (d r : Nat) (v : RowLine) : (s.setRow d r v).net = s.net := rfl
@[simp] theorem setRow_aqlet (d r : Nat) (v : RowLine) : (s.setRow d r v).aqlet = s.aqlet := rfl
@[simp] theorem setRow_cameras (d r : Nat) (v : RowLine) : (s.setRow d r v).cameras = s.cameras := rfl
@[simp] theorem setRow_inspect (d r : Nat) (v : RowLine) : (s.setRow d r v).inspect = s.inspect := rfl
@[simp] theorem setRow_light (d r : Nat) (v : RowLine) : (s.setRow d r v).light = s.light := rfl
@[simp] theorem setRow_axes (d r : Nat) (v : RowLine) : (s.setRow d r v).axes = s.axes := rfl
@[simp] theorem setRow_modes (d r : Nat) (v : RowLine) : (s.setRow d r v).modes = s.modes := rfl
@[simp] theorem setRow_events (d r : Nat) (v : RowLine) : (s.setRow d r v).events = s.events := rfl
@[simp] theorem setRow_power (d r : Nat) (v : RowLine) : (s.setRow d r v).power = s.power := rfl
@[simp] theorem setRow_flash (d r : Nat) (v : RowLine) : (s.setRow d r v).flash = s.flash := rfl

/-! A camera pipeline. -/
@[simp] theorem setPipeline_now (p : Nat) (x : Pipeline) : (s.setPipeline p x).now = s.now := rfl
@[simp] theorem setPipeline_free (p : Nat) (x : Pipeline) : (s.setPipeline p x).free = s.free := rfl
@[simp] theorem setPipeline_regs (p : Nat) (x : Pipeline) : (s.setPipeline p x).regs = s.regs := rfl
@[simp] theorem setPipeline_blobs (p : Nat) (x : Pipeline) : (s.setPipeline p x).blobs = s.blobs := rfl
@[simp] theorem setPipeline_mem (p : Nat) (x : Pipeline) : (s.setPipeline p x).mem = s.mem := rfl
@[simp] theorem setPipeline_out (p : Nat) (x : Pipeline) : (s.setPipeline p x).out = s.out := rfl
@[simp] theorem setPipeline_pending (p : Nat) (x : Pipeline) : (s.setPipeline p x).pending = s.pending := rfl
@[simp] theorem setPipeline_sys (p : Nat) (x : Pipeline) : (s.setPipeline p x).sys = s.sys := rfl
@[simp] theorem setPipeline_pos (p : Nat) (x : Pipeline) : (s.setPipeline p x).pos = s.pos := rfl
@[simp] theorem setPipeline_link (p : Nat) (x : Pipeline) : (s.setPipeline p x).link = s.link := rfl
@[simp] theorem setPipeline_pageStore (p : Nat) (x : Pipeline) : (s.setPipeline p x).pageStore = s.pageStore := rfl
@[simp] theorem setPipeline_dram (p : Nat) (x : Pipeline) : (s.setPipeline p x).dram = s.dram := rfl
@[simp] theorem setPipeline_polders (p : Nat) (x : Pipeline) : (s.setPipeline p x).polders = s.polders := rfl
@[simp] theorem setPipeline_health (p : Nat) (x : Pipeline) : (s.setPipeline p x).health = s.health := rfl
@[simp] theorem setPipeline_firing (p : Nat) (x : Pipeline) : (s.setPipeline p x).firing = s.firing := rfl
@[simp] theorem setPipeline_heads (p : Nat) (x : Pipeline) : (s.setPipeline p x).heads = s.heads := rfl
@[simp] theorem setPipeline_time (p : Nat) (x : Pipeline) : (s.setPipeline p x).time = s.time := rfl
@[simp] theorem setPipeline_net (p : Nat) (x : Pipeline) : (s.setPipeline p x).net = s.net := rfl
@[simp] theorem setPipeline_aqlet (p : Nat) (x : Pipeline) : (s.setPipeline p x).aqlet = s.aqlet := rfl
@[simp] theorem setPipeline_cameras (p : Nat) (x : Pipeline) : (s.setPipeline p x).cameras = s.cameras.set p x := rfl
@[simp] theorem setPipeline_inspect (p : Nat) (x : Pipeline) : (s.setPipeline p x).inspect = s.inspect := rfl
@[simp] theorem setPipeline_light (p : Nat) (x : Pipeline) : (s.setPipeline p x).light = s.light := rfl
@[simp] theorem setPipeline_axes (p : Nat) (x : Pipeline) : (s.setPipeline p x).axes = s.axes := rfl
@[simp] theorem setPipeline_modes (p : Nat) (x : Pipeline) : (s.setPipeline p x).modes = s.modes := rfl
@[simp] theorem setPipeline_events (p : Nat) (x : Pipeline) : (s.setPipeline p x).events = s.events := rfl
@[simp] theorem setPipeline_power (p : Nat) (x : Pipeline) : (s.setPipeline p x).power = s.power := rfl
@[simp] theorem setPipeline_flash (p : Nat) (x : Pipeline) : (s.setPipeline p x).flash = s.flash := rfl

/-! A light. -/
@[simp] theorem setLamp_now (p : Nat) (x : Lamp) : (s.setLamp p x).now = s.now := rfl
@[simp] theorem setLamp_free (p : Nat) (x : Lamp) : (s.setLamp p x).free = s.free := rfl
@[simp] theorem setLamp_regs (p : Nat) (x : Lamp) : (s.setLamp p x).regs = s.regs := rfl
@[simp] theorem setLamp_blobs (p : Nat) (x : Lamp) : (s.setLamp p x).blobs = s.blobs := rfl
@[simp] theorem setLamp_mem (p : Nat) (x : Lamp) : (s.setLamp p x).mem = s.mem := rfl
@[simp] theorem setLamp_out (p : Nat) (x : Lamp) : (s.setLamp p x).out = s.out := rfl
@[simp] theorem setLamp_pending (p : Nat) (x : Lamp) : (s.setLamp p x).pending = s.pending := rfl
@[simp] theorem setLamp_sys (p : Nat) (x : Lamp) : (s.setLamp p x).sys = s.sys := rfl
@[simp] theorem setLamp_pos (p : Nat) (x : Lamp) : (s.setLamp p x).pos = s.pos := rfl
@[simp] theorem setLamp_link (p : Nat) (x : Lamp) : (s.setLamp p x).link = s.link := rfl
@[simp] theorem setLamp_pageStore (p : Nat) (x : Lamp) : (s.setLamp p x).pageStore = s.pageStore := rfl
@[simp] theorem setLamp_dram (p : Nat) (x : Lamp) : (s.setLamp p x).dram = s.dram := rfl
@[simp] theorem setLamp_polders (p : Nat) (x : Lamp) : (s.setLamp p x).polders = s.polders := rfl
@[simp] theorem setLamp_health (p : Nat) (x : Lamp) : (s.setLamp p x).health = s.health := rfl
@[simp] theorem setLamp_firing (p : Nat) (x : Lamp) : (s.setLamp p x).firing = s.firing := rfl
@[simp] theorem setLamp_heads (p : Nat) (x : Lamp) : (s.setLamp p x).heads = s.heads := rfl
@[simp] theorem setLamp_time (p : Nat) (x : Lamp) : (s.setLamp p x).time = s.time := rfl
@[simp] theorem setLamp_net (p : Nat) (x : Lamp) : (s.setLamp p x).net = s.net := rfl
@[simp] theorem setLamp_aqlet (p : Nat) (x : Lamp) : (s.setLamp p x).aqlet = s.aqlet := rfl
@[simp] theorem setLamp_cameras (p : Nat) (x : Lamp) : (s.setLamp p x).cameras = s.cameras := rfl
@[simp] theorem setLamp_inspect (p : Nat) (x : Lamp) : (s.setLamp p x).inspect = s.inspect := rfl
@[simp] theorem setLamp_light (p : Nat) (x : Lamp) : (s.setLamp p x).light = { s.light with units := s.light.units.set p x } := rfl
@[simp] theorem setLamp_axes (p : Nat) (x : Lamp) : (s.setLamp p x).axes = s.axes := rfl
@[simp] theorem setLamp_modes (p : Nat) (x : Lamp) : (s.setLamp p x).modes = s.modes := rfl
@[simp] theorem setLamp_events (p : Nat) (x : Lamp) : (s.setLamp p x).events = s.events := rfl
@[simp] theorem setLamp_power (p : Nat) (x : Lamp) : (s.setLamp p x).power = s.power := rfl
@[simp] theorem setLamp_flash (p : Nat) (x : Lamp) : (s.setLamp p x).flash = s.flash := rfl

/-! An axis. -/
@[simp] theorem setAxis_now (n : Nat) (x : Axis) : (s.setAxis n x).now = s.now := rfl
@[simp] theorem setAxis_free (n : Nat) (x : Axis) : (s.setAxis n x).free = s.free := rfl
@[simp] theorem setAxis_regs (n : Nat) (x : Axis) : (s.setAxis n x).regs = s.regs := rfl
@[simp] theorem setAxis_blobs (n : Nat) (x : Axis) : (s.setAxis n x).blobs = s.blobs := rfl
@[simp] theorem setAxis_mem (n : Nat) (x : Axis) : (s.setAxis n x).mem = s.mem := rfl
@[simp] theorem setAxis_out (n : Nat) (x : Axis) : (s.setAxis n x).out = s.out := rfl
@[simp] theorem setAxis_pending (n : Nat) (x : Axis) : (s.setAxis n x).pending = s.pending := rfl
@[simp] theorem setAxis_sys (n : Nat) (x : Axis) : (s.setAxis n x).sys = s.sys := rfl
@[simp] theorem setAxis_pos (n : Nat) (x : Axis) : (s.setAxis n x).pos = s.pos := rfl
@[simp] theorem setAxis_link (n : Nat) (x : Axis) : (s.setAxis n x).link = s.link := rfl
@[simp] theorem setAxis_pageStore (n : Nat) (x : Axis) : (s.setAxis n x).pageStore = s.pageStore := rfl
@[simp] theorem setAxis_dram (n : Nat) (x : Axis) : (s.setAxis n x).dram = s.dram := rfl
@[simp] theorem setAxis_polders (n : Nat) (x : Axis) : (s.setAxis n x).polders = s.polders := rfl
@[simp] theorem setAxis_health (n : Nat) (x : Axis) : (s.setAxis n x).health = s.health := rfl
@[simp] theorem setAxis_firing (n : Nat) (x : Axis) : (s.setAxis n x).firing = s.firing := rfl
@[simp] theorem setAxis_heads (n : Nat) (x : Axis) : (s.setAxis n x).heads = s.heads := rfl
@[simp] theorem setAxis_time (n : Nat) (x : Axis) : (s.setAxis n x).time = s.time := rfl
@[simp] theorem setAxis_net (n : Nat) (x : Axis) : (s.setAxis n x).net = s.net := rfl
@[simp] theorem setAxis_aqlet (n : Nat) (x : Axis) : (s.setAxis n x).aqlet = s.aqlet := rfl
@[simp] theorem setAxis_cameras (n : Nat) (x : Axis) : (s.setAxis n x).cameras = s.cameras := rfl
@[simp] theorem setAxis_inspect (n : Nat) (x : Axis) : (s.setAxis n x).inspect = s.inspect := rfl
@[simp] theorem setAxis_light (n : Nat) (x : Axis) : (s.setAxis n x).light = s.light := rfl
@[simp] theorem setAxis_axes (n : Nat) (x : Axis) : (s.setAxis n x).axes = { s.axes with units := s.axes.units.set n x } := rfl
@[simp] theorem setAxis_modes (n : Nat) (x : Axis) : (s.setAxis n x).modes = s.modes := rfl
@[simp] theorem setAxis_events (n : Nat) (x : Axis) : (s.setAxis n x).events = s.events := rfl
@[simp] theorem setAxis_power (n : Nat) (x : Axis) : (s.setAxis n x).power = s.power := rfl
@[simp] theorem setAxis_flash (n : Nat) (x : Axis) : (s.setAxis n x).flash = s.flash := rfl

/-! A session. -/
@[simp] theorem mapSession_now (id : Nat) (f : Session → Session) : (s.mapSession id f).now = s.now := rfl
@[simp] theorem mapSession_free (id : Nat) (f : Session → Session) : (s.mapSession id f).free = s.free := rfl
@[simp] theorem mapSession_regs (id : Nat) (f : Session → Session) : (s.mapSession id f).regs = s.regs := rfl
@[simp] theorem mapSession_blobs (id : Nat) (f : Session → Session) : (s.mapSession id f).blobs = s.blobs := rfl
@[simp] theorem mapSession_mem (id : Nat) (f : Session → Session) : (s.mapSession id f).mem = s.mem := rfl
@[simp] theorem mapSession_out (id : Nat) (f : Session → Session) : (s.mapSession id f).out = s.out := rfl
@[simp] theorem mapSession_pending (id : Nat) (f : Session → Session) : (s.mapSession id f).pending = s.pending := rfl
@[simp] theorem mapSession_sys (id : Nat) (f : Session → Session) : (s.mapSession id f).sys = s.sys := rfl
@[simp] theorem mapSession_pos (id : Nat) (f : Session → Session) : (s.mapSession id f).pos = s.pos := rfl
@[simp] theorem mapSession_link (id : Nat) (f : Session → Session) : (s.mapSession id f).link = s.link := rfl
@[simp] theorem mapSession_pageStore (id : Nat) (f : Session → Session) : (s.mapSession id f).pageStore = s.pageStore := rfl
@[simp] theorem mapSession_dram (id : Nat) (f : Session → Session) : (s.mapSession id f).dram = s.dram := rfl
@[simp] theorem mapSession_polders (id : Nat) (f : Session → Session) : (s.mapSession id f).polders = s.polders := rfl
@[simp] theorem mapSession_health (id : Nat) (f : Session → Session) : (s.mapSession id f).health = s.health := rfl
@[simp] theorem mapSession_firing (id : Nat) (f : Session → Session) : (s.mapSession id f).firing = s.firing := rfl
@[simp] theorem mapSession_heads (id : Nat) (f : Session → Session) : (s.mapSession id f).heads = s.heads := rfl
@[simp] theorem mapSession_time (id : Nat) (f : Session → Session) : (s.mapSession id f).time = s.time := rfl
@[simp] theorem mapSession_net (id : Nat) (f : Session → Session) : (s.mapSession id f).net = s.net := rfl
@[simp] theorem mapSession_aqlet (id : Nat) (f : Session → Session) : (s.mapSession id f).aqlet = { s.aqlet with sessions := s.aqlet.sessions.map fun x => if x.id == id then f x else x } := rfl
@[simp] theorem mapSession_cameras (id : Nat) (f : Session → Session) : (s.mapSession id f).cameras = s.cameras := rfl
@[simp] theorem mapSession_inspect (id : Nat) (f : Session → Session) : (s.mapSession id f).inspect = s.inspect := rfl
@[simp] theorem mapSession_light (id : Nat) (f : Session → Session) : (s.mapSession id f).light = s.light := rfl
@[simp] theorem mapSession_axes (id : Nat) (f : Session → Session) : (s.mapSession id f).axes = s.axes := rfl
@[simp] theorem mapSession_modes (id : Nat) (f : Session → Session) : (s.mapSession id f).modes = s.modes := rfl
@[simp] theorem mapSession_events (id : Nat) (f : Session → Session) : (s.mapSession id f).events = s.events := rfl
@[simp] theorem mapSession_power (id : Nat) (f : Session → Session) : (s.mapSession id f).power = s.power := rfl
@[simp] theorem mapSession_flash (id : Nat) (f : Session → Session) : (s.mapSession id f).flash = s.flash := rfl

/-! The commit in progress. -/
@[simp] theorem setCommit_now (c : Option Commit) : (s.setCommit c).now = s.now := rfl
@[simp] theorem setCommit_free (c : Option Commit) : (s.setCommit c).free = s.free := rfl
@[simp] theorem setCommit_regs (c : Option Commit) : (s.setCommit c).regs = s.regs := rfl
@[simp] theorem setCommit_blobs (c : Option Commit) : (s.setCommit c).blobs = s.blobs := rfl
@[simp] theorem setCommit_mem (c : Option Commit) : (s.setCommit c).mem = s.mem := rfl
@[simp] theorem setCommit_out (c : Option Commit) : (s.setCommit c).out = s.out := rfl
@[simp] theorem setCommit_pending (c : Option Commit) : (s.setCommit c).pending = s.pending := rfl
@[simp] theorem setCommit_sys (c : Option Commit) : (s.setCommit c).sys = s.sys := rfl
@[simp] theorem setCommit_pos (c : Option Commit) : (s.setCommit c).pos = s.pos := rfl
@[simp] theorem setCommit_link (c : Option Commit) : (s.setCommit c).link = s.link := rfl
@[simp] theorem setCommit_pageStore (c : Option Commit) : (s.setCommit c).pageStore = s.pageStore := rfl
@[simp] theorem setCommit_dram (c : Option Commit) : (s.setCommit c).dram = s.dram := rfl
@[simp] theorem setCommit_polders (c : Option Commit) : (s.setCommit c).polders = s.polders := rfl
@[simp] theorem setCommit_health (c : Option Commit) : (s.setCommit c).health = s.health := rfl
@[simp] theorem setCommit_firing (c : Option Commit) : (s.setCommit c).firing = s.firing := rfl
@[simp] theorem setCommit_heads (c : Option Commit) : (s.setCommit c).heads = s.heads := rfl
@[simp] theorem setCommit_time (c : Option Commit) : (s.setCommit c).time = s.time := rfl
@[simp] theorem setCommit_net (c : Option Commit) : (s.setCommit c).net = s.net := rfl
@[simp] theorem setCommit_aqlet (c : Option Commit) : (s.setCommit c).aqlet = s.aqlet := rfl
@[simp] theorem setCommit_cameras (c : Option Commit) : (s.setCommit c).cameras = s.cameras := rfl
@[simp] theorem setCommit_inspect (c : Option Commit) : (s.setCommit c).inspect = s.inspect := rfl
@[simp] theorem setCommit_light (c : Option Commit) : (s.setCommit c).light = s.light := rfl
@[simp] theorem setCommit_axes (c : Option Commit) : (s.setCommit c).axes = s.axes := rfl
@[simp] theorem setCommit_modes (c : Option Commit) : (s.setCommit c).modes = { s.modes with commit := c } := rfl
@[simp] theorem setCommit_events (c : Option Commit) : (s.setCommit c).events = s.events := rfl
@[simp] theorem setCommit_power (c : Option Commit) : (s.setCommit c).power = s.power := rfl
@[simp] theorem setCommit_flash (c : Option Commit) : (s.setCommit c).flash = s.flash := rfl

end Sys2Proof.Laws
end

