-- ==== Sys2Proof/Laws/Run.lean ====
section
/-! SUPPORT. Laws/Run.lean: what `State.run`, `runOn` and `runLink` can do, once. -/
namespace Sys2Proof.Laws

open Sys2Proof.Machine

variable {s : State} {t : Nat} {f : State → State}

/-- Time passes, and nothing else changes. -/
@[simp] theorem tick_mode : (s.tick t).mode = s.mode := rfl
@[simp] theorem tick_reg (k : Nat) : (s.tick t).reg k = s.reg k := rfl
@[simp] theorem tick_regN (k : Nat) : (s.tick t).regN k = s.regN k := rfl
@[simp] theorem tick_inReset : (s.tick t).sys.inReset = s.sys.inReset := rfl

/-- A command of a chip in reset has no effect. -/
theorem run_inReset (h : s.sys.inReset = true) : s.run t f = .next s := by
  unfold State.run; rw [if_pos h]

/-- A command of a running chip has its effect. -/
theorem run_awake (h : Awake s) : s.run t f = .next ((f (s.tick t)).sealed s t) := by
  have h' : s.sys.inReset = false := h
  unfold State.run; rw [if_neg (by rw [h']; decide)]

/-- A command that needs a chip outside SAFE-HOLD has its effect there. -/
theorem runOn_alive (h : Alive s) : s.runOn t f = .next ((f (s.tick t)).sealed s t) := by
  unfold State.runOn
  rw [run_awake h.1, if_neg (show (s.tick t).mode ≠ 7 from h.2)]

/-- In SAFE-HOLD only time passes. -/
theorem runOn_safeHold (h : Awake s) (m : s.mode = 7) : s.runOn t f = .next ((s.tick t).sealed s t) := by
  unfold State.runOn
  rw [run_awake h, if_pos (show (s.tick t).mode = 7 from m)]

/-- A command of the raster link has its effect while the link answers. -/
theorem runLink_linked (h : Linked s) : s.runLink t f = .next ((f (s.tick t)).sealed s t) := by
  unfold State.runLink
  rw [run_awake h.1, if_neg (show ¬((s.tick t).mode = 7 ∧ (s.tick t).power.holding ≠ .afterFault) from h.2)]

/-- Whatever a command does, it answers a next state. -/
theorem run_next : ∃ s', s.run t f = .next s' := by
  unfold State.run; split <;> exact ⟨_, rfl⟩

/-- A command leaves the queue alone. -/
theorem run_pending {s' : State} (h : s.run t f = .next s') : s'.pending = s.pending := by
  unfold State.run at h
  split at h <;> cases h <;> rfl

/-- Time never runs back. -/
theorem run_now {s' : State} (h : s.run t f = .next s') : s'.now = s.now ∨ s'.now = max s.now t := by
  unfold State.run at h
  split at h <;> cases h
  · exact Or.inl rfl
  · exact Or.inr rfl

end Sys2Proof.Laws
end

