-- ==== Sys2Proof/Laws/Request.lean ====
section
/-! SUPPORT. Laws/Request.lean: how an Aqlet request comes to its operation, once: which state serves it, and what a granted
WRITE does. -/
namespace Sys2Proof.Laws

open Sys2Proof.Machine

variable {s : State} {t k : Nat} {rq : Request} {x : Session} {ops : Req → Bool} {image : ImageCheck} {timeout : Bool}
  {keys : List Nat}

/-- The operation of an admitted request. -/
def served (u : State) (image : ImageCheck) (timeout : Bool) (rq : Request) (x : Session) : State :=
  let r := readFrame rq.frame
  match r.op with
  | 1 => u.serveRead rq r x timeout
  | 2 => u.serveWrite rq r x timeout
  | 3 => u.serveReadBlock rq r x timeout
  | 4 => u.serveWriteBlock rq r x image timeout
  | 5 => u.serveStage rq r x timeout
  | 6 => u.serveCommit rq r x timeout
  | 7 => u.serveSubscribe rq r x timeout
  | 8 => u.serveTrigger rq r x timeout
  | _ => u.serveClose rq r x

/-- A request that comes is dealt with, and then its path is served. -/
theorem byPath_comes {wants : Request → Bool} {f : Request → State → State} (h : Comes s rq)
    (w : wants (heard s rq) = true) :
    State.byPath rq wants f s = afterPath s rq (f (heard s rq) (onPath s rq)) := by
  unfold Comes at h
  unfold heard at w
  unfold State.byPath afterPath heard onPath
  cases q : rq.path <;> simp only [q] at h w ⊢
  · obtain ⟨a, p, b, c, d⟩ := h
    obtain ⟨⟨e1, e2, e3, e4⟩, f1, f2, f3⟩ := d
    simp only [b] at w ⊢
    rw [if_neg a]
    unfold State.hearPacket
    simp only [b]
    unfold State.receive
    rw [if_pos (by simp [c, w])]
    unfold State.onPacket
    rw [if_neg (by simp [e1]), if_neg (by simp [e2]), if_neg (by simp [e3]), if_neg (by simp [e4]), if_neg (by simp [f1])]
    simp only []
    rw [if_neg (by omega), if_neg (by omega), if_neg (by omega)]
    simp only [inOrder]
  · rw [if_pos ⟨h, w⟩]

/-- A request that reaches the chip is served at once. -/
theorem arrive_reaches (h : Reaches s t rq) :
    (onPath (s.tick t) rq).arrive image timeout (heard (s.tick t) rq) =
      (if (onPath (s.tick t) rq).loaderOnly then onPath (s.tick t) rq
        else ((onPath (s.tick t) rq).ringPut 13 (frameWords (heard (s.tick t) rq).frame)).ringTake 13).serve image timeout
          (heard (s.tick t) rq) := by
  obtain ⟨a, b, c, d⟩ := h
  unfold State.arrive State.serveNow
  rcases c with c | c
  · rw [if_pos (Or.inl c), if_pos c, if_pos c]
  · rw [if_pos (Or.inr c.1)]
    split
    · rfl
    · rw [if_pos c.2]

/-- A command that carries such a request serves it. -/
theorem request_reaches (h : Reaches s t rq) (o : ops (readFrame (heard (s.tick t) rq).frame) = true) :
    s.request ops t rq =
      outcome s t rq ((if (onPath (s.tick t) rq).loaderOnly then onPath (s.tick t) rq
        else ((onPath (s.tick t) rq).ringPut 13 (frameWords (heard (s.tick t) rq).frame)).ringTake 13).serve ImageCheck.none
          false (heard (s.tick t) rq)) := by
  unfold State.request outcome
  rw [run_awake h.1, byPath_comes h.2.1 (by unfold asksFor; rw [o, Bool.or_true])]
  simp only [arrive_reaches h]

/-- An admitted request comes to its operation. -/
theorem serve_admitted (h : Admitted s t rq x) :
    (if (onPath (s.tick t) rq).loaderOnly then onPath (s.tick t) rq
        else ((onPath (s.tick t) rq).ringPut 13 (frameWords (heard (s.tick t) rq).frame)).ringTake 13).serve image timeout
          (heard (s.tick t) rq) = served (serving s t rq x) image timeout (heard (s.tick t) rq) x := by
  obtain ⟨⟨_, _, _, g⟩, b, c, d, e, f⟩ := h
  unfold State.serve
  simp only []
  rw [if_neg (by simp [g]), if_neg (fun z => b (Or.inl z)), if_neg (fun z => b (Or.inr z))]
  unfold looking atServer at c
  simp only [c]
  rw [if_neg (by simp [d]), if_neg (by simp [e]), f]
  rfl

/-- The same of the command that carries it. -/
theorem request_admitted (h : Admitted s t rq x) (o : ops (readFrame (heard (s.tick t) rq).frame) = true) :
    s.request ops t rq = outcome s t rq (served (serving s t rq x) ImageCheck.none false (heard (s.tick t) rq) x) := by
  rw [request_reaches h.1 o, serve_admitted h]

/-- No check fails when each passes. -/
theorem firstCode_zero {l : List Nat} (h : ∀ c ∈ l, c = 0) : firstCode l = 0 := by
  induction l with
  | nil => rfl
  | cons a l ih =>
    rw [firstCode, if_neg (by simp [h a]), ih (fun c y => h c (List.mem_cons_of_mem _ y))]

/-- What a granted WRITE does, by its apply class. -/
theorem served_granted (h : Granted s t rq x) :
    let q := heard (s.tick t) rq
    let k := (readFrame q.frame).key
    let u := serving s t rq x
    served u image false q x =
      match applyOf k with
      | .t =>
        if stagedHealth k then
          written (u.applyWrite k (valueIn q) (valueOctetsOf q) (askerOf q (readFrame q.frame) x)) q x (octetsOf 8 0)
        else committing u q x
      | .b => written (u.bootValue k (valueIn q)) q x []
      | _ => written (u.applyWrite k (valueIn q) (valueOctetsOf q) (askerOf q (readFrame q.frame) x)) q x [] := by
  obtain ⟨_, b, c, d, e, f, g, i, j, k, l⟩ := h
  intro q key u
  have b' : (readFrame q.frame).op = 2 := b
  simp only [served, b', State.serveWrite]
  rw [if_neg, if_neg l]
  · simp only [State.writeWhole, b']
    rw [if_neg]
    · rfl
    refine not_not_intro (firstCode_zero ?_)
    intro v m
    simp only [List.mem_cons, List.not_mem_nil, or_false] at m
    rcases m with m | m | m | m | m | m
    · rw [m]; exact e
    · rw [m]; exact f
    · rw [m]; split
      · next z => exact g (of_decide_eq_true z)
      · rfl
    · rw [m]; exact i
    · rw [m, if_neg]; rw [j]; simp
    · rw [m, if_neg]; simp [show u.ownerLost (readFrame q.frame).key = false from k]
  · refine not_not_intro (firstCode_zero ?_)
    intro v m
    simp only [List.mem_cons, List.not_mem_nil, or_false] at m
    rcases m with m | m | m
    · rw [m]; exact c
    · rw [m]; exact d
    · rw [m]; exact e

/-- A granted WRITE of a subindex of class I, P or Q takes its effect and is answered. -/
theorem served_granted_write (h : Granted s t rq x) (e : (readFrame (heard (s.tick t) rq).frame).key = k)
    (a : applyOf k ≠ .t) (b : applyOf k ≠ .b) :
    served (serving s t rq x) ImageCheck.none false (heard (s.tick t) rq) x =
      written ((serving s t rq x).applyWrite k (valueIn (heard (s.tick t) rq)) (valueOctetsOf (heard (s.tick t) rq))
        (askerOf (heard (s.tick t) rq) (readFrame (heard (s.tick t) rq).frame) x)) (heard (s.tick t) rq) x [] := by
  have g := served_granted (image := ImageCheck.none) h
  simp only [e] at g
  rw [g]

/-- A granted WRITE of a subindex of class T begins a commit. -/
theorem served_granted_commit (h : Granted s t rq x) (e : (readFrame (heard (s.tick t) rq).frame).key = k)
    (a : applyOf k = .t) (b : stagedHealth k = false) :
    served (serving s t rq x) ImageCheck.none false (heard (s.tick t) rq) x =
      committing (serving s t rq x) (heard (s.tick t) rq) x := by
  have g := served_granted (image := ImageCheck.none) h
  simp only [e, a] at g
  rw [g]
  simp [b]

/-- The write commands of a list of subindices of class I, P or Q. -/
theorem request_write (h : Granted s t rq x) (e : (readFrame (heard (s.tick t) rq).frame).key = k)
    (c : keys.contains k = true) (a : applyOf k ≠ .t) (b : applyOf k ≠ .b) :
    s.request (writesKey keys) t rq =
      outcome s t rq (written ((serving s t rq x).applyWrite k (valueIn (heard (s.tick t) rq))
        (valueOctetsOf (heard (s.tick t) rq)) (askerOf (heard (s.tick t) rq) (readFrame (heard (s.tick t) rq).frame) x))
          (heard (s.tick t) rq) x []) := by
  rw [request_admitted h.1 (by simp [writesKey, h.2.1, e, List.contains_iff_mem.1 c]), served_granted_write h e a b]

/-- The write commands of a list of subindices of class T. -/
theorem request_commit (h : Granted s t rq x) (e : (readFrame (heard (s.tick t) rq).frame).key = k)
    (c : keys.contains k = true) (a : applyOf k = .t) (b : stagedHealth k = false) :
    s.request (writesKey keys) t rq = outcome s t rq (committing (serving s t rq x) (heard (s.tick t) rq) x) := by
  rw [request_admitted h.1 (by simp [writesKey, h.2.1, e, List.contains_iff_mem.1 c]), served_granted_commit h e a b]

end Sys2Proof.Laws
end

