-- ==== Sys2Proof/Laws/Sending.lean ====
section
/-! SUPPORT. Laws/Sending.lean: all that sending an Aqlet frame and stamping it can do. -/
namespace Sys2Proof.Laws

open Sys2Proof.Machine

/-- Only what an event changes, the link, the ports, the time unit and the outputs may differ. -/
def Sent (s s' : State) : Prop :=
  ∃ regs mem events aqlet link net time out,
    s' = { s with regs := regs, mem := mem, events := events, aqlet := aqlet, link := link, net := net, time := time,
                  out := out } ∧
      aqlet.sessions.map who = s.aqlet.sessions.map who

theorem Sent.refl (s : State) : Sent s s := ⟨s.regs, s.mem, s.events, s.aqlet, s.link, s.net, s.time, s.out, rfl, rfl⟩

theorem Sent.trans {a b c : State} (x : Sent a b) (y : Sent b c) : Sent a c := by
  obtain ⟨_, _, _, _, _, _, _, _, rfl, u⟩ := x
  obtain ⟨r, m, e, q, l, n, t, o, rfl, v⟩ := y
  exact ⟨r, m, e, q, l, n, t, o, rfl, v.trans u⟩

theorem sent_raised {s s' : State} (h : Raised s s') : Sent s s' := by
  obtain ⟨r, m, e, q, rfl, u⟩ := h
  exact ⟨r, m, e, q, s.link, s.net, s.time, s.out, rfl, u⟩

/-- An if whose two sides only send. -/
theorem sent_ite {s a b : State} {c : Prop} [Decidable c] (x : Sent s a) (y : Sent s b) : Sent s (if c then a else b) := by
  split
  · exact x
  · exact y

theorem sent_link (s : State) (f : Link → Link) : Sent s (s.withLink f) :=
  ⟨s.regs, s.mem, s.events, s.aqlet, f s.link, s.net, s.time, s.out, rfl, rfl⟩
theorem sent_emit (s : State) (o : Out) : Sent s (s.emit o) :=
  ⟨s.regs, s.mem, s.events, s.aqlet, s.link, s.net, s.time, o :: s.out, rfl, rfl⟩

theorem sent_putPacket (s : State) (type seq : Nat) (p : Octets) : Sent s (s.putPacket type seq p) :=
  (sent_link s fun l => { l with lanes := { l.lanes with
    txPackets := l.lanes.txPackets ++ [packetBlocks (startBlock type 0 seq p.length) p] } }).trans (sent_emit _ _)

theorem sent_trySend {s u : State} {type : Nat} {p : Octets} (h : s.trySend type p = some u) : Sent s u := by
  unfold State.trySend at h
  extract_lets c l ok v at h
  by_cases g : s.linkUp = true ∧ ok = true ∧ l.replay.length < 1024
  · rw [if_pos g] at h
    rw [← Option.some.inj h]
    exact (sent_link s _).trans (sent_putPacket _ _ _ _)
  · rw [if_neg g] at h; exact absurd h (by simp)

theorem sent_flush (l : List (Nat × Octets)) : ∀ s : State, Sent s (State.flushWaiting l s) := by
  induction l with
  | nil => intro s; exact sent_link s _
  | cons p l ih =>
    intro s
    unfold State.flushWaiting
    split
    · next u h => exact (sent_trySend h).trans (ih u)
    · exact sent_link s _

theorem sent_drain (l : List (Nat × Nat)) : ∀ s : State, Sent s (State.drainStamps l s) := by
  induction l with
  | nil => intro s; exact ⟨s.regs, s.mem, s.events, s.aqlet, s.link, s.net, { s.time with txQueue := [] }, s.out, rfl, rfl⟩
  | cons p l ih =>
    intro s
    unfold State.drainStamps
    exact sent_ite ((sent_raised (raised_ringPut _ _ _)).trans (ih _))
      ⟨s.regs, s.mem, s.events, s.aqlet, s.link, s.net, { s.time with txQueue := p :: l }, s.out, rfl, rfl⟩

theorem sent_stamp (s : State) (time : Int) (kind id type : Nat) : Sent s (s.stampSend time kind id type).2 := by
  unfold State.stampSend
  split
  · exact sent_raised ((raised_incReg _ _).trans (raised_raiseLimited _ _ _ _ _ _ _ _))
  · exact sent_drain _ _

theorem sent_egress (s : State) (port : Nat) (e : Egress) : Sent s (s.setEgress port e) :=
  sent_ite ⟨s.regs, s.mem, s.events, s.aqlet, s.link, _, s.time, s.out, rfl, rfl⟩
    ⟨s.regs, s.mem, s.events, s.aqlet, s.link, _, s.time, s.out, rfl, rfl⟩

theorem sent_startFrameOn (s : State) (port at_ : Nat) (high : Bool) (w : Waiting) :
    Sent s (s.startFrameOn port at_ high w) := by
  unfold State.startFrameOn
  extract_lets e s1 s2
  have h : Sent s s2 := ((sent_egress s _ _).trans (sent_raised (raised_incReg s1 _))).trans (sent_emit _ _)
  split
  · exact h.trans (sent_stamp _ _ _ _ _)
  · exact h

theorem sent_drainPort (fuel : Nat) : ∀ (port : Nat) (s : State), Sent s (State.drainPort fuel port s) := by
  induction fuel with
  | zero => intro port s; exact Sent.refl s
  | succ n ih =>
    intro port s
    unfold State.drainPort
    extract_lets e
    refine sent_ite (Sent.refl _) ?_
    split
    · exact ((sent_egress _ _ _).trans (sent_startFrameOn _ _ _ _ _)).trans (ih _ _)
    · exact ((sent_egress _ _ _).trans (sent_startFrameOn _ _ _ _ _)).trans (ih _ _)
    · exact Sent.refl _

theorem sent_putStamped (s : State) (high : Bool) (w : Waiting) (port : Nat) : Sent s (s.putStamped high w port) := by
  unfold State.putStamped
  refine sent_ite ?_ (Sent.refl _)
  extract_lets s1 e
  have h : Sent s s1 := sent_drainPort _ _ _
  exact sent_ite (h.trans (sent_startFrameOn _ _ _ _ _))
    (sent_ite (h.trans (sent_egress _ _ _)) (h.trans (sent_egress _ _ _)))

theorem sent_frame (s : State) (high : Bool) (dst : Nat) (vlan : Octets) (type : Nat) (data : Octets)
    (stamp : Option (Nat × Nat × Nat)) : Sent s (s.sendFrame high dst vlan type data stamp) := by
  unfold State.sendFrame
  extract_lets f ports first
  refine sent_ite ?_ (Sent.refl _)
  clear_value first ports
  induction ports generalizing s with
  | nil => exact Sent.refl _
  | cons a l ih =>
    rw [List.foldl_cons]
    exact (sent_putStamped _ _ _ _).trans (ih _)

theorem sent_aqlet (s : State) (p : Path) (dst : Nat) (vlan f : Octets) (stamp : Option (Nat × Nat × Nat)) :
    Sent s (s.sendAqlet p dst vlan f stamp) := by
  cases p
  · exact sent_flush _ _
  · exact sent_frame _ _ _ _ _ _ _

/-- A response leaves by its path and is stamped where it asks for it. -/
theorem sent_response (s : State) (r : Reply1) (key body : Octets) (cached last : Bool) :
    Sent s (s.sendResponse r key body cached last) := by
  unfold State.sendResponse
  extract_lets f u
  have h : Sent s u := sent_ite (Sent.refl _) (sent_raised ((raised_ringPut _ _ _).trans (raised_ringTake _ _)))
  exact h.trans (sent_aqlet _ _ _ _ _ _)

/-- A refusal at step 1 or 2 of Table 15-3 does no more. -/
theorem sent_discard (s : State) (rq : Request) (r : Req) (abort : Nat) : Sent s (s.discard rq r abort) :=
  (sent_raised (raised_incReg _ _)).trans (sent_response _ _ _ _ _ _)

/-- The timestamp of a received frame does no more. -/
theorem sent_stampRequest (s : State) (rq : Request) (r : Req) : Sent s (s.stampRequest rq r) := by
  unfold State.stampRequest
  exact sent_ite (sent_raised (raised_ringPut _ _ _)) (Sent.refl _)

end Sys2Proof.Laws
end

