-- ==== Sys2Proof/Machine/Balls.lean ====
section
/-! DEFINITION. Machine/Balls.lean: chapter 20, the state of each group of balls during reset, start-up and SAFE-HOLD
(Table 20-3), and the reach of the test port (R532). -/
namespace Sys2Proof.Machine

/-- The ball groups of Table 20-3; RL_TX by its lane, AXn_B2 by its axis, INT_Nk by its number. -/
inductive BallGroup where
  | hlFs
  | hlCk
  | hlD
  | hsense
  | rlTx (lane : Nat)
  | ddr
  | csi
  | sg
  | axOut
  | axB2 (axis : Nat)
  | led
  | xspi
  | ppsOut
  | int (k : Nat)
  | tdo
  deriving DecidableEq, Repr

/-- What a group of balls shows: the words of Table 20-3, or the function of its owning chapter. -/
inductive BallState where
  /-- Differential low; for HL_CK static, for HL_D with the receivers off. -/
  | differentialLow
  /-- HL_CK toggles (R254). -/
  | running
  /-- HSENSE: source off, high impedance. -/
  | sourceOff
  /-- RL_TX: electrical idle. -/
  | idle
  /-- RL_TX of lane 0 at rate index 0 (R509). -/
  | index0
  /-- DDRx_RESET_N low, clocks stopped. -/
  | stopped
  /-- The DRAM devices are in self-refresh. -/
  | selfRefresh
  /-- CSIn_: receivers in low-power state, LTRIG and FSYNC low, SCL and SDA released. -/
  | lowPower
  /-- SGn_: transmitters idle, MDC low, MDIO released. -/
  | released
  /-- Driven low. -/
  | low
  /-- AXn_B2: high impedance with its pull-down. -/
  | pulledDown
  /-- AXn_B2 in external mode: an input. -/
  | input
  /-- XSPI_RESET_N low, CS_N high. -/
  | flashReset
  /-- Open drain, not driven. -/
  | openDrain
  /-- High impedance; TDO drives only while it shifts. -/
  | highImpedance
  /-- As the owning chapter says. -/
  | working
  deriving DecidableEq, Repr

/-- Table 20-3 with RESET_N low. -/
def BallGroup.inReset : BallGroup → BallState
  | .hlFs => .differentialLow
  | .hlCk => .differentialLow
  | .hlD => .differentialLow
  | .hsense => .sourceOff
  | .rlTx _ => .idle
  | .ddr => .stopped
  | .csi => .lowPower
  | .sg => .released
  | .axOut => .low
  | .axB2 _ => .pulledDown
  | .led => .low
  | .xspi => .flashReset
  | .ppsOut => .low
  | .int _ => .openDrain
  | .tdo => .highImpedance

/-- The start-up step of Table 17-4 at which a group's function starts (Table 20-3); 0 is the release of RESET_N. -/
def BallGroup.startStep : BallGroup → Nat
  | .hlFs => 6
  | .hlCk => 1
  | .hlD => 6
  | .hsense => 6
  | .rlTx _ => 3
  | .ddr => 4
  | .csi => 3
  | .sg => 3
  | .axOut => 3
  | .axB2 _ => 3
  | .led => 3
  | .xspi => 0
  | .ppsOut => 3
  | .int _ => 0
  | .tdo => 0

/-- Table 20-3 in SAFE-HOLD. -/
def State.ballInHold (s : State) : BallGroup → BallState
  | .hlFs => .differentialLow
  | .hlCk => if s.islandLost 6 then .differentialLow else .running
  | .hlD => .differentialLow
  | .hsense => .sourceOff
  | .rlTx lane => if lane = 0 ∧ s.laneHeld = true then .index0 else .idle
  | .ddr => .selfRefresh
  | .csi => .lowPower
  | .sg => .released
  | .axOut => .low
  | .axB2 n => if s.axisExternal n then .input else .low
  | .led => .low
  | .xspi => .working
  | .ppsOut => .low
  | .int k => if s.intLow k then .low else .openDrain
  | .tdo => .highImpedance

/-- The last step of Table 17-4 that start-up has begun: the chip alone decides the steps to 3 at the release of RESET_N, or
only to 1 with the raster link under the recovery loader, and the others end at STARTUP_COMPLETE. -/
def State.stepReached (s : State) : Nat :=
  if s.mode ≠ 0 then 8 else if s.modes.loader then 1 else 3

/-- R523: the state of a group of balls. -/
def State.ball (s : State) (g : BallGroup) : BallState :=
  if s.sys.inReset then g.inReset
  else if s.mode = 7 then s.ballInHold g
  else
    let link : Bool := match g with
      | .rlTx _ => s.modes.loader
      | _ => false
    if s.stepReached < g.startStep ∧ link = false then g.inReset
    else match g with
      | .hlCk => if s.islandLost 6 then .differentialLow else .running
      | .int k => if s.intLow k then .low else .openDrain
      | .tdo => .highImpedance
      | _ => .working

/-- R532: whether an instruction of the test port that drives balls takes effect; BYPASS is executed in its place otherwise. -/
def State.scanDrives (s : State) : Bool := s.mode == 6

end Sys2Proof.Machine
end

