-- ==== Sys2Proof/Tests/Slice0.lean ====
section
/-! SUPPORT. Tests/Slice0.lean: the smoke test of WellFormed, single commands with results from the spec, and for every
statement a state and operands that meet its hypotheses, clause by clause. -/
namespace Sys2Proof.Tests

open Sys2Proof.Machine

set_option maxRecDepth 100000
set_option Elab.async false

/-! ### States and operands of the tests -/

/-- A chip that runs, in a mode. -/
def chip (mode : Nat) : State :=
  ({ State.reset with sys := { State.reset.sys with inReset := false } }).setRegN o2001.MODE mode

/-- One register of a state. -/
def put (s : State) (k v : Nat) : State := s.setRegN k v

/-- Blocks as a lane carries them after 58 line bits (R77). -/
def carried : Nat → List LineBlock → List LineBlock
  | _, [] => []
  | h, b :: rest =>
    let x := scramble h b.data
    { b with data := x.1 } :: carried x.2 rest

/-- What the 8 lanes carry: 64 good sync headers, then these blocks. -/
def onLanes (f : Nat → List LineBlock) : Reception :=
  { lanes := (List.range 8).map fun n => { clean := 64, last := some 0, blocks := carried 0 (f n) }, drains := [] }

/-- Lanes that carry nothing to look at. -/
def quiet : Reception := onLanes fun _ => []

/-- A chip whose raster link is up on lane 0, with credit. -/
def linked : State :=
  (put (put (put (chip 3) o4000.STATE 4) o4000.ACTIVE_LANES 1) o4000.WIDTH 1).withLink fun l =>
    { l with advR := 64, advC := 64, limitR := 64, limitC := 64, lanes := { l.lanes with stripe := 1 } }

/-- A packet as the host sends it, on lane 0. -/
def sent (type : Nat) (payload : Octets) : Reception :=
  onLanes fun n => if n = 0 then packetBlocks (startBlock type 0 0 payload.length) payload else []

/-- The packet that a chip reads from its lanes. -/
def got (s : State) (x : Reception) : Packet :=
  ((s.tick 0).packetIn x).getD { start := 0, payload := [], pad := [], lcrc := 0, broken := true }

/-- The chip once its lanes have been heard. -/
def heardBy (s : State) (x : Reception) : State := (s.tick 0).hear x

/-- A chip with one record in ring r. -/
def withRecord (s : State) (r : Nat) (words : List Nat) : State :=
  let laid := put s (o7401.RING_DESC + r) (place 0x10000 63 32 + 1)
  let header := place 0 63 32 + place r 31 24 + place words.length 23 16
  { laid.store 0x10000 (octetsOfWords (header :: words)) with
    events := { s.events with heads := s.events.heads.set r 1 } }

/-! ### WellFormed refuses an operand outside its range -/

/-- A request that a sender can form. -/
def plain : Request := { path := .raster, src := 0, port := 0, vlan := [], rx := 0, frame := [], lanes := quiet }
/-- Levels that a position input can take. -/
def still : Levels := { a := false, b := false, held := 0 }
/-- A training in which every step succeeds. -/
def goodTraining : Training :=
  { steps := List.replicate 2 (List.replicate 7 true), eyes := List.replicate 20 0, rfm := none }
/-- A frame that a sender can form. -/
def noFrame : NetFrame := { port := 1, fcsOk := true, data := [], residence := 0, full := [] }

/-- One ill-formed command for each check, part 1. -/
def illFormed1 : List Instr :=
  [.crossingStall (2 ^ 64) 1,
   .crossingStall 0 13,
   .islandClockLost 0 (.pll 3),
   .paceMeterWindow 0 (List.replicate 25 0),
   .breachEscalated 0 24 0,
   .breachEscalated 0 0 3,
   .positionEdge 0 2 still,
   .countPresetWrite 0 { plain with port := 1 },
   .slotCommit 0 64 0,
   .slotCommit 0 0 4,
   .rxLinkAck 0 { quiet with lanes := [] },
   .rxAmColumn 0 quiet (List.replicate 9 { parity := 0, skew := 0 }),
   .laneTestEnd 0 quiet (List.replicate 9 { errors := 0, eye := 0 }),
   .laneRetest 0 8 quiet { errors := 0, eye := 0 },
   .pageRelease 0 2 0]

/-- One ill-formed command for each check, part 2. -/
def illFormed2 : List Instr :=
  [.pageRelease 0 0 (2 ^ 32),
   .dramCe 0 2 0 [],
   .dramCe 0 0 0 [(16, 0)],
   .dramUe 0 0 10 0 [] false,
   .dramChannelRestored 0 0 (List.replicate 11 0),
   .trainWrite 0 plain { goodTraining with eyes := [] },
   .sluiceAdmitBand 0 17 0 [],
   .polderFault 0 0 4,
   .headPoll 0 512,
   .csiLinePacket 0 2 0 0 0 false [],
   .csiLinePacket 0 0 2 0 0 false [],
   .csiLinePacket 0 0 0 16 0 false [],
   .csiLinePacket 0 0 0 0 64 false [],
   .csiFrameStart 0 0 0 65536,
   .cameraLineTrigger 0 2]

/-- One ill-formed command for each check, part 3. -/
def illFormed3 : List Instr :=
  [.cameraLanesReady 0 0 65536,
   .probationRecheck 0 0 262144,
   .lightPulse 0 8,
   .segmentMeasure 0 16 0 0,
   .moveAbs 0 4 .ring,
   .moveAbs 0 0 (.write { plain with src := 2 ^ 48 }),
   .limitEdge 0 8 0 false,
   .chopCycle 0 0 2 0 0,
   .phyPoll 0 3 false false false,
   .switchFrameRx 0 { noFrame with port := 3 },
   .addressAgeing 0 (2 ^ 48),
   .timeTriggerFire 0 8,
   .trigEdge 0 0 false (2 ^ 64),
   .trigEdge 0 4 false 0,
   .notify 0 (2 ^ 32)]

/-- One ill-formed command for each check, part 4. -/
def illFormed4 : List Instr :=
  [.resetRelease 0 { preferredOk := true, otherOk := true, calOk := [], badMaps := [] },
   .startupComplete 0 { train := goodTraining, failed := [17] },
   .tideAck 0 20,
   .clearWrite 0 8 0 0 0,
   .clearWrite 0 1 2 0 0,
   .clearWrite 0 1 0 (2 ^ 64) 0,
   .clearWrite 0 1 0 0 (2 ^ 64),
   .mbNoticePost 0 1 32 0,
   .ringHeadWrite 0 1 16 0,
   .ringHeadWrite 0 1 0 (2 ^ 32),
   .lockRead 0 1 32 none,
   .laneFail 0 { quiet with lanes := List.replicate 8 { clean := 0, last := some (2 ^ 58), blocks := [] } },
   .memRead 0 { quiet with lanes := List.replicate 8 { clean := 0, last := none, blocks := [{ sync := 4, data := 0 }] } },
   .dramRefresh 0 2 0 0 { requests := [], bursts := [] },
   .dramRefresh 0 0 2 0 { requests := [], bursts := [] }]

/-- One ill-formed command for each check, part 5. -/
def illFormed5 : List Instr :=
  [.dramRefresh 0 0 0 2 { requests := [], bursts := [] },
   .dramRefresh 0 0 0 0 { requests := [{ port := 10, write := false, came := 0, channel := 0, granule := 0, rank := 0, bank := 0, row := 0 }], bursts := [] },
   .dramRowThrottle 0 0 0 0 32 0,
   .dramRowThrottle 0 0 0 0 0 (2 ^ 20),
   .headReply 0 0 [1024],
   .dieTrainEnd 0 0 256 (List.replicate 8 0),
   .dieTrainEnd 0 0 0 (List.replicate 7 0),
   .dieRetrainEnd 0 0 0 (List.replicate 8 (2 ^ 64)),
   .lockoutExpire 0 4 .raster 0,
   .lockoutExpire 0 1 .raster (2 ^ 48),
   .supplySag 0 7 0 0,
   .supplySag 0 0 (2 ^ 16) 0,
   .supplySag 0 0 0 (2 ^ 64)]

/-- Every one is refused. -/
theorem test_ill_formed : ((illFormed1 ++ illFormed2 ++ illFormed3 ++ illFormed4 ++ illFormed5).all fun i => !i.wf) = true := by decide +kernel

/-- Their kin with every operand in range are not. -/
theorem test_well_formed :
    (([.crossingStall 5 12, .islandClockLost 5 (.pll 11), .slotCommit 5 63 3, .rxBlockPacket 5 quiet, .switchFrameRx 5 noFrame,
      .read 5 plain, .mbNoticePost 5 7 31 0, .supplySag 5 15 0 1000] : List Instr).all fun i => i.wf) = true := by
  decide +kernel

/-! ### Every statement's hypotheses can be met -/

def restarting : State :=
  let p : Pair := { state := .restarting, times := [], doorbell := false }
  { chip 3 with sys := { (chip 3).sys with supervisor := p, motion := p } }
/-- A state and operands for each clause of `FirmwarePairsAndEscalationsTakeEffect`. -/
theorem test_meets_FirmwarePairsAndEscalationsTakeEffect :
    (Alive restarting) ∧
    (((restarting.tick 0).pair .motion).state ≠ .held) ∧
    (((restarting.tick 0).pair .motion).state = .restarting ∧ PairId.motion ≠ .supervisor) ∧
    (((restarting.tick 0).pair .supervisor).state = .restarting) ∧
    (0 < 24 ∧ 23 < 24) ∧
    ((21 = 21 ∨ 21 = 22) ∧ 1 ≤ 1 ∧ 2 < 3) ∧
    (23 ≠ 21 ∧ 23 ≠ 22) := by
  refine ⟨?_, ?_, ?_, ?_, ?_, ?_, ?_⟩ <;> decide +kernel

def bound_ : State := put (put (chip 3) o5000.BIND 0) o5004.STATE 1
/-- A state and operands for each clause of `IslandAndRegionFaultsTakeEffect`. -/
theorem test_meets_IslandAndRegionFaultsTakeEffect :
    (Alive (chip 3) ∧ 12 ≠ 9) ∧
    (0 < 2 ∧ (bound_.portPipeline 0).isSome = true ∧ Alive bound_) ∧
    (0 < 2 ∧ ((chip 3).portPipeline 0 = none ∨ false = false)) ∧
    (500 < 501 ∧ 500 ≤ 500) ∧
    (16 ≤ 16 ∧ 16 < 17) := by
  refine ⟨?_, ?_, ?_, ?_, ?_⟩ <;> decide +kernel

def lowPace : State := { chip 3 with sys := { (chip 3).sys with paceLow := [3] } }
/-- A state and operands for each clause of `PaceMeterWindowTakesEffect`. -/
theorem test_meets_PaceMeterWindowTakesEffect :
    (Alive (chip 3) ∧ Alive lowPace ∧ (List.replicate 24 999).length = 24 ∧ (lowest (List.replicate 24 999)).1 < 1024) ∧
    (((List.range 24).filter fun r => decide ((List.replicate 24 999).getD r 0 < 1000)).length = 24) ∧
    ((((List.range 24).filter fun r => decide ((List.replicate 24 999).getD r 0 < 1000)).filter fun r =>
        !lowPace.sys.paceLow.contains r).length = 23) ∧
    (((List.range 24).filter fun r => decide ((List.replicate 24 1024).getD r 0 < 1000)) = [] ∧ 1024 ≤ (lowest
        (List.replicate 24 1024)).1) := by
  refine ⟨?_, ?_, ?_, ?_⟩ <;> decide +kernel

def up_ : Levels := { a := true, b := false, held := 20 }
def formatted (mode n : Nat) : State := put (chip mode) (o6400.FORMAT + 256) n
def indexed : State :=
  let s := put (put (chip 3) o6400.INDEX_NOMINAL 2) o6400.COUNT 4
  put (s.setChannel 0 { s.channel 0 with index := some { count := 0, frac := 0, time := 0 }, missing := false }) o6400.INDEX_SOURCE 1
/-- A state and operands for each clause of `PositionEventsTakeEffect`. -/
theorem test_meets_PositionEventsTakeEffect :
    (0 < 2 ∧ Alive indexed ∧ indexed.islandLost 11 = false) ∧
    ((formatted 3 2).regN (o6400.FILTER_NS + 256 * 1) ≤ up_.held ∧ edgeOf ((formatted 3 2).regN (o6400.FORMAT + 256 * 1))
        ((formatted 3 2).channel 1).a ((formatted 3 2).channel 1).b up_.a up_.b = some false) ∧
    (Awake (formatted 7 2) ∧ (formatted 7 2).mode = 7 ∧ (formatted 7 2).islandLost 11 = false ∧ edgeOf ((formatted 7 2).regN
        (o6400.FORMAT + 256 * 1)) ((formatted 7 2).channel 1).a ((formatted 7 2).channel 1).b up_.a up_.b = some false) ∧
    (Awake (formatted 3 1) ∧ edgeOf ((formatted 3 1).regN (o6400.FORMAT + 256 * 1)) ((formatted 3 1).channel 1).a
        ((formatted 3 1).channel 1).b false true = none ∧ ¬((formatted 3 1).regN (o6400.FORMAT + 256 * 1) = 0 ∧ ((formatted
        3 1).channel 1).a ≠ false ∧ ((formatted 3 1).channel 1).b ≠ true)) ∧
    (19 < (chip 3).regN (o6400.FILTER_NS + 256 * 1)) ∧
    (Alive (chip 3) ∧ (chip 3).regN (o6400.FORMAT + 256 * 1) = 0 ∧ (chip 3).regN (o6400.FILTER_NS + 256 * 1) ≤ 20) ∧
    (Awake (formatted 3 2) ∧ (formatted 3 2).regN (o6400.FORMAT + 256 * 1) = 2 ∧ ((formatted 3 2).channel 1).a = false ∧
        ((formatted 3 2).channel 1).b = false) ∧
    (indexed.regN (o6400.INDEX_SOURCE + 256 * 0) = 1 ∧ indexed.regN (o6400.FILTER_NS + 256 * 0) ≤ 20) ∧
    (((indexed.tick 0).acceptLevels 0 up_).mode ≠ 7 ∧ ((indexed.tick 0).acceptLevels 0 up_).regN (o6400.INDEX_SOURCE + 256 *
        0) = 1 ∧ ((indexed.tick 0).acceptLevels 0 up_).regN (o6400.FILTER_NS + 256 * 0) ≤ 20) ∧
    ((indexed.channel 0).index = some { count := 0, frac := 0, time := 0 } ∧ (indexed.channel 0).missing = false ∧
        indexed.regN (o6400.INDEX_NOMINAL + 256 * 0) ≠ 0) ∧
    ((3 * indexed.regN (o6400.INDEX_NOMINAL + 256 * 0) : Int) < 2 * signed 48 (indexed.countOf 0 + (2 ^ 48 - 0))) ∧
    (indexed.statusBit 0 3 = false ∧ indexed.regN (o6400.STANDSTILL_MS + 256 * 0) * 1000000 ≤ max indexed.now (indexed.regN
        o6400.STANDSTILL_MS * 1000000) - (indexed.channel 0).times.headD indexed.sys.releasedAt) := by
  refine ⟨?_, ?_, ?_, ?_, ?_, ?_, ?_, ?_, ?_, ?_, ?_, ?_⟩ <;> decide +kernel

def checked (active checking : Int) : State :=
  let s := put (put (chip 3) o3101.ACTIVE 1) (o6400.STATUS + 256) 8
  { s with pos := { s.pos with checking := some 1, window := { s.pos.window with active := active, checking := checking } } }
def checkedBack (checking : Int) : State := put (put (checked 0 checking) o6400.STATUS 8) (o6400.STATUS + 256) 0
/-- A state and operands for each clause of `CrossCheckTakesEffect`. -/
theorem test_meets_CrossCheckTakesEffect :
    (Alive (checked 0 0) ∧ (checked 0 0).pacer = some 0 ∧ (checked 0 0).pos.checking = some 1) ∧
    (((checked 1000000 0).regN o3101.XCHECK_WINDOW * ((checked 1000000 0).netLines 0 (checked 1000000
        0).pos.window.active).2 : Nat) ≤ ((checked 1000000 0).netLines 0 (checked 1000000 0).pos.window.active).1.natAbs) ∧
    (((checked 0 0).netLines 0 (checked 0 0).pos.window.active).1.natAbs < (checked 0 0).regN o3101.XCHECK_WINDOW *
        ((checked 0 0).netLines 0 (checked 0 0).pos.window.active).2) ∧
    (64 * ((checked 64 0).netLines 0 (checked 64 0).pos.window.active).2 ≤ ((checked 64 0).netLines 0 (checked 64
        0).pos.window.active).1.natAbs ∧ (checked 64 0).still 1 = true) ∧
    (Alive (checkedBack 64) ∧ (checkedBack 64).pacer = some 0 ∧ (checkedBack 64).pos.checking = some 1) ∧
    (64 * ((checkedBack 64).netLines 1 (checkedBack 64).pos.window.checking).2 ≤ ((checkedBack 64).netLines 1 (checkedBack
        64).pos.window.checking).1.natAbs ∧ (checkedBack 64).still 0 = true ∧ (checkedBack 64).still 1 = false) := by
  refine ⟨?_, ?_, ?_, ?_, ?_, ?_⟩ <;> decide +kernel

def aBlock : Reception := sent 1 (octetsOf 16 0)
def aPageOp (op : Nat) : Reception := sent 2 (octetsOfWords [place op 31 24, 0, 0, 0])
def aMem (op : Nat) : Reception := sent 4 (octetsOfWords [place op 63 56, place 8 63 32])
def anEcho (back : Nat) : Reception := sent 10 (octetsOfWords [back * 2 ^ 39, 0])
def echoed : State := linked.withLink fun l => { l with echoSent := some (0, 0) }
def spent : State := linked.withLink fun l => { l with advR := 0 }
def ahead (n : Nat) : State := linked.withLink fun l => { l with expectSeq := n }
def badHead : Reception := onLanes fun n => if n = 0 then [controlBlock blockSTART 1] else []
def badTail : Reception := onLanes fun n =>
  if n = 0 then ((packetBlocks (startBlock 1 0 0 16) (octetsOf 16 0)).take 3) ++ [dataBlock (octetsOf 8 0)] else []
/-- A chip whose lanes carry a packet that is the next in order: its type and the OP in bits hi to lo of its first word. -/
def carries (s : State) (x : Reception) (type hi lo op : Nat) : Bool :=
  let p := got s x
  let u := heardBy s x
  decide (Linked s) && (s.tick 0).packetIn x == some p && decide (NextInOrder u p) && packetType p == type &&
    bits (packetWord p 0) hi lo == op
/-- A chip whose lanes carry a good packet of a type. -/
def hears (s : State) (x : Reception) (type : Nat) : Bool :=
  let p := got s x
  decide (Linked s) && (s.tick 0).packetIn x == some p && decide (GoodPacket (heardBy s x) p) && packetType p == type
/-- A state and operands for each clause of `PacketsTakeEffect`. -/
theorem test_meets_PacketsTakeEffect :
    (carries linked aBlock 1 0 0 0 = true) ∧
    (carries linked (aPageOp 1) 2 31 24 1 = true ∧ carries linked (aPageOp 2) 2 31 24 2 = true) ∧
    (carries linked (aPageOp 3) 2 31 24 3 = true ∧ carries linked (aPageOp 4) 2 31 24 4 = true ∧ ¬(1 ≤ 4 ∧ 4 ≤ 3)) ∧
    (carries linked (aMem 1) 4 63 56 1 = true ∧ carries linked (aMem 2) 4 63 56 2 = true) ∧
    (hears linked (sent 8 (octetsOf 16 0)) 8 = true ∧ hears linked (sent 9 (octetsOf 8 0)) 9 = true) ∧
    (hears linked (anEcho 0) 10 = true ∧ bit (packetWord (got linked (anEcho 0)) 0) 39 = false) ∧
    (hears echoed (anEcho 1) 10 = true ∧ bit (packetWord (got echoed (anEcho 1)) 0) 39 = true ∧ (heardBy echoed (anEcho
        1)).link.echoSent = some (bits (packetWord (got echoed (anEcho 1)) 0) 63 48, 0)) ∧
    ((linked.tick 0).packetIn badHead = some (got linked badHead) ∧ (heardBy linked badHead).linkUp = true ∧ hcrcOk (got
        linked badHead) = false) ∧
    ((linked.tick 0).packetIn (sent 1 []) = some (got linked (sent 1 [])) ∧ (heardBy linked (sent 1 [])).linkUp = true ∧
        hcrcOk (got linked (sent 1 [])) = true ∧ malformed (got linked (sent 1 [])) = true) ∧
    ((linked.tick 0).packetIn badTail = some (got linked badTail) ∧ (heardBy linked badTail).linkUp = true ∧ hcrcOk (got
        linked badTail) = true ∧ malformed (got linked badTail) = false ∧ lcrcOk (got linked badTail) = false) ∧
    (hears spent aBlock 1 = true ∧ packetSeq (got spent aBlock) = (heardBy spent aBlock).link.expectSeq ∧ signed16
        (packetSeq (got spent aBlock)) (heardBy spent aBlock).link.expectSeq = 0 ∧ (heardBy spent aBlock).freeUnits
        (packetType (got spent aBlock) == 3) < packetCost (packetLen (got spent aBlock))) ∧
    (hears (ahead 1) aBlock 1 = true ∧ signed16 (packetSeq (got (ahead 1) aBlock)) (heardBy (ahead 1) aBlock).link.expectSeq
        < 0) ∧
    (hears (ahead 65535) aBlock 1 = true ∧ 0 < signed16 (packetSeq (got (ahead 65535) aBlock)) (heardBy (ahead 65535)
        aBlock).link.expectSeq ∧ (heardBy (ahead 65535) aBlock).link.gapNack = none) := by
  refine ⟨?_, ?_, ?_, ?_, ?_, ?_, ?_, ?_, ?_, ?_, ?_, ?_, ?_⟩ <;> decide +kernel

def linkIn (st : Nat) : State := put (put (chip 3) o4000.STATE st) o4000.LANE_MASK 255
def ordered : State :=
  (linkIn 5).withLink fun l => { l with lanes := { l.lanes with order := some { mask := 1, target := 0, tries := 0, acked := false } } }
def stepping : State := (linkIn 3).withLink fun l => { l with lanes := { l.lanes with nextRate := some 1 } }
def failedLane : State := put linked o4000.FAILED_LANES 2
def linkBlock (op : Nat) : Reception :=
  onLanes fun n => if n = 0 then List.replicate 4 (controlBlock blockLINK (place op 55 48)) else []
def training : Reception := onLanes fun n => [controlBlock blockTRN (trnFields n 5 0 0 0 0 0 0 6 99)]
def good_ : LaneTest := { errors := 0, eye := 255 }
/-- The lanes that pass a test in RETRAIN. -/
def retrained (x : Reception) : Nat :=
  let u := heardBy (linkIn 6) x
  (State.testLanes (((linkIn 6).tick 0).hearAll x) (List.replicate 8 good_) (without u.laneLimit u.link.lanes.marked) u).1
/-- A state and operands for each clause of `LinkEventsTakeEffect`. -/
theorem test_meets_LinkEventsTakeEffect :
    (Linked (linkIn 1) ∧ Linked ordered ∧ Linked stepping ∧ Linked failedLane ∧ linked.linkUp = true) ∧
    (ordered.link.lanes.order = some { mask := 1, target := 0, tries := 0, acked := false } ∧ ordered.regN o4000.STATE = 5)
        ∧
    ((linked.tick 0).linkIn (linkBlock 3) = some (place 3 55 48) ∧ bits (place 3 55 48) 55 48 = 3) ∧
    ((linked.tick 0).linkIn (linkBlock 1) = some (place 1 55 48) ∧ bits (place 1 55 48) 55 48 = 1) ∧
    ((linked.tick 0).linkIn (linkBlock 4) = some (place 4 55 48) ∧ bits (place 4 55 48) 55 48 = 4 ∧ (heardBy linked
        (linkBlock 4)).regN o4000.STATE = 4) ∧
    (bits (place 3 55 48 + place 1 47 40) 47 40 = 1 ∧ bits (place 3 55 48 + place 1 47 40) 39 24 = 0) ∧
    (linked.regN o4000.STATE = 4) ∧
    (linked.link.lastAck + linked.regN o4000.REPLAY_TIMEOUT_US * 1000 ≤ max linked.now (linked.regN o4000.REPLAY_TIMEOUT_US
        * 1000)) ∧
    ((heardBy (linkIn 1) training).regN o4000.STATE = 1 ∧ (((linkIn 1).tick 0).hearAll training)[7]?.map (fun l =>
        l.after.locked) = some true ∧ heardTrn (((linkIn 1).tick 0).hearAll training) 7 = true) ∧
    ((linkIn 1).regN o4000.STATE = 1 ∧ (linkIn 2).regN o4000.STATE = 2) ∧
    (stepping.link.lanes.nextRate = some 1 ∧ stepping.regN o4000.STATE = 3) ∧
    ((heardBy (linkIn 6) quiet).regN o4000.STATE = 6 ∧ retrained quiet = 0) ∧
    ((heardBy (linkIn 6) training).regN o4000.STATE = 6 ∧ retrained training ≠ 0) ∧
    ((heardBy failedLane training).linkUp = true ∧ 1 < 8 ∧ bit ((heardBy failedLane training).regN o4000.FAILED_LANES) 1 =
        true ∧ (heardBy failedLane training).testOk 1 good_ = true) ∧
    ((lastOf ((failedLane.tick 0).hearAll training) blockTRN 1).any (fun f => bit f 28) = true) ∧
    ((heardBy failedLane training).testOk 1 { good_ with errors := 1 } = false) := by
  refine ⟨?_, ?_, ?_, ?_, ?_, ?_, ?_, ?_, ?_, ?_, ?_, ?_, ?_, ?_, ?_, ?_⟩ <;> decide +kernel

def aPage : Page :=
  { tag := 7, stream := 0, start := 0, lines := 64, total := 0, committed := true, flags := 0, reserved := 0, blocks := [],
    resend := [], freed := 0, blank := [], skipped := 0, abortAt := none, empty := [], starved := false, lacking := false,
    held := false }
def printingPage (hwm : Nat) : State :=
  let s := put (put (put (chip 4) o6402.HWM_COUNT hwm) o3101.ACTIVE 1) o4403.CHANNELS 3
  s.withPages fun q => { q with pages := [aPage] }
/-- A state and operands for each clause of `PageStoreEventsTakeEffect`. -/
theorem test_meets_PageStoreEventsTakeEffect :
    (Alive (printingPage 0) ∧ ((printingPage 100000).tick 0).pageOf 0 7 = some aPage ∧ (printingPage 100000).printing = true
        ∧ aPage.held = false) ∧
    ((aPage.endLine : Int) + ((printingPage 100000).tick 0).largestDelay < ((printingPage 100000).tick 0).firingLine) ∧
    (aPage.freed < aPage.bands ∧ ((min (aPage.start + 64 * aPage.freed + 63) (aPage.endLine - 1) : Nat) : Int) +
        ((printingPage 100000).tick 0).largestDelay < ((printingPage 100000).tick 0).firingLine) ∧
    ((printingPage 0).regN o4403.CHANNELS % 4 = 3 ∧ 0 < aPage.bands) ∧
    (((aPage.start + 64 * 0 : Nat) : Int) ≤ ((printingPage 0).tick 0).firingLine + (printingPage 0).regN o4400.MIRROR_LINES)
        := by
  refine ⟨?_, ?_, ?_, ?_, ?_⟩ <;> decide +kernel

def noTraffic : DramTraffic := { requests := [], bursts := [] }
def asked_ : DramRequest :=
  { port := 0, write := false, came := 0, channel := 0, granule := 0, rank := 0, bank := 0, row := 0 }
/-- A chip with n refreshes of rank 0 owed, a request of port 0 waiting there or not, and the other rank refreshed at a time. -/
def owing (n : Nat) (waits : Bool) (other : Nat) : State :=
  (put (put (chip 3) o4403.CHANNELS 3) o4400.WRITE_CRC 1).withDram fun d =>
    { d with owed := [(0, n)], waiting := if waits then [{ request := asked_, served := none }] else [], lastBurst := some (0, 0),
             refreshed := [(0, 1, other)] }
/-- The same once its traffic is served and the next refresh is timed. -/
def timed_ (n : Nat) (waits : Bool) (other : Nat) : State :=
  let u := ((owing n waits other).tick 0).serveTraffic 0 0 noTraffic
  u.withDram fun d => { d with dueAt := replaceKey d.dueAt 0 (heldFor u.dram.dueAt 0 u.now + u.refreshInterval) }
def hammered (port : Nat) : State :=
  (chip 3).withDram fun d =>
    { d with rows := [{ bank := 0, row := 0, count := (chip 3).regN o4400.ROW_ACT_LIMIT,
                        ports := (List.range 10).map fun p => if p = port then 1 else 0, handled := false }] }
/-- The port for which the row's limit is reached. -/
def worstPort (s : State) : Option Nat :=
  match s.dram.rows.find? (fun y => y.bank == 0 && y.row == 0) with
  | some x => if s.regN o4400.ROW_ACT_LIMIT ≤ x.count ∧ x.handled = false then
      bestBy (fun p : Nat => (x.ports.getD p 0 : Int)) (List.range 10) else none
  | none => none
def wornBank : State := (chip 3).withDram fun d => { d with rfm := some (32, 64), raa := [(0, 32)] }
/-- A state and operands for each clause of `DramEventsTakeEffect`. -/
theorem test_meets_DramEventsTakeEffect :
    (Alive (owing 3 true 1) ∧ (timed_ 3 true 1).channelUp 0 = true ∧ 0 < (timed_ 3 true 1).regN o4400.RANKS ∧ heldFor
        (((owing 3 true 1).tick 0).serveTraffic 0 0 noTraffic).dram.dueAt 0 0 ≤ (timed_ 3 true 1).now) ∧
    ((timed_ 3 false 0).otherRankRefreshed 0 0 0 = true) ∧
    ((timed_ 3 false 1).otherRankRefreshed 0 0 0 = false ∧ (timed_ 3 false 1).refreshWaits 0 = false) ∧
    ((timed_ 3 true 1).otherRankRefreshed 0 0 0 = false ∧ (timed_ 3 true 1).refreshWaits 0 = true ∧ heldFor (timed_ 3 true
        1).dram.owed 0 0 < 4) ∧
    ((timed_ 4 true 1).otherRankRefreshed 0 0 0 = false ∧ (timed_ 4 true 1).refreshWaits 0 = true ∧ 4 ≤ heldFor (timed_ 4
        true 1).dram.owed 0 0) ∧
    (worstPort (hammered 1) = some 1 ∧ worstPort (hammered 0) = some 0) ∧
    (wornBank.dram.rfm = some (32, 64) ∧ 32 ≤ heldFor wornBank.dram.raa 0 0) ∧
    ([(0, 0)] ≠ [] ∧ (chip 3).corrects [(0, 0)] = true ∧ (chip 3).corrects [(0, 0), (1, 7)] = false) ∧
    ((owing 0 false 0).flag o4400.WRITE_CRC = true ∧ 3 ≤ 3) ∧
    ((chip 3).dram.scrubFrom + (chip 3).regN o4400.SCRUB_HOURS * 3600000000000 ≤ max (chip 3).now ((chip 3).regN
        o4400.SCRUB_HOURS * 3600000000000)) := by
  refine ⟨?_, ?_, ?_, ?_, ?_, ?_, ?_, ?_, ?_, ?_⟩ <;> decide +kernel

def restoring : State := (put (chip 3) o4403.CHANNELS 1).withDram fun d => { d with restoring := some 1 }
/-- A state and operands for each clause of `ChannelEventsTakeEffect`. -/
theorem test_meets_ChannelEventsTakeEffect :
    (Alive restoring ∧ 0 < 2 ∧ restoring.channelUp 0 = true) ∧
    (restoring.dram.restoring = some 1) ∧
    (63 < 64 ∧ 64 ≤ 64 ∧ 32 < (-33 : Int).natAbs ∧ (-32 : Int).natAbs ≤ 32) := by
  refine ⟨?_, ?_, ?_⟩ <;> decide +kernel

def job (kind : Nat) : List Nat := [place 1 63 48 + place kind 47 40, 0, 0, 0, 0, 0, 0, 0]
def jobNext (kind : Nat) : State := (State.takeSlot 256 3 8 ((withRecord (chip 3) 3 (job kind)).tick 0)).2
def running : State :=
  (chip 3).withPages fun q => { q with jobs := [Job.fresh (job 1)] }
def verifying : State := (chip 3).withPages fun q => { q with queue1 := [.block (octetsOf 16 0) 0 0 false] }
/-- A state and operands for each clause of `VerifierAndCodecTakeEffect`. -/
theorem test_meets_VerifierAndCodecTakeEffect :
    (Alive running ∧ 1 < 2 ∧ verifying.queueOf 1 = .block (octetsOf 16 0) 0 0 false :: []) ∧
    ((withRecord (chip 3) 3 (job 1)).pageStore.jobs.length < 64) ∧
    ((State.takeSlot 256 3 8 ((withRecord (chip 3) 3 (job 1)).tick 0)).1 = some (job 1)) ∧
    (bits ((job 1).getD 0 0) 47 40 = 1 ∧ ((jobNext 1).makeJob (job 1) []).kind = 1) ∧
    ((State.takeSlot 256 3 8 ((withRecord (chip 3) 3 (job 2)).tick 0)).1 = some (job 2)) ∧
    (bits ((job 2).getD 0 0) 47 40 = 2 ∧ ((jobNext 2).makeJob (job 2) []).kind = 2) ∧
    ((State.takeSlot 256 3 8 ((withRecord (chip 3) 3 (job 3)).tick 0)).1 = some (job 3)) ∧
    (bits ((job 3).getD 0 0) 47 40 = 3 ∧ ((jobNext 3).makeJob (job 3) []).kind = 3) ∧
    ((running.pageStore.jobs.find? fun x => x.id == (Job.fresh (job 1)).id) = some (Job.fresh (job 1))) := by
  refine ⟨?_, ?_, ?_, ?_, ?_, ?_, ?_, ?_, ?_⟩ <;> decide +kernel

def polders (f : Polders → Polders) : State := (chip 4).withPolders f
/-- Die 0 of polder 0 with page lines 0 to 63 committed or not, its four blocks resident or not. -/
def fed (committed : Bool) (resident : Bool) : State :=
  let s := put (put (chip 4) o3000.DIES 1) o4403.CHANNELS 3
  let blocks : List Block := (List.range (if resident then 4 else 0)).map fun j =>
    { index := j, channel := 0, at_ := 0, data := octetsOf 16 0, mirrored := false, mirrorAt := 0, lost := false }
  s.withPages fun q => { q with pages := [{ aPage with total := 4, committed := committed, blocks := blocks }] }
def admitted : State :=
  (fed true true).mapStream 0 0 fun y => { y with bufs := [{ base := 0, first := 0, last := 63, tiles := [] }] }
/-- The dies of a stream whose lines polder p composes. -/
def hungry (s : State) : List Nat := ((s.tick 0).streamDies 0 0).filter fun d => decide ((s.tick 0).dieLevel d < 256)
def serving_ : State :=
  polders fun q => { q with serving := some 3, connected := false, spare := { q.spare with state := 10 } }
def shadowing : State := polders fun q => { q with shadowed := some 3, spare := { q.spare with state := 9 } }
def vigilant (mode flag_ : Nat) : State :=
  (put (chip mode) o3020.SHADOW_ENABLE flag_).withPolders fun q => { q with spare := { q.spare with state := 8 } }
def isolated (faults : Nat) : State := (chip 4).mapPolder 3 fun q => { q with state := 2, faults := faults }
def spareIsolated : State := (chip 4).mapPolder 16 fun q => { q with state := 2, faults := 2 }
def returning : State := ((chip 4).mapPolder 15 fun q => { q with state := 4 }).withPolders fun q => { q with returnAt := some 0 }
/-- A state and operands for each clause of `PolderEventsTakeEffect`. -/
theorem test_meets_PolderEventsTakeEffect :
    (Alive (fed true true) ∧ 0 < 16 ∧ 0 < 2 ∧ ((fed true true).tick 0).composes 0 = true ∧ ((fed true true).tick
        0).admitNext 0 0 = some 0) ∧
    ((((fed true true).tick 0).bandAt 0).map (fun x => (x.2.1, x.2.2.1, x.2.2.2)) = some (0, 0, 63) ∧ ((fed true
        true).streamOf 0 0).hasRoom 0 = true) ∧
    ((((fed true true).tick 0).bandAt 0).any (fun x => ((fed true true).tick 0).bandReady 0 0 x.1 x.2.1) = true) ∧
    ((((fed true false).tick 0).bandAt 0).any (fun x => x.1.committed && !((fed true false).tick 0).bandReady 0 0 x.1 x.2.1)
        = true) ∧
    ((((fed false true).tick 0).bandAt 0).any (fun x => !x.1.committed && !((fed false true).tick 0).bandReady 0 0 x.1
        x.2.1) = true) ∧
    (((fed true false).tick 0).composes 0 = true ∧ ((fed true false).tick 0).streamNext 0 0 = 0 ∧ ((fed true false).streamOf
        0 0).chunkAt 0 = none ∧ ((fed true false).tick 0).fifoLevel 0 0 ≤ 32 ∧ ((fed true false).streamOf 0 0).hasRoom 0 =
        true) ∧
    (hungry admitted ≠ [] ∧ smallest 0 ((hungry admitted).map (admitted.tick 0).dieNext) = 0 ∧ ((admitted.streamOf 0
        0).chunkAt 0).isSome = true) ∧
    (hungry (chip 4) ≠ [] ∧ ((chip 4).tick 0).composes 0 = true ∧ ((chip 4).streamOf 0 0).chunkAt 0 = none ∧ ((chip 4).tick
        0).bandAt 0 = none) ∧
    (Alive (chip 4) ∧ 16 ≤ 16 ∧ (2 = 2 ∨ 2 = 3) ∧ (3 = 2 ∨ 3 = 3) ∧ (chip 4).handshakes 16 = true) ∧
    (serving_.polders.serving = some 3 ∧ serving_.polders.connected = false ∧ serving_.polders.spare.state = 10 ∧ Alive
        serving_) ∧
    (shadowing.polders.shadowed = some 3 ∧ shadowing.polders.spare.state = 9 ∧ Alive shadowing) ∧
    ((vigilant 3 1).printing = false ∧ (vigilant 4 0).flag o3020.SHADOW_ENABLE = false ∧ (vigilant 3 1).polders.spare.state
        = 8) ∧
    ((vigilant 4 1).flag o3020.SHADOW_ENABLE = true ∧ (vigilant 4 1).printing = true ∧ ((vigilant 4 1).tick 0).shadowOver =
        true ∧ ((vigilant 4 1).tick 0).nextShadow none = some 0) ∧
    (Alive (isolated 2) ∧ ((isolated 2).polder 3).state = 2 ∧ ((isolated 2).polder 3).faults < 3) ∧
    (Alive spareIsolated ∧ 16 ≤ 16 ∧ (spareIsolated.polder 16).state = 2 ∧ (spareIsolated.polder 16).faults < 3) ∧
    (Alive returning ∧ 15 < 16 ∧ returning.polders.returnAt = some 0 ∧ (returning.polder 15).state = 4) ∧
    ((returning.tick 0).streamPast 15 0 0 = true ∧ (returning.tick 0).streamPast 15 1 0 = true) := by
  refine ⟨?_, ?_, ?_, ?_, ?_, ?_, ?_, ?_, ?_, ?_, ?_, ?_, ?_, ?_, ?_, ?_, ?_⟩ <;> decide +kernel

def seeped (n lost : Nat) : State :=
  (chip 3).withHealth fun h => { h with seeped := (chip 3).regN o3402.SEEP_RATE_LIMIT + n, lost := lost }
def due_ : State := (chip 3).withHealth fun h => { h with staged := [(0, 3)] }
def probing : State :=
  let p : Probe := { first := 0, last := 1, odd := 0, even := 0, lines := 0, start := some 0 }
  (put (chip 3) o3404.PROBE_STATE 2).withHealth fun h => { h with probe := some p }
/-- A state and operands for each clause of `HealthEventsTakeEffect`. -/
theorem test_meets_HealthEventsTakeEffect :
    (Alive (seeped 0 0) ∧ (seeped 0 0).health.lost = 0 ∧ (seeped 0 0).health.seeped ≤ (seeped 0 0).regN
        o3402.SEEP_RATE_LIMIT) ∧
    ((seeped 1 0).health.lost = 0 ∧ (seeped 1 0).regN o3402.SEEP_RATE_LIMIT < (seeped 1 0).health.seeped) ∧
    (0 < (seeped 1 1).health.lost ∧ (seeped 1 1).regN o3402.SEEP_RATE_LIMIT < (seeped 1 1).health.seeped) ∧
    (0 < (seeped 0 1).health.lost ∧ (seeped 0 1).health.seeped ≤ (seeped 0 1).regN o3402.SEEP_RATE_LIMIT) ∧
    (Alive due_ ∧ due_.mode ≠ 0 ∧ due_.healthDue = true ∧ due_.islandLost 11 = false) ∧
    (Alive probing ∧ probing.health.probe = some { first := 0, last := 1, odd := 0, even := 0, lines := 0, start := some 0
        }) ∧
    (probing.printing = false ∧ probing.regN o3404.PROBE_STATE = 2 ∧ (0 : Int) + 0 ≤ (probing.tick 0).firingLine) := by
  refine ⟨?_, ?_, ?_, ?_, ?_, ?_, ?_⟩ <;> decide +kernel

def upDie (mode : Nat) : State := (chip mode).setDie 0 { Die.unfitted with link := 2, upAt := 1 }
def lined (mode : Nat) : State :=
  let l : LaneLine := { line := 0, dies := [(0, [1])] }
  (upDie mode).withPolders fun q => { q with streams := q.streams.set 0 { Stream.idle with next := (1, 0), lines := [l] } }
def moving_ : State := put (put (lined 4) o3101.ACTIVE 1) o6402.HWM_COUNT 1000000
def burst_ : Burst := { preCount := 0, preWidth := 0, preGap := 0, main := 100, kwWidth := 0, kwCount := 0 }
def slot_ (i : Nat) : Slot := { line := 0, index := i, due := 0, setAt := 0, burst := burst_ }
def queued_ (i : Nat) (firing : Option (Int × Bool)) : State :=
  (lined 4).setRow 0 0 { RowLine.idle with queue := [slot_ i], firing := firing }
def noLine (mode : Nat) : State := upDie mode
def finishing : State := (upDie 3).setRow 0 0 { RowLine.idle with firing := some (0, false), slot := 15 }
/-- A state and operands for each clause of `FiringEventsTakeEffect`. -/
theorem test_meets_FiringEventsTakeEffect :
    (Awake moving_ ∧ 0 < moving_.regN o3000.DIES ∧ 3 < 4 ∧ moving_.printing = true) ∧
    ((moving_.tick 0).reachTime (moving_.slotPosition 0 3 (moving_.row 0 3).line (moving_.row 0 3).slot * 256) = some 0) ∧
    (0 ≤ fireTime (max moving_.now 0) + 2560) ∧
    (Awake (queued_ 0 none) ∧ 0 < (queued_ 0 none).regN o3000.DIES ∧ 0 < 4 ∧ ((queued_ 0 none).row 0 0).queue = [slot_ 0]) ∧
    ((queued_ 0 none).firing.cutoff = none ∧ max (slot_ 0).due (fireTime ((slot_ 0).setAt + 40)) * 5 / 64 ≤ max (queued_ 0
        none).now 40 ∧ (slot_ 0).index = 0) ∧
    (((((queued_ 0 none).tick 40).beginLine 0 0 (slot_ 0)).row 0 0).firing = some (0, false)) ∧
    (Awake (queued_ 15 (some (0, false))) ∧ ((queued_ 15 (some (0, false))).row 0 0).queue = [slot_ 15] ∧ (slot_ 15).index ≠
        0) ∧
    (max (max (slot_ 15).due (fireTime ((slot_ 15).setAt + 40))) ((queued_ 15 (some (0, false))).row 0 0).guardEnd * 5 / 64
        ≤ max (queued_ 15 (some (0, false))).now 40) ∧
    (((queued_ 15 (some (0, false))).row 0 0).firing = some ((slot_ 15).line, false) ∧ (queued_ 15 (some (0,
        false))).firing.cutoff = none) ∧
    (Alive (upDie 3) ∧ (upDie 3).mode = 3 ∧ (upDie 3).firing.warmAt + (upDie 3).regN o3610.KW_PERIOD_US * 1000 ≤ max (upDie
        3).now ((upDie 3).regN o3610.KW_PERIOD_US * 1000)) ∧
    (0 < 64 ∧ 2 ≤ ((upDie 3).die 0).link ∧ ((upDie 3).die 0).upAt ≠ 0 ∧ ((upDie 3).die 0).thermal.stale = false) ∧
    (((upDie 3).die 0).thermal.since + (upDie 3).regN o3610.STALE_MS * 1000000 ≤ max (upDie 3).now ((upDie 3).regN
        o3610.STALE_MS * 1000000)) ∧
    (Awake finishing ∧ finishing.printing = false ∧ (finishing.row 0 0).firing = some ((finishing.row 0 0).line, false)) ∧
    ((((finishing.tick 0).reachTimeBy none (finishing.slotPosition 0 0 (finishing.row 0 0).line (finishing.row 0 0).slot *
        256)).getD (fireTime (max finishing.now 0) + 2560)) ≤ fireTime (max finishing.now 0) + 2560) := by
  refine ⟨?_, ?_, ?_, ?_, ?_, ?_, ?_, ?_, ?_, ?_, ?_, ?_, ?_, ?_⟩ <;> decide +kernel

def lastDie : State := (chip 3).setDie 63 { Die.unfitted with link := 2 }
def training_ : State := (chip 0).setDie 63 { Die.unfitted with link := 1 }
/-- A chip that waits for the reply to a poll of lane 511. -/
def polling (link op : Nat) : State :=
  (chip 3).setDie 63 { Die.unfitted with link := link, polls := [{ lane := 7, op := op, arg := 0, counts := [], tags := [], fresh := true }] }
/-- The code groups of a reply of these octets. -/
def replyOf (o : Octets) : List Nat := (encodeSymbols false ([symIDLE, symIDLE, symSOFReply] ++ (o ++ crc16 o).map BitVec.toNat ++ [symEOF])).1
def goodReply (op : Nat) (groups : List Nat) : Option Octets :=
  (replyContent groups).filter fun o => o.length == replyLength op && o.drop (o.length - 2) == crc16 (o.take (o.length - 2))
def restarted (bits_ : Nat) : List Nat := replyOf (octetsOf 8 bits_)
/-- A state and operands for each clause of `HeadPollsTakeEffect`. -/
theorem test_meets_HeadPollsTakeEffect :
    (Alive training_ ∧ 511 < 512 ∧ (training_.die 63).nextBlock = some 0) ∧
    (Alive lastDie ∧ (lastDie.die 63).nextBlock = none ∧ lastDie.carries 63 = true ∧ (lastDie.tick 0).pollDue 511 = true) ∧
    (((polling 2 1).pollOf 511).isSome = true ∧ Alive (polling 2 1)) ∧
    (63 < 64 ∧ (((List.range 8).map fun i => ((lastDie.die 63).polled + 1 + i) % 8).find? fun i => !bit (lastDie.die
        63).lanesBad i && !(lastDie.printing && ((lastDie.tick 0).laneUse (8 * 63 + i)).polled)) = some 1) ∧
    (((polling 2 1).pollOf 511).map (fun q => q.op) = some 1 ∧ goodReply 1 [] = none) ∧
    (((polling 1 3).pollOf 511).map (fun q => q.op) = some 3 ∧ (goodReply 3 (replyOf (octetsOf 24 5))).isSome = true ∧
        (((polling 1 3).tick 0).pollOver 511).carries 63 = false) ∧
    ((((polling 2 1).tick 0).pollOver 511).carries 63 = true ∧ (goodReply 1 (restarted (2 ^ 16))).any (fun o => bit (memNum
        o 0 8) 16) = true) ∧
    ((goodReply 1 (restarted (2 ^ 19))).any (fun o => !bit (memNum o 0 8) 16) = true) ∧
    (Alive (lined 4) ∧ 0 < (lined 4).regN o3000.DIES ∧ 0 < 4 ∧ (lined 4).printing = true ∧ (lined 4).carries 0 = true) ∧
    (((lined 4).row 0 0).sendLine ≤ ((lined 4).tick 0).lineOnDie 0 0 + 1 ∧ ((lined 4).row 0 0).sendLine ≤ ((lined 4).tick
        0).lineOnDie 0 0) ∧
    ((((lined 4).tick 0).lineBits 0 0 ((lined 4).row 0 0).sendLine).isSome = true) ∧
    (Alive (lined 4) ∧ 7 < 8 ∧ 63 < (lined 4).regN o3000.DIES ∧ 3 < 4 ∧ (lined 4).printing = true) ∧
    (Alive lastDie ∧ lastDie.mode ≠ 0 ∧ 63 < lastDie.regN o3000.DIES ∧ (lastDie.tick 600000000000000).lifetimeDue 63 = true)
        := by
  refine ⟨?_, ?_, ?_, ?_, ?_, ?_, ?_, ?_, ?_, ?_, ?_, ?_, ?_⟩ <;> decide +kernel

/-- A block of identity memory that a list holds. -/
theorem get_listed (f : Nat → Octets) (l : List Nat) {k : Nat} (h : k ∈ l) :
    Cells.get (fun _ => []) (l.map fun i => (i, f i)) k = f k := by
  induction l with
  | nil => cases h
  | cons j rest ih =>
    simp only [List.map_cons, Cells.get]
    split
    · next e => rw [e]
    · next e => exact ih ((List.mem_cons.mp h).resolve_left (Ne.symm e))

/-- A die of which n blocks of identity memory have been read. -/
def reader (link n : Nat) (f : Nat → Octets) (memory : Octets) : Die :=
  { Die.unfitted with link := link, memory := memory, reading := (List.range n).map fun i => (i, f i) }

/-- Its blocks in order. -/
theorem blocks_read (link n : Nat) (f : Nat → Octets) (memory : Octets) :
    (reader link n f memory).readBlocks n = some ((List.range n).flatMap f) := by
  unfold Die.readBlocks
  rw [if_pos (by simp [reader])]
  simp only [List.flatMap_def]
  exact congrArg (fun l => some (List.flatten l)) (List.map_congr_left fun k h => get_listed f _ h)

def dieIn (x : Die) : State := (chip 3).setDie 63 x
/-- Die 63 of that chip. -/
theorem die_in (x : Die) : (dieIn x).die 63 = x := by
  show Cells.get (fun _ => Die.unfitted) (Cells.put (fun _ => Die.unfitted) [] 63 x) 63 = x
  unfold Cells.put
  split
  · next e => exact e.symm
  · rfl

/-- The octets of a good identity: a header, an empty dead-nozzle list and ranks of 0 with their CRC-32C. -/
def goodHead : Octets :=
  let o := octetsOf 2 1 ++ octetsOf 12 5 ++ octetsOf 2 0x4096 ++ octetsOf 8 0 ++ octetsOf 4 0x98F94189 ++ octetsOf 32 0
  o ++ octetsOf 4 (crc32c o) ++ octetsOf 0x1FC 0 ++ octetsOf 4 (crc32c (octetsOf 0x1FC 0)) ++ octetsOf 0x1C0 0
def goodBlock (i : Nat) : Octets := if i < 64 then memAt goodHead (16 * i) 16 else octetsOf 16 0
/-- Identity memory of n such blocks. -/
def goodMemory (n : Nat) : Octets := (List.range n).flatMap goodBlock
/-- The identity of `goodMemory`. -/
theorem good_key : identityKey (goodMemory 320) = octetsOf 12 5 := by decide +kernel
def wide : List Nat := List.replicate 8 (2 ^ 64 - 1)
def wanting : State := put (chip 3) o3802.QUARANTINE_MASK 1
def metering (idle : Bool) (task : Option Nat) : State :=
  (put (chip 3) o3805.METER_ENABLE 1).setDie 63
    { Die.unfitted with link := 2, meter := { Meter.fresh with task := task, idle := idle } }
/-- A state and operands for each clause of `HeadLinksAndMeterTakeEffect`. -/
theorem test_meets_HeadLinksAndMeterTakeEffect :
    (Alive (dieIn (reader 1 512 goodBlock [])) ∧ 63 < 64 ∧ ((dieIn (reader 1 512 goodBlock [])).die 63).link = 1) ∧
    (((dieIn (reader 1 512 goodBlock [])).die 63).readBlocks 512 = some (goodMemory 512) ∧ identityGood (goodMemory 512) =
        true) ∧
    (((dieIn (reader 1 512 (fun _ => octetsOf 16 0) [])).die 63).readBlocks 512 = some ((List.range 512).flatMap fun _ =>
        octetsOf 16 0) ∧ identityGood ((List.range 512).flatMap fun _ => octetsOf 16 0) = false) ∧
    (((chip 3).tick 0).badLanes 255 wide = 0 ∧ ((chip 3).tick 0).badLanes 0 wide ≠ 0 ∧ max 0 50000000 ≤ 0 + 50000000) ∧
    (((dieIn (reader 1 0 goodBlock [])).die 63).link = 1 ∧ ((dieIn (reader 1 0 goodBlock [])).die 63).readBlocks 512 = none)
        ∧
    (Alive (dieIn (reader 3 0 goodBlock [])) ∧ ((dieIn (reader 3 0 goodBlock [])).die 63).link = 3) ∧
    (((dieIn (reader 4 320 goodBlock goodHead)).die 63).link = 4 ∧ ((dieIn (reader 4 320 goodBlock goodHead)).die
        63).readBlocks 320 = some (goodMemory 320)) ∧
    (identityGood (goodMemory 320) = true ∧ identityKey (goodMemory 320) = identityKey ((dieIn (reader 4 320 goodBlock
        goodHead)).die 63).memory) ∧
    (identityKey (goodMemory 320) ≠ identityKey ((dieIn (reader 4 320 goodBlock [])).die 63).memory) ∧
    (Alive wanting ∧ wanting.quarantineDue = true) ∧
    (Alive (metering false none) ∧ ((metering false none).die 63).meter.idle = false ∧ ((metering false none).die 63).up =
        true ∧ (metering false none).meterOn = true) ∧
    (((metering true none).die 63).meter.idle = true ∧ ((metering true none).die 63).up = true ∧ (metering true
        none).meterOn = true) ∧
    (bit ((metering false none).regN o3805.SENSE_FAULTS) 63 = false ∧ ((metering false none).die 63).lastBurst = none) ∧
    (Alive (metering false (some 4096)) ∧ ((metering false (some 4096)).die 63).meter.task = some 4096) := by
  refine ⟨⟨by decide +kernel, by decide, by rw [die_in]; rfl⟩, by rw [die_in]; exact ⟨blocks_read _ _ _ _, by decide +kernel⟩, by rw [die_in]; exact ⟨blocks_read _ _ _ _, by decide +kernel⟩, ?_, ?_, ?_, by rw [die_in]; exact ⟨rfl, blocks_read _ _ _ _⟩, by rw [die_in]; exact ⟨by decide +kernel, good_key.trans (by decide +kernel)⟩, by rw [die_in, good_key]; decide, ?_, ?_, ?_, ?_, ?_⟩ <;> decide +kernel

def frame_ : Frame :=
  { number := 0, first := 0, start := 0, buffer := some 0, flags := 0, csi := 0, slots := [], closed := false, begun := false,
    ended := false, lost := false, lines := [], embedded := [], bad := 0, told := [] }
def camera (f : Pipeline → Pipeline) : State :=
  (put (put (put (chip 4) o5000.BIND 1) (o5000.BIND + 1) 0) (o5004.STATE + 1) 2).mapPipeline 1 f
/-- A camera whose tile 0 takes 8 RAW8 pixels of virtual channel 0. -/
def aTile : Nat := 2 ^ 63 + place 0x2A 57 52 + place 8 37 23
def received (begun : Bool) (bad : Nat) (embedded : List Octets) : State :=
  put (camera fun x => { x with frames := [{ frame_ with begun := begun, bad := bad, embedded := embedded }] }) (o5001.TILE + 8) aTile
def noFeed : TileFeed := { got := 0, held := [] }
/-- A frame that a camera receives, with another that waits behind it. -/
def overrun : State := camera fun x => { x with frames := [{ frame_ with begun := true }, { frame_ with number := 1 }] }
/-- The chip once the header of a packet has been looked at. -/
def headed (s : State) (header : Nat) : State := (s.tick 5).headerFix 1 header
/-- A state and operands for each clause of `CameraPacketsTakeEffect`. -/
theorem test_meets_CameraPacketsTakeEffect :
    (Alive (received true 0 []) ∧ (received true 0 []).portPipeline 0 = some 1 ∧ (received true 0 []).cameraState 1 = 2 ∧ 1
        ≠ 2) ∧
    (((headed (received true 0 []) 1).tiles 1).find? (fun i => tileVc ((headed (received true 0 []) 1).tileWord 1 i) == 0) =
        some 0 ∧ tileType ((headed (received true 0 []) 1).tileWord 1 0) = 0x2A) ∧
    ((tilePixels ((headed (received true 0 []) 1).tileWord 1 0) (List.range 8)).isSome = true) ∧
    (((headed (received true 0 []) 2).pipeline 1).receiving = some { frame_ with begun := true } ∧ dueSlots
        (frame_.slots.take frame_.lines.length) ≤ (((headed (received true 0 []) 2).pipeline 1).feeds.getD 0 noFeed).got) ∧
    (((headed (received true 0 []) 0).tiles 1).any (fun i => tileVc ((headed (received true 0 []) 0).tileWord 1 i) == 0) =
        true ∧ frame_.embedded.length < 2) ∧
    (((headed (received false 0 []) 0).pipeline 1).receiving = none ∧ (((headed (received false 0 []) 0).pipeline
        1).frames.find? fun f => !f.begun) = some frame_) ∧
    (((headed overrun 0).pipeline 1).receiving = some { frame_ with begun := true } ∧ ((((headed overrun 0).endCsi 1 {
        frame_ with begun := true }).pipeline 1).frames.find? fun f => !f.begun) = some { frame_ with number := 1 }) := by
  refine ⟨?_, ?_, ?_, ?_, ?_, ?_, ?_⟩ <;> decide +kernel

def unbegun (state : Nat) (f : Pipeline → Pipeline) : State := put (camera f) (o5004.STATE + 1) state
def nextSettings : Settings := { number := 1, exposure := 6000, gain := 0 }
def pending_ : State :=
  put (camera fun x => { x with pending := some nextSettings, syncCame := true }) (o5002.EXP_MAP + 1) (place 1 31 16 + 1)
/-- A write of settings under way after so many failures and tries. -/
def written_ (failures tries : Nat) : State :=
  let tr : Transaction := { settings := nextSettings, writes := [(1, 1, 6)], codes := (some 6, none), tries := tries }
  camera fun x => { x with failures := failures, write := some tr }
/-- The tries of that write. -/
def triesOf (s : State) : Option Nat := (s.pipeline 1).write.map fun tr => tr.tries
/-- A camera whose next trigger is due. -/
def triggered_ : State := put (camera fun x => { x with due := some 0 }) o3101.ACTIVE 1
def firing_ : State := (State.commitTrigger false (triggered_.tick 5) 1).extrapolate (State.commitTrigger false (triggered_.tick 5) 1).now
def restarting_ : State := unbegun 3 fun x => { x with restarts := [0] }
/-- A state and operands for each clause of `CameraPipelineEventsTakeEffect`. -/
theorem test_meets_CameraPipelineEventsTakeEffect :
    (Alive triggered_ ∧ 1 < 2 ∧ firing_.triggers 1 = true ∧ (firing_.pipeline 1).due = some 0 ∧ 0 ≤ fireTime firing_.now ∧
        firing_.boundPort 1 = some 0) ∧
    (firing_.frameStarts 1 (firing_.pipeline 1).nextLine = true ∧ (firing_.pipeline 1).pendingLines < firing_.regN
        (o5003.MAX_PENDING + 1) ∧ firing_.diagLineDue 1 = false) ∧
    (((camera fun x => { x with frames := [{ frame_ with closed := true }] }).pipeline 1).frames = [{ frame_ with closed :=
        true }] ∧ frame_.slots.length ≤ frame_.lines.length) ∧
    (Alive pending_ ∧ (pending_.pipeline 1).pending = some nextSettings ∧ (pending_.pipeline 1).write = none) ∧
    (pending_.boundPort 1 = some 0 ∧ pending_.cameraState 1 ≠ 4 ∧ (pending_.pipeline 1).syncCame = true ∧
        (pending_.settingsWrites 1 nextSettings).writes ≠ []) ∧
    (Alive (written_ 0 0) ∧ triesOf (written_ 0 0) = some 0 ∧ ((written_ 0 0).pipeline 1).failures + 1 < 10 ∧ 0 + 1 < 3 ∧
        (written_ 0 0).boundPort 1 = some 0) ∧
    (triesOf (written_ 8 2) = some 2 ∧ ((written_ 8 2).pipeline 1).failures + 1 < 10 ∧ 3 ≤ 2 + 1) ∧
    (triesOf (written_ 9 0) = some 0 ∧ 10 ≤ ((written_ 9 0).pipeline 1).failures + 1 ∧ (written_ 9 0).cameraState 1 = 2) ∧
    (Alive (unbegun 1 id) ∧ (unbegun 1 id).cameraState 1 = 1) ∧
    (Alive restarting_ ∧ restarting_.cameraState 1 = 3 ∧ max restarting_.now 20000000 ≤ (restarting_.pipeline
        1).restarts.headD 0 + 20000000) ∧
    ((restarting_.pipeline 1).restarts.headD 0 + 20000000 < max restarting_.now 20000001) := by
  refine ⟨?_, ?_, ?_, ?_, ?_, ?_, ?_, ?_, ?_, ?_, ?_⟩ <;> decide +kernel

def inspect_ (f : Inspection → Inspection) : State :=
  (camera id).withInspect fun q => f { q with units := q.units.map fun x => { x with blind := 0 } }
def analysed : State :=
  ((withRecord (camera id) 6 [0, 0, 0, 0]).mapPipeline 1 fun x =>
    { x with held := [{ inspected := false, released := true, frame := frame_, settings := Settings.first }] }).withInspect fun q =>
      { q with units := q.units.map fun x => { x with blind := 0 } }
def nextAnalysed : State := (State.takeSlot 64 6 4 (analysed.tick 5)).2
def heldFrame : HeldFrame := { inspected := false, released := true, frame := frame_, settings := Settings.first }
def tracked_ : Tracked := { pixel := 7, window := some 0, trace := [], samples := [] }
def streak_ : Streak :=
  { pixel := 7, excess := false, run := 3, confirmed := true, clearing := 0, profile := 0, tracked := tracked_, seq := 0,
    waits := false, probes := 1, queued := false, asked := false, probe := some (0, 0), settled := false }
def streaking : State := inspect_ fun q => { q with units := q.units.map fun x => { x with streaks := [streak_] } }
def recheck_ : Recheck := { pipeline := 1, nozzle := 131072, tracked := tracked_, probe := some (0, 0) }
def rechecking : State := inspect_ fun q => { q with recheck := some recheck_ }
def probation : State :=
  (put (put (inspect_ id) o3000.DIES 33) (o5001.TILE + 8) (2 ^ 63 + place 4096 37 23)).withHealth fun h => { h with inForce := [(131072, 14)] }
/-- A state and operands for each clause of `InspectionEventsTakeEffect`. -/
theorem test_meets_InspectionEventsTakeEffect :
    (Alive analysed ∧ 1 < 2 ∧ analysed.sys.inspection.state = .running ∧ analysed.regionLost 21 = false) ∧
    ((State.takeSlot 64 6 4 (analysed.tick 5)).1 = some [0, 0, 0, 0]) ∧
    (((nextAnalysed.pipeline 1).held.find? fun x => x.frame.number == bits 0 63 32 && !x.inspected) = some heldFrame) ∧
    (bit heldFrame.frame.flags 7 = false ∧ bit heldFrame.frame.flags 0 = false) ∧
    (((nextAnalysed.mapPipeline 1 fun x => { x with held := [] }).inspecting 1).blind = 0) ∧
    (Alive streaking ∧ streaking.sys.inspection.state = .running ∧ (streaking.inspecting 1).blind = 0) ∧
    (((streaking.inspecting 1).streaks.find? fun k => k.pixel == 7 && !k.excess && k.confirmed && !k.settled) = some
        streak_) ∧
    (streak_.tracked.window ≠ none ∧ (streaking.tick 5).namingSamples 1 streak_ = some []) ∧
    (Alive rechecking ∧ (rechecking.inspecting 1).blind = 0 ∧ rechecking.inspect.recheck = some recheck_ ∧ recheck_.pipeline
        = 1) ∧
    (recheck_.probe = some (0, 0) ∧ (0 : Int) ≤ (rechecking.tick 5).webLine (rechecking.inspecting 1).seenTo) ∧
    (Alive probation ∧ (probation.inspecting 1).blind = 0 ∧ probation.inspect.recheck = none ∧ stateIn
        probation.health.inForce 131072 = 2) ∧
    (causeIn probation.health.inForce 131072 = 3 ∧ probation.nozzleFitted 131072 = true ∧ probation.seesColumn 1 (namedOf
        131072).column = true) ∧
    ((probation.tick 5).probeIdle = true ∧ (probation.inspect.checked.find? fun c => c.1 == 131072) = none) ∧
    (probation.sys.releasedAt + probation.regN o5201.RECHECK_MIN * 60000000000 ≤ max probation.now (probation.regN
        o5201.RECHECK_MIN * 60000000000)) := by
  refine ⟨?_, ?_, ?_, ?_, ?_, ?_, ?_, ?_, ?_, ?_, ?_, ?_, ?_, ?_⟩ <;> decide +kernel

def lamps (state : Nat) (f : Lamp → Lamp) : State :=
  let s := put (camera id) (o5403.STATE + 1) state
  s.setLamp 1 (f (s.lamp 1))
def anExposure : Exposure := { opens := 0, ends := 100000, diag := false, rows := [(7, 500)] }
def windowed : State := lamps 1 fun x => { x with window := some anExposure }
def testing_ (state : Nat) : State := put (lamps 4 fun x => { x with testing := some ([7], []) }) (o5004.STATE + 1) state
def tested (seen : List (Nat × Nat)) : State := put (lamps 4 fun x => { x with testing := some ([], seen) }) o5400.COLS_FITTED 1
def twice : List (Nat × Nat) := [64, 80, 96, 112, 64, 80, 96, 112].map fun g => (g, 0)
def turned : State := put (lamps 1 fun x => { x with lines := 65535 }) (o5400.ON_NS + 7) 499
def pulsing : State :=
  { put (camera id) o5400.COLS_FITTED 0x8000 with light := { Light.reset with pulse := some { row := 7, start := 0, span := 500 } } }
def faulty : State := put (camera id) o5400.COLS_FITTED 0x8000
def segments (s : State) : List Nat := (s.lampRows 1).flatMap fun i => s.lampColumns.map fun j => 16 * i + j
/-- Whether a column's measured current at an instant is one of R333's faults. -/
def tooMuch (s : State) (t column current : Nat) : Bool :=
  match s.light.pulse with
  | some q => if max s.now t < q.start + q.span
    then decide (125 * s.regN (o5401.COL_CURRENT_MA + column) * (s.lamp (q.row / 4)).current < 1600 * current)
    else decide (s.regN (o5401.COL_CURRENT_MA + column) < 10 * current)
  | none => decide (s.regN (o5401.COL_CURRENT_MA + column) < 10 * current)
/-- A state and operands for each clause of `LightEventsTakeEffect`. -/
theorem test_meets_LightEventsTakeEffect :
    (Alive windowed ∧ 1 < 2 ∧ 7 < 8 ∧ 7 / 4 = 1 ∧ (windowed.tick 20000).granted = some 1 ∧ (windowed.tick 20000).columnsFree
        = true) ∧
    (windowed.triggers 1 = true ∧ (windowed.lamp 1).window = some anExposure) ∧
    (Alive (testing_ 0) ∧ ((testing_ 0).tick 5).columnsFree = true ∧ (testing_ 0).lampState 1 = 4 ∧ (testing_ 0).triggers 1
        = false) ∧
    (((testing_ 0).lamp 1).testing = some ([7], []) ∧ (((testing_ 0).lamp 1).testedAt = 0 ∨ ((testing_ 0).lamp 1).testedAt +
        10000 ≤ max (testing_ 0).now 5)) ∧
    (((testing_ 2).tick 5).columnsFree = true ∧ (testing_ 2).triggers 1 = true ∧ ((testing_ 2).tick 5).gapNow 1 = true) ∧
    (Alive turned ∧ (turned.tick 5).columnsFree = true ∧ turned.lampState 1 = 1 ∧ turned.triggers 1 = true ∧ turned.regN
        o5400.DIAG_PERIOD_LINES ≤ (turned.lamp 1).lines) ∧
    ((turned.tick 5).gapNow 1 = true ∧ nextInTurn ((turned.tick 5).diagRows 1) (turned.lamp 1).lastRow = some 4) ∧
    (Alive pulsing ∧ pulsing.light.pulse = some { row := 7, start := 0, span := 500 } ∧ 500 ≤ 500 ∧ 0 + 400 ≤ max
        pulsing.now 400) ∧
    (max pulsing.now 400 ≤ 0 + 500 ∧ pulsing.lampColumns.contains 15 = true) ∧
    ((pulsing.lamp (7 / 4)).testing = none) ∧
    (Alive faulty ∧ faulty.light.pulse = none ∧ faulty.lampColumns.contains 15 = true ∧ tooMuch faulty 0 15 5000 = true ∧
        tooMuch pulsing 0 15 500000 = true) ∧
    (Alive (tested twice) ∧ ((tested twice).lamp 1).testing = some ([], twice) ∧ (tested twice).lampState 1 = 4) ∧
    (((segments (tested twice)).any fun g => decide (((twice.filter fun e => e.1 == g).map fun e => e.2).length < 2)) =
        false) ∧
    (((-400 : Int) ≤ -400 ∧ (1500 : Int) ≤ 1500) ∧ ((-401 : Int) < -400 ∨ (1500 : Int) < -401) ∧ ((1501 : Int) < -400 ∨
        (1500 : Int) < 1501)) := by
  refine ⟨?_, ?_, ?_, ?_, ?_, ?_, ?_, ?_, ?_, ?_, ?_, ?_, ?_, ?_⟩ <;> decide +kernel

def order_ (op : Nat) : List Nat := [place op 47 40 + place 3 39 38, 0, 0, 0]
def axisOn : State := put (chip 3) (o6000.STATUS + 768) 1
def motionOrdered (op : Nat) : State := withRecord axisOn 12 (order_ op)
def motionNext (op : Nat) : State := (State.takeSlot 256 12 4 ((motionOrdered op).tick 5)).2
/-- Whether the next descriptor is the operation op of axis 3 and nothing refuses it. -/
def orderedOp (op : Nat) : Bool :=
  let m := readMotion (octetsOfWords (order_ op))
  (State.takeSlot 256 12 4 ((motionOrdered op).tick 5)).1 == some (order_ op) && m.axis == 3 && m.op == op &&
    (motionNext op).ringRefusal m (motionReserved (octetsOfWords (order_ op))) == 0
/-- A state and operands for each clause of `RingMotionCommandsTakeEffect`. -/
theorem test_meets_RingMotionCommandsTakeEffect :
    (Alive (motionOrdered 1) ∧ 3 < 4 ∧ (motionOrdered 1).sys.motion.state = .running) ∧
    (orderedOp 1 = true ∧ orderedOp 2 = true ∧ orderedOp 3 = true ∧ orderedOp 4 = true ∧ orderedOp 5 = true ∧ orderedOp 6 =
        true ∧ orderedOp 7 = true) := by
  refine ⟨?_, ?_⟩ <;> decide +kernel

def axis_ (s : State) (f : Axis → Axis) : State := s.setAxis 3 (f (s.axis 3))
def axisMoves : State := axis_ (put axisOn (o6000.DRIVE_MODE + 768) 1) fun x => { x with moving := true }
/-- The same after the step. -/
def stepped : State := (axisMoves.tick 0).stepPulse 3
def mapped : State := put (chip 3) (o6010.LIM_MAP + 7) (2 ^ 7 + 12)
def tripped_ : State :=
  let s := put mapped o6010.LIM_STATE 0x80
  { s with axes := { s.axes with limits := s.axes.limits.set 7 { first := 0, idle := some 0 } } }
def learnt_ : State := axis_ axisOn fun x => { x with learning := some 17 }
def external_ : State := put axisOn (o6000.DRIVE_MODE + 768) 1
def resting : State := axis_ axisOn fun x => { x with held := false }
/-- A bridge of axis 3 in a mode, with an offset of 1,000 mA. -/
def chopping (mode : Nat) : State :=
  put (axis_ axisOn fun x => { x with phaseB := { x.phaseB with mode := mode } }) (o6011.OFFSET_MA + 256 * 3) 1000
/-- Twice the current that the bridge regulates to, in mA. -/
def middle (s : State) : Int := 2 * (((s.setpoint 3 1 (s.axis 3).entry).natAbs : Int) + s.reg (o6011.OFFSET_MA + 256 * 3))
/-- The current of a bridge reaches the top of its hysteresis. -/
theorem current_high : ∃ current : Nat, middle (chopping 1) + (chopping 1).reg (o6011.HYST_MA + 256 * 3) < 2 * (current : Int) :=
  ⟨(middle (chopping 1) + (chopping 1).reg (o6011.HYST_MA + 256 * 3)).toNat + 1, by omega⟩
/-- No current lies below its bottom. -/
theorem current_low : 2 * ((0 : Nat) : Int) < middle (chopping 3) - (chopping 3).reg (o6011.HYST_MA + 256 * 3) := by
  have a : (chopping 3).reg (o6011.OFFSET_MA + 256 * 3) = 1000 := by decide +kernel
  have b : (chopping 3).reg (o6011.HYST_MA + 256 * 3) < 1000 := by decide +kernel
  unfold middle
  omega
/-- A state and operands for each clause of `AxisEventsTakeEffect`. -/
theorem test_meets_AxisEventsTakeEffect :
    (Alive axisMoves ∧ 3 < 4 ∧ (axisMoves.axis 3).moving = true ∧ (axisMoves.axis 3).due ≤ max axisMoves.now 0 ∧
        axisMoves.islandLost 11 = false) ∧
    (stepped.axisExternal 3 = true ∧ (stepped.axis 3).learning = none ∧ (stepped.axis 3).homing ≠ 3) ∧
    (Alive mapped ∧ 7 < 8 ∧ bit (mapped.regN (o6010.LIM_MAP + 7)) 7 = true ∧ bit (mapped.regN o6010.LIM_STATE) 7 = false) ∧
    (0 + mapped.regN o6010.LIM_FILTER_NS ≤ max mapped.now (mapped.regN o6010.LIM_FILTER_NS)) ∧
    (bits (mapped.regN (o6010.LIM_MAP + 7)) 3 2 = 3 ∧ (true != bit (mapped.regN (o6010.LIM_MAP + 7)) 6) = true) ∧
    (Alive tripped_ ∧ tripped_.axes.limits[7]? = some { first := 0, idle := some 0 } ∧ bit (tripped_.regN o6010.LIM_STATE) 7
        = true) ∧
    (0 + tripped_.regN o6010.DEBOUNCE_US * 1000 ≤ max tripped_.now (tripped_.regN o6010.DEBOUNCE_US * 1000) ∧ bits
        (tripped_.regN (o6010.LIM_MAP + 7)) 3 2 = 3) ∧
    (bit (tripped_.regN (o6010.LIM_MAP + 7)) 7 = true ∧ 0 + tripped_.regN o6010.LIM_FILTER_NS ≤ max tripped_.now
        (tripped_.regN o6010.LIM_FILTER_NS)) ∧
    (1 < 2 ∧ (chopping 1).axisExternal 3 = false ∧ (chopping 3).axisExternal 3 = false ∧ Alive (chopping 1)) ∧
    ((((chopping 1).axis 3).chopper 1).mode = 1 ∧ (((chopping 1).axis 3).chopper 1).since + (chopping 1).regN
        (o6011.CHOP_BLANK_NS + 256 * 3) ≤ max (chopping 1).now 65535) ∧
    (∃ current : Nat, middle (chopping 1) + (chopping 1).reg (o6011.HYST_MA + 256 * 3) < 2 * (current : Int)) ∧
    ((((chopping 3).axis 3).chopper 1).mode = 3 ∧ (((chopping 2).axis 3).chopper 1).mode = 2 ∧ (((chopping 2).axis
        3).chopper 1).since + (chopping 2).regN (o6011.OFF_MIN_NS + 256 * 3) ≤ max (chopping 2).now 65535) ∧
    (2 * ((0 : Nat) : Int) < middle (chopping 3) - (chopping 3).reg (o6011.HYST_MA + 256 * 3)) ∧
    (Alive resting ∧ (resting.axis 3).moving = false ∧ (resting.axis 3).held = false ∧ resting.axisExternal 3 = false ∧ bit
        (resting.axisReg 3 o6000.STATUS) 0 = true) ∧
    ((resting.axis 3).lastStep + resting.regN (o6011.HOLD_DELAY_MS + 256 * 3) * 1000000 ≤ max resting.now (resting.regN
        (o6011.HOLD_DELAY_MS + 256 * 3) * 1000000)) ∧
    (Alive learnt_ ∧ (learnt_.axis 3).learning = some 17 ∧ (learnt_.axis 3).moving = false ∧ learnt_.islandLost 11 = false)
        ∧
    (Alive external_ ∧ external_.axisExternal 3 = true ∧ (([10000] : List Nat).any fun x => decide (10000 ≤ x)) = true ∧ bit
        (external_.axisReg 3 o6000.STATUS) 0 = true) ∧
    (axisOn.axisExternal 3 = false ∧ (decide (2 ≤ ([40000, 40000] : List Nat).length) && ([40000, 40000] : List Nat).all fun
        i => decide (3 * axisOn.regN (o6011.I_MAX_MA + 256 * 3) < 2 * i)) = true) := by
  refine ⟨?_, ?_, ?_, ?_, ?_, ?_, ?_, ?_, ?_, ?_, current_high, ?_, current_low, ?_, ?_, ?_, ?_, ?_⟩ <;> decide +kernel

def up (s : State) : State := (s.setFlag o7200.LINK_UP true).setFlag (o7200.LINK_UP + 1) true
/-- A frame: destination, source, EtherType and body. -/
def netFrame (port dst type : Nat) (ok : Bool) (body : Octets) : NetFrame :=
  { port := port, fcsOk := ok, data := octetsOf 6 dst ++ octetsOf 6 2 ++ octetsOf 2 type ++ body, residence := 0, full := [] }
def ringFrame (kind mac : Nat) : NetFrame :=
  netFrame 1 0x034652000001 0x88B6 true (octetsOf 1 kind ++ octetsOf 5 0 ++ octetsOf 6 mac ++ octetsOf 8 0)
def manager (state : Nat) : State := put (put (up (chip 3)) o7200.RING_ROLE 2) o7200.RING_STATE state
def aged : State := { chip 3 with net := { Net.reset with table := [{ mac := 7, port := 2, seen := 0 }] } }
def seen_ (kind mac state : Nat) : State := (((manager state).tick 5).switchFrame (ringFrame kind mac)).2
theorem ring_origin (kind mac : Nat) : bodyField (ringFrame kind mac).data 6 6 = mac % 2 ^ 48 :=
  Laws.numberOf_octetsOf 6 mac
theorem other_origin : bodyField (ringFrame 1 (Config.mac + 1)).data 6 6 ≠ Config.mac % 2 ^ 48 := by
  rw [ring_origin]; omega
/-- A state and operands for each clause of `SwitchAndRingEventsTakeEffect`. -/
theorem test_meets_SwitchAndRingEventsTakeEffect :
    (Alive (up (chip 3)) ∧ (2 = 1 ∨ 2 = 2)) ∧
    ((up (chip 3)).netOn = true ∧ (up (chip 3)).portUp (netFrame 2 3 4 false []).port = true ∧ (netFrame 2 3 4 false
        []).fcsOk = false) ∧
    ((up (chip 3)).portUp (netFrame 2 3 4 true []).port = true ∧ (netFrame 2 3 4 true []).fcsOk = true ∧ isPtp (netFrame 2 3
        4 true []).data = false) ∧
    (isRing (netFrame 2 3 4 true []).data = false ∧ 14 ≤ (netFrame 2 3 4 true []).data.length ∧ (netFrame 2 3 4 true
        []).data.length ≤ 1518) ∧
    (¬((up (chip 3)).net.blocked = true ∧ (netFrame 2 3 4 true []).port = 2)) ∧
    (Alive aged ∧ aged.net.table = [{ mac := 7, port := 2, seen := 0 }]) ∧
    (0 + aged.regN o7200.AGEING_S * 1000000000 ≤ max aged.now (aged.regN o7200.AGEING_S * 1000000000)) ∧
    (Alive (manager 2) ∧ (manager 2).regN o7200.RING_ROLE = 2 ∧ (manager 2).netOn = true ∧ (manager 2).regN o7200.RING_STATE
        ≠ 1) ∧
    ((manager 2).net.lastCheck + 3 * (manager 2).regN o7200.RING_CHECK_MS * 1000000 ≤ max (manager 2).now (3 * (manager
        2).regN o7200.RING_CHECK_MS * 1000000)) ∧
    (Alive (manager 1) ∧ (manager 1).portUp 1 = true ∧ isRing (ringFrame 1 Config.mac).data = true ∧ (ringFrame 1
        Config.mac).fcsOk = true) ∧
    (bodyField (ringFrame 1 Config.mac).data 0 1 = 1 ∧ (seen_ 1 Config.mac 1).regN o7200.RING_ROLE = 2) ∧
    (bodyField (ringFrame 1 Config.mac).data 2 2 = (seen_ 1 Config.mac 1).regN o7200.RING_ID) ∧
    (bodyField (ringFrame 1 Config.mac).data 6 6 = Config.mac % 2 ^ 48) ∧
    ((seen_ 1 Config.mac 1).regN o7200.RING_STATE = 1 ∧ (seen_ 1 (Config.mac + 1) 1).regN o7200.RING_STATE ≠ 3) ∧
    (bodyField (ringFrame 1 (Config.mac + 1)).data 0 1 = 1 ∧ bodyField (ringFrame 1 (Config.mac + 1)).data 2 2 = (seen_ 1
        (Config.mac + 1) 1).regN o7200.RING_ID) ∧
    (bodyField (ringFrame 1 (Config.mac + 1)).data 6 6 ≠ Config.mac % 2 ^ 48) ∧
    (bodyField (ringFrame 2 7).data 0 1 = 2 ∧ bodyField (ringFrame 2 7).data 2 2 = (seen_ 2 7 1).regN o7200.RING_ID) := by
  refine ⟨?_, ?_, ?_, ?_, ?_, ?_, ?_, ?_, ?_, ?_, ?_, ?_, ring_origin 1 Config.mac, ?_, ?_, other_origin, ?_⟩ <;> decide +kernel

/-- A chip whose second port is blocked for all but ring and peer messages, so that the others reach only the clock. -/
def timed (f : Time → Time) : State :=
  let s := (up (chip 3)).setBlob o7000.MASTER_IDENTITY (octetsOf 8 9)
  let s := put (put s o7001.PTP_ROLE 1) o7000.STATE 2
  { s with net := { s.net with blocked := true }, time := f s.time }
def ptpMessage_ (type flags : Nat) (identity : Nat) : NetFrame :=
  netFrame 2 0x011B19000000 0x88F7 true (octetsOf 1 type ++ octetsOf 5 0 ++ octetsOf 1 flags ++ octetsOf 13 0 ++
    octetsOf 8 9 ++ octetsOf 2 1 ++ octetsOf 2 77 ++ octetsOf 12 0 ++ octetsOf 8 identity ++ octetsOf 16 0 ++
    /- Longer than the switch takes, so that a peer message too reaches only the clock. -/
    if type = 2 ∨ type = 3 ∨ type = 10 then octetsOf 1500 0 else [])
def enters (s : State) (f : NetFrame) (type : Nat) : State :=
  let switched := ((s.tick 5).switchFrame f).2
  if type < 4 then
    switched.stampReceive (switched.receivedAt switched.now f.port) 1 f.port (ptpSeq f.data) type
  else switched
def twoStep_ : TwoStep := { port := 2, seq := 77, source := 9 * 65536 + 1, received := 0, add := 0 }
def request_ (type : Nat) : DelayRequest :=
  { port := 2, seq := 77, sent := some 0, back := if type = 10 then some (0, 0) else none }
def inquiring (type : Nat) : State := timed fun x => { x with requests := [request_ type], forward := some 0 }
def answer_ (type : Nat) : NetFrame := ptpMessage_ type 0 ownIdentity
theorem identity_sum (a b c : Nat) (h1 : a < 16777216) (h2 : b < 16777216) (h3 : c < 65536) :
    a * 1099511627776 + c * 16777216 + b < 18446744073709551616 := by omega
theorem eui64_lt (m : Nat) : eui64 m < 18446744073709551616 := by
  have h1 : bits m 47 24 < 16777216 := Nat.mod_lt _ (Nat.two_pow_pos _)
  have h2 : bits m 23 0 < 16777216 := Nat.mod_lt _ (Nat.two_pow_pos _)
  have e : bits m 47 24 % 2 ^ (63 + 1 - 40) = bits m 47 24 := Nat.mod_eq_of_lt h1
  unfold eui64 place
  rw [Nat.shiftLeft_eq, Nat.shiftLeft_eq, e]
  exact identity_sum _ _ 65534 h1 h2 (by decide)
theorem ownIdentity_lt : ownIdentity < 18446744073709551616 := eui64_lt _
theorem answer_field (type flags identity : Nat) : bodyField (ptpMessage_ type flags identity).data 44 8 = identity % 2 ^ 64 :=
  Laws.numberOf_octetsOf 8 identity
theorem answer_identity (type : Nat) : bodyField (answer_ type).data 44 8 = ownIdentity := by
  unfold answer_
  rw [answer_field]
  exact Nat.mod_eq_of_lt ownIdentity_lt
theorem answers (s : State) (type : Nat) (r : DelayRequest)
    (h : (s.time.requests.find? fun r => r.seq == ptpSeq (answer_ type).data) = some r) :
    s.ownRequest (answer_ type).data = some r := by
  unfold State.ownRequest
  rw [if_pos (answer_identity type), h]
/-- A state and operands for each clause of `PtpMessagesTakeEffect`. -/
theorem test_meets_PtpMessagesTakeEffect :
    (Alive (timed id) ∧ (timed id).ptpTaken (ptpMessage_ 0 0 0) 0 = true ∧ (enters (timed id) (ptpMessage_ 0 0 0) 0).usesPtp
        (ptpMessage_ 0 0 0).data = true) ∧
    ((enters (timed id) (ptpMessage_ 0 0 0) 0).fromMaster (ptpMessage_ 0 0 0).data = true ∧ ptpTwoStep (ptpMessage_ 0 0
        0).data = false) ∧
    ((timed id).ptpTaken (ptpMessage_ 0 2 0) 0 = true ∧ (enters (timed id) (ptpMessage_ 0 2 0) 0).usesPtp (ptpMessage_ 0 2
        0).data = true) ∧
    ((enters (timed id) (ptpMessage_ 0 2 0) 0).fromMaster (ptpMessage_ 0 2 0).data = true ∧ ptpTwoStep (ptpMessage_ 0 2
        0).data = true) ∧
    (Alive (timed fun x => { x with twoStep := [twoStep_] }) ∧ (timed fun x => { x with twoStep := [twoStep_] }).ptpTaken
        (ptpMessage_ 8 0 0) 8 = true) ∧
    ((enters (timed fun x => { x with twoStep := [twoStep_] }) (ptpMessage_ 8 0 0) 8).usesPtp (ptpMessage_ 8 0 0).data =
        true ∧ (enters (timed fun x => { x with twoStep := [twoStep_] }) (ptpMessage_ 8 0 0) 8).fromMaster (ptpMessage_ 8 0
        0).data = true) ∧
    (((enters (timed fun x => { x with twoStep := [twoStep_] }) (ptpMessage_ 8 0 0) 8).time.twoStep.find? fun w => w.source
        == ptpSource (ptpMessage_ 8 0 0).data && w.seq == ptpSeq (ptpMessage_ 8 0 0).data && w.port == 2) = some twoStep_) ∧
    (Alive (inquiring 9) ∧ (inquiring 9).ptpTaken (answer_ 9) 9 = true ∧ (enters (inquiring 9) (answer_ 9) 9).usesPtp
        (answer_ 9).data = true) ∧
    ((enters (inquiring 9) (answer_ 9) 9).ownRequest (answer_ 9).data = some (request_ 9)) ∧
    ((request_ 9).sent = some 0 ∧ (enters (inquiring 9) (answer_ 9) 9).time.forward = some 0) ∧
    (Alive (put (timed id) o7001.DELAY_MECHANISM 2) ∧ (put (timed id) o7001.DELAY_MECHANISM 2).ptpTaken (ptpMessage_ 2 0 0)
        2 = true) ∧
    ((enters (put (timed id) o7001.DELAY_MECHANISM 2) (ptpMessage_ 2 0 0) 2).usesPtp (ptpMessage_ 2 0 0).data = true) ∧
    ((enters (put (timed id) o7001.DELAY_MECHANISM 2) (ptpMessage_ 2 0 0) 2).regN o7001.DELAY_MECHANISM = 2) ∧
    (Alive (inquiring 3) ∧ (inquiring 3).ptpTaken (answer_ 3) 3 = true ∧ (enters (inquiring 3) (answer_ 3) 3).usesPtp
        (answer_ 3).data = true) ∧
    ((enters (inquiring 3) (answer_ 3) 3).ownRequest (answer_ 3).data = some (request_ 3)) ∧
    ((request_ 3).sent = some 0 ∧ (request_ 3).back = none ∧ ptpTwoStep (answer_ 3).data = false) ∧
    (Alive (inquiring 10) ∧ (inquiring 10).ptpTaken (answer_ 10) 10 = true ∧ (enters (inquiring 10) (answer_ 10) 10).usesPtp
        (answer_ 10).data = true) ∧
    ((enters (inquiring 10) (answer_ 10) 10).ownRequest (answer_ 10).data = some (request_ 10)) ∧
    ((request_ 10).sent = some 0 ∧ (request_ 10).back = some (0, 0)) ∧
    ((timed id).ptpTaken (ptpMessage_ 11 0 0) 11 = true ∧ (enters (timed id) (ptpMessage_ 11 0 0) 11).usesPtp (ptpMessage_
        11 0 0).data = true) ∧
    (ptpTwoStep (ptpMessage_ 3 2 ownIdentity).data = true ∧ (inquiring 3).ptpTaken (ptpMessage_ 3 2 ownIdentity) 3 = true ∧
        (enters (inquiring 3) (ptpMessage_ 3 2 ownIdentity) 3).usesPtp (ptpMessage_ 3 2 ownIdentity).data = true) ∧
    ((enters (inquiring 3) (ptpMessage_ 3 2 ownIdentity) 3).ownRequest (ptpMessage_ 3 2 ownIdentity).data = some (request_
        3)) ∧
    (Alive (timed id)) := by
  refine ⟨?_, ?_, ?_, ?_, ?_, ?_, ?_, ?_, answers _ 9 _ (by decide +kernel), ?_, ?_, ?_, ?_, ?_, answers _ 3 _ (by decide +kernel), ?_, ?_, answers _ 10 _ (by decide +kernel), ?_, ?_, ?_, if_pos ((answer_field 3 2 ownIdentity).trans (Nat.mod_eq_of_lt ownIdentity_lt)) |>.trans (by decide +kernel), ?_⟩ <;> decide +kernel

def clocked (ps : List (Nat × Nat)) : State := ps.foldl (fun s p => put s p.1 p.2) (chip 3)
def ported (ps : List (Nat × Nat)) : State := (clocked ps).setFlag o7200.LINK_UP true
def asking : State := ported [(o7001.DELAY_MECHANISM, 1), (o7001.PTP_ROLE, 1), (o7002.SYNC_PORT, 1)]
def peering : State := ported [(o7001.DELAY_MECHANISM, 2)]
def mastering : State := ported [(o7001.PTP_ROLE, 2)]
def tracking : State := clocked [(o7000.STATE, 2)]
def armed (action period : Nat) : State :=
  clocked [(o7003.TRIGGER_CTRL + 5, 2 ^ 31 + place action 30 28 + period), (o7004.TRIG_EDGE, 0x40), (o7004.PPS_WIDTH_US, 10)]
/-- A state and operands for each clause of `ClockEventsTakeEffect`. -/
theorem test_meets_ClockEventsTakeEffect :
    (Alive asking ∧ asking.regN o7001.DELAY_MECHANISM = 1 ∧ asking.regN o7001.PTP_ROLE = 1 ∧ asking.timeValid = true ∧
        asking.portUp (asking.regN o7002.SYNC_PORT) = true) ∧
    (Alive peering ∧ peering.regN o7001.DELAY_MECHANISM = 2 ∧ peering.timeValid = true ∧ peering.portUp 1 = true ∧
        peering.portUp 2 = false) ∧
    (Alive mastering ∧ mastering.regN o7001.PTP_ROLE = 2 ∧ mastering.timeValid = true ∧ mastering.portUp 1 = true ∧
        mastering.portUp 2 = false) ∧
    (Alive tracking ∧ (tracking.regN o7000.STATE = 2 ∨ tracking.regN o7000.STATE = 3)) ∧
    (tracking.time.lastSync + tracking.regN o7000.HOLDOVER_SYNCS * tracking.syncInterval ≤ max tracking.now (tracking.regN
        o7000.HOLDOVER_SYNCS * tracking.syncInterval)) ∧
    (Alive (clocked [(o7000.STATE, 5)]) ∧ (clocked [(o7000.STATE, 5)]).regN o7000.STATE = 5) ∧
    (Alive (chip 3) ∧ (chip 3).islandLost 10 = false ∧ (chip 3).islandLost 11 = false) ∧
    (Alive (armed 2 0) ∧ 5 < 8 ∧ ((armed 2 0).tick 5).triggerDue 5 = true ∧ (∀ m, m < 5 → ((armed 2 0).tick 5).triggerDue m
        = false)) ∧
    (((armed 1 9).tick 5).triggerDue 5 = true ∧ ((armed 0 0).tick 5).triggerDue 5 = true) ∧
    (3 < 4 ∧ (armed 2 0).regN o7004.TRIG_FILTER_NS ≤ 255 ∧ bit (armed 2 0).time.trigHigh 3 = !true) ∧
    ((armed 2 0).regN o7004.PPS_WIDTH_US ≠ 0 ∧ (armed 2 0).timeValid = true ∧ (((armed 2 0).tick 0).localTime (max (armed 2
        0).now 0) % 1000000000 ≤ 4 ∨ 999999996 ≤ ((armed 2 0).tick 0).localTime (max (armed 2 0).now 0) % 1000000000)) := by
  refine ⟨?_, ?_, ?_, ?_, ?_, ?_, ?_, ?_, ?_, ?_, ?_⟩ <;> decide +kernel

def quietNotices : Notices := { mask := 0, seq := 0, lost := 0, queue := [], windowStart := 0, sent := 0 }
def session_ (isOpen : Bool) (role : Nat) : Session :=
  { slot := 0, id := 7, role := role, path := .network, src := 9, isOpen := isOpen, hostNonce := [], chipNonce := [], key := [1],
    startedAt := 0, lastValid := 0, highest := none, cache := [], done := [], running := [], staged := [],
    notices := quietNotices, snapshot := none, assembly := none }
/-- A request over the network in session 7: its operation, more bits of W0, and its body. -/
def ask (op more : Nat) (body : Octets) : Request :=
  { path := .network, src := 9, port := 1, vlan := [], rx := 0, lanes := quiet,
    frame := frameOf (place 1 63 60 + place op 55 48 + more + body.length) (place 7 63 32 + 1) body [1] }
/-- The body of a WRITE or STAGE of a number into a subindex. -/
def wrBody (k : Nat) (v : Int) : Octets :=
  let n := match rowOf k with
    | some r => r.len
    | none => 0
  octetsOf 8 (place (k / 256) 63 48 + place (k % 256) 47 40 + place (typeCode k) 39 24 + n) ++ pad8 (valueOctets n v)
def wr (op k : Nat) (v : Int) : Request := ask op 0 (wrBody k v)
/-- A chip whose raster link is up, with one session over the network. -/
def inSession (s : State) (x : Session) : State :=
  let s := (put (put (put s o4000.STATE 4) o4000.ACTIVE_LANES 1) o4000.WIDTH 1).withLink fun l =>
    { l with advR := 64, advC := 64, limitR := 64, limitC := 64, lanes := { l.lanes with stripe := 1 } }
  { s with aqlet := { s.aqlet with sessions := [x] } }
def maker : Session := session_ true 3
/-- A session over the raster link. -/
def byLink (x : Session) : Session := { x with path := .raster, src := 0 }
def makers (s : State) : State := inSession s maker
/-- What `Reaches` asks of a request that comes over the network. -/
abbrev ReachesBut (s : State) (rq : Request) : Prop :=
  Awake s ∧ (s.tick 5).netOn = true ∧ (s.tick 5).loaderOnly = false ∧ (s.tick 5).sys.supervisor.state = .running ∧
    (s.tick 5).ringEntries 13 < ringSlots 13 ∧ (readFrame rq.frame).check1 rq = 0
theorem reaches {s : State} {rq : Request} (p : rq.path = .network) (h : ReachesBut s rq) : Reaches s 5 rq := by
  obtain ⟨a, b, c, d, e, f⟩ := h
  have g : heard (s.tick 5) rq = rq := by unfold heard; rw [p]
  have o : onPath (s.tick 5) rq = s.tick 5 := by unfold onPath; rw [p]
  exact ⟨a, by unfold Comes; rw [p]; exact b, by rw [o]; exact Or.inr ⟨d, e⟩, by rw [g]; exact f⟩
/-- The same request in a CTRL packet that lane 0 carries. -/
def overLink (rq : Request) : Request := { rq with path := .raster, src := 0, port := 0, frame := [], lanes := sent 3 rq.frame }
/-- What `Reaches` asks of a request that comes over the raster link. -/
abbrev LinkReaches (s : State) (rq : Request) : Prop :=
  let u := onPath (s.tick 5) rq
  Awake s ∧ ¬((s.tick 5).mode = 7 ∧ (s.tick 5).power.holding ≠ .afterFault) ∧
    ((s.tick 5).packetIn rq.lanes).any (fun p => packetType p == 3 && decide (NextInOrder ((s.tick 5).hear rq.lanes) p)) = true ∧
    u.loaderOnly = false ∧ u.sys.supervisor.state = .running ∧ u.ringEntries 13 < ringSlots 13 ∧
    (readFrame (heard (s.tick 5) rq).frame).check1 (heard (s.tick 5) rq) = 0
theorem reaches_by_link {s : State} {rq : Request} (p : rq.path = .raster) (h : LinkReaches s rq) : Reaches s 5 rq := by
  obtain ⟨a, b, c, d, e, f, g⟩ := h
  refine ⟨a, ?_, Or.inr ⟨e, f⟩, g⟩
  unfold Comes
  rw [p]
  refine ⟨b, ?_⟩
  revert c
  cases z : (s.tick 5).packetIn rq.lanes with
  | none => intro c; cases c
  | some q =>
    intro c
    simp only [Option.any_some, Bool.and_eq_true, beq_iff_eq, decide_eq_true_eq] at c
    exact ⟨q, rfl, c.1, c.2⟩
/-- What `Admitted` asks of a request that comes over the raster link. -/
abbrev LinkAdmitted (s : State) (rq : Request) (x : Session) : Prop :=
  let r := readFrame (heard (s.tick 5) rq).frame
  LinkReaches s rq ∧ rq.path = .raster ∧ ¬(r.op = 0x10 ∨ r.op = 0x11) ∧
    (looking s 5 rq).sessionFor r.session (heard (s.tick 5) rq) = some x ∧ x.isOpen = true ∧ r.tag = tagOf x.key r.signed ∧
    x.checkSeq r.seq r.reqId = .execute
theorem admits_by_link {s : State} {rq : Request} {x : Session} (h : LinkAdmitted s rq x) : Admitted s 5 rq x :=
  ⟨reaches_by_link h.2.1 h.1, h.2.2⟩
/-- What `Admitted` asks beside the `TAG`. -/
abbrev AdmittedBut (s : State) (rq : Request) (x : Session) : Prop :=
  ReachesBut s rq ∧ rq.path = .network ∧ ¬((readFrame rq.frame).op = 0x10 ∨ (readFrame rq.frame).op = 0x11) ∧
    (looking s 5 rq).sessionFor (readFrame rq.frame).session rq = some x ∧ x.isOpen = true ∧
    x.checkSeq (readFrame rq.frame).seq (readFrame rq.frame).reqId = .execute
theorem ask_tag (op more : Nat) (body : Octets)
    (n : bits ((place 1 63 60 + place op 55 48 + more + body.length) % 256 ^ 8) 15 0 = body.length) :
    (readFrame (ask op more body).frame).tag = tagOf [1] (readFrame (ask op more body).frame).signed := by
  unfold ask
  rw [Laws.readFrame_frameOf _ _ _ _ rfl n]
/-- A request under the session's key, with a length that fits, is admitted when the rest holds. -/
theorem admits {s : State} {x : Session} (op more : Nat) (body : Octets) (k : x.key = [1])
    (n : bits ((place 1 63 60 + place op 55 48 + more + body.length) % 256 ^ 8) 15 0 = body.length)
    (h : AdmittedBut s (ask op more body) x) : Admitted s 5 (ask op more body) x :=
  ⟨reaches h.2.1 h.1, h.2.2.1, h.2.2.2.1, h.2.2.2.2.1, by rw [k]; exact ask_tag op more body n, h.2.2.2.2.2⟩
/-- What `Granted` asks beside the admission. -/
abbrev GrantedBut (s : State) (rq : Request) (x : Session) : Prop :=
  let q := heard (s.tick 5) rq
  let r := readFrame q.frame
  let u := serving s 5 rq x
  r.op = 2 ∧ check3 r.key = 0 ∧ check4 x.role r.key 2 = 0 ∧
    u.check5 2 r.key (valueOctetsOf q) x.role x.path = 0 ∧
    u.check6 r.key (bits (r.word 0) 39 24) (valueOctetsOf q) true u.reg = 0 ∧
    (r.key = o2000.REQUEST → u.requestCheck (valueIn q).toNat x.role = 0) ∧
    u.stateCode r.key (valueIn q) (valueOctetsOf q) = 0 ∧ u.modes.commit = none ∧ u.ownerLost r.key = false ∧
    r.key ≠ o7E01.IMAGE
/-- A write in a session of the maker, with a length that fits, is granted when the rest holds. -/
theorem grants {s : State} {k : Nat} {v : Int}
    (n : bits ((place 1 63 60 + place 2 55 48 + 0 + (wrBody k v).length) % 256 ^ 8) 15 0 = (wrBody k v).length)
    (h : AdmittedBut (makers s) (wr 2 k v) maker ∧ GrantedBut (makers s) (wr 2 k v) maker) :
    Granted (makers s) 5 (wr 2 k v) maker :=
  ⟨admits 2 0 _ rfl n h.1, h.2⟩
def opens (role : Nat) : Request :=
  { path := .network, src := 9, port := 1, vlan := [], rx := 0, lanes := quiet,
    frame := frameOf (place 1 63 60 + place 0x10 55 48 + 24) 0 (octetsOf 8 (place role 63 62) ++ octetsOf 16 0) [] }
/-- A chip whose operator secret is set. -/
def withSecret (s : State) : State := { s with flash := { s.flash with secrets := s.flash.secrets.set 0 (octetsOf 32 5) } }
def halfOpen : Session := session_ false 3
def proves : Request :=
  { path := .network, src := 9, port := 1, vlan := [], rx := 0, lanes := quiet,
    frame := frameOf (place 1 63 60 + place 0x11 55 48 + 32) (place 7 63 32) (hmac (List.replicate 32 0) (proofMessage 0x48 halfOpen)) [] }
/-- A state and operands for each clause of `SessionCommandsTakeEffect`. -/
theorem test_meets_SessionCommandsTakeEffect :
    (Reaches (makers (chip 3)) 5 (opens 1)) ∧
    ((readFrame (opens 1).frame).op = 0x10 ∧ (readFrame (opens 1).frame).tag = List.replicate 8 0) ∧
    ((looking (makers (chip 3)) 5 (opens 1)).lockedOut (bits ((readFrame (opens 1).frame).word 0) 63 62) (opens 1) = false ∧
        (looking (makers (chip 3)) 5 (opens 1)).loaderOnly = false) ∧
    (bits ((readFrame (opens 1).frame).word 0) 63 62 ≠ 0 ∧ (looking (withSecret (makers (chip 3))) 5 (opens 1)).secretSet
        (bits ((readFrame (opens 1).frame).word 0) 63 62) = true) ∧
    (Reaches (makers (chip 3)) 5 (overLink (opens 1))) ∧
    ((List.range 8).find? (fun n => (looking (makers (chip 3)) 5 (opens 1)).aqlet.sessions.all fun x => x.slot != n) = some
        1) ∧
    (Reaches (inSession (chip 3) halfOpen) 5 proves) ∧
    ((readFrame proves.frame).op = 0x11 ∧ (readFrame proves.frame).tag = List.replicate 8 0) ∧
    ((looking (inSession (chip 3) halfOpen) 5 proves).sessionFor (readFrame proves.frame).session proves = some halfOpen ∧
        halfOpen.isOpen = false) ∧
    ((readFrame proves.frame).seq = 0 ∧ (readFrame proves.frame).body = hmac ((looking (inSession (chip 3) halfOpen) 5
        proves).secret halfOpen.role) (proofMessage 0x48 halfOpen)) ∧
    (Admitted (makers (chip 3)) 5 (ask 0x12 0 []) maker) ∧
    ((readFrame (ask 0x12 0 []).frame).op = 0x12 ∧ (serving (makers (chip 3)) 5 (ask 0x12 0 []) maker).loaderOnly = false) ∧
    (Awake (inSession (chip 7) halfOpen) ∧ (inSession (chip 7) halfOpen).sessionById 7 = some halfOpen ∧ halfOpen.startedAt
        + 5000000000 ≤ max (inSession (chip 7) halfOpen).now 5000000000) ∧
    ((makers (chip 3)).sessionById 7 = some maker ∧ maker.isOpen = true) ∧
    (maker.lastValid + (makers (chip 3)).regN o2100.SESSION_IDLE_S * 1000000000 ≤ max (makers (chip 3)).now ((makers (chip
        3)).regN o2100.SESSION_IDLE_S * 1000000000)) := by
  refine ⟨reaches rfl (by decide +kernel), ?_, ?_, ?_, reaches_by_link rfl (by decide +kernel), ?_, reaches rfl (by decide +kernel), ?_, ?_, ?_, admits 0x12 0 [] rfl (by decide +kernel) (by decide +kernel), ?_, ?_, ?_, ?_⟩ <;> decide +kernel

def keyed (k : Nat) : Octets := octetsOf 8 (place (k / 256) 63 48 + place (k % 256) 47 40)
/-- A block request: its operation, `LAST`, its subindex, W1 and the octets that follow. -/
def block (op : Nat) (last : Bool) (k off n : Nat) (o : Octets) : Request :=
  ask op (if last then 2 ^ 44 else 0) (keyed k ++ octetsOf 8 (place off 63 32 + n) ++ o)
def reads_ : Request := ask 1 0 (keyed o2001.MODE)
def put_ (op k : Nat) (v : Int) (x : Session) (s : State) : State := serving (inSession s x) 5 (wr op k v) x
def transfer (k : Nat) (n total : Nat) : Transfer := { key := k, total := total, data := List.replicate n 0, last := 0 }
def snapped : Session := { maker with snapshot := some (transfer o1030.DIRECTORY 16 16) }
def assembling : Session := byLink { maker with assembly := some (transfer o2102.SECRET_MAKER 24 32) }
def mapping : Session := { maker with assembly := some (transfer o3403.MAP 65528 65536) }
def staging_ : Session := { maker with staged := [(o3802.QUARANTINE_MASK, 0)] }
def commits (action lead : Nat) : Request := ask 6 0 (octetsOf 8 (place action 63 56 + lead))
def committing_ : State :=
  let c : Commit :=
    { source := .firmware, stage := .settled, entries := [], old := [], lead := 4096, line := 0, waiting := [], since := 0 }
  { chip 3 with modes := { Modes.reset with commit := some c } }
def triggers_ : Request := ask 8 0 (octetsOf 8 (place 5 63 56 + 2 ^ 28) ++ octetsOf 8 1000)
def lastMap : Request := block 4 true o3403.MAP 65528 65536 (octetsOf 8 0)
def lastSecret : Request := block 4 true o2102.SECRET_MAKER 24 32 (octetsOf 8 0)
def assembled (x : Session) (rq : Request) : State :=
  (serving (inSession (chip 3) x) 5 rq x).mapSession 7 fun z => { z with assembly := none }
/-- A whole map fits its subindex in every state. -/
theorem map_fits (s : State) (o : Octets) (look : Nat → Int) (h : o.length = 65536) : s.check6 o3403.MAP 0 o false look = 0 := by
  have type : typeOk o3403.MAP 0 o.length false = true := by rw [h]; decide
  have value : valueOf o3403.MAP o = 0 := rfl
  have own : ownCode o3403.MAP 0 o = 0 := by unfold ownCode; rw [h]; decide
  have order : s.orderCode o3403.MAP 0 look = 0 := by
    unfold State.orderCode
    simp only []
    repeat rw [if_neg (by decide)]
  have set_ : s.setCode o3403.MAP 0 = 0 := by
    unfold State.setCode
    simp only []
    rw [if_neg (fun z => absurd z.1 (by decide)), if_neg (fun z => absurd z.1 (by decide)),
      if_neg (fun z => absurd z.1 (by decide)), if_neg (by decide)]
  have command : s.commandCode o3403.MAP 0 o = 0 := by
    unfold State.commandCode
    simp only []
    repeat first | rw [if_neg (by decide)] | rw [if_neg (fun z => absurd z.1 (by decide))]
  have code : s.valueCode o3403.MAP 0 o look = 0 := by
    unfold State.valueCode
    simp only [own, order, set_, command, show fitChecked o3403.MAP = false by decide, Bool.false_eq_true, if_false]
    decide
  have row : rowOf o3403.MAP = some ⟨0x01, 0x01, .domain, (1, 3, 3), .t, 0, 0, 0, 65536, true⟩ := by decide
  unfold State.check6
  rw [if_neg (by rw [type]; decide), value, row]
  simp only [code]
  decide
theorem lapse_one {s : State} {x : Session} (h : s.aqlet.sessions = [x]) (o : x.unproved s.now = false)
    (i : s.idleOut x = false) (n : x.snapshot = none) (a : (x.assembly.any fun y => y.stale s.now) = false) :
    s.lapse.aqlet.sessions = [x] := by
  have e : ({ x with snapshot := x.snapshot.filter fun y => !y.stale s.now } : Session) = x := by
    obtain ⟨⟩ := x; subst n; rfl
  let w : State := { s with aqlet := { s.aqlet with lockouts := s.aqlet.lockouts.filter fun a => !s.lockoutOver a } }
  have h1 : w.lapseSession x = w := by
    unfold State.lapseSession
    rw [if_neg (by show ¬ x.unproved s.now = true; simp [o]), if_neg (by show ¬ s.idleOut x = true; simp [i])]
  have hw : w.aqlet.sessions = [x] := h
  have h2 : (w.lapseSnapshot x.id).aqlet.sessions = [x] := by
    unfold State.lapseSnapshot State.mapSession
    simp only [hw, List.map_cons, List.map_nil]
    simpa using e
  have h3 : (w.lapseSnapshot x.id).lapseAssembly x.id = w.lapseSnapshot x.id := by
    unfold State.lapseAssembly State.sessionById
    rw [h2]
    simp only [List.find?_cons, beq_self_eq_true]
    exact if_neg (by show ¬ (x.assembly.any fun y => y.stale s.now) = true; simp [a])
  have z : s.lapse = (w.lapseSnapshot x.id).lapseAssembly x.id := by
    show (w.aqlet.sessions.foldl State.lapseSession w).aqlet.sessions.foldl
      (fun s x => (s.lapseSnapshot x.id).lapseAssembly x.id) (w.aqlet.sessions.foldl State.lapseSession w) = _
    rw [hw]
    simp only [List.foldl_cons, List.foldl_nil, h1, hw]
  rw [z, h3, h2]
/-- The chip with that session, the request in ring 13 and out of it again. -/
def ringed (x : Session) (rq : Request) : State :=
  (((inSession (chip 3) x).tick 5).ringPut 13 (frameWords rq.frame)).ringTake 13
theorem mapping_found (h : (ringed mapping lastMap).aqlet.sessions = [mapping]) :
    (looking (inSession (chip 3) mapping) 5 lastMap).sessionFor (readFrame lastMap.frame).session lastMap = some mapping := by
  have f : (readFrame lastMap.frame).session = 7 := by decide +kernel
  have l : ((inSession (chip 3) mapping).tick 5).loaderOnly = false := by decide +kernel
  have g : heard ((inSession (chip 3) mapping).tick 5) lastMap = lastMap := rfl
  have t : (readFrame lastMap.frame).ts = false := by decide +kernel
  have e : (looking (inSession (chip 3) mapping) 5 lastMap).aqlet.sessions = [mapping] := by
    unfold looking State.stampRequest
    rw [g, if_neg (by rw [t]; simp)]
    unfold atServer
    rw [show onPath ((inSession (chip 3) mapping).tick 5) lastMap = (inSession (chip 3) mapping).tick 5 from rfl,
      if_neg (by rw [l]; decide)]
    exact lapse_one h (by decide +kernel) (by decide +kernel) rfl (by decide +kernel)
  unfold State.sessionFor
  rw [e, f]
  rfl
def wholeMap : Octets := (transfer o3403.MAP 65528 65536).data ++ ((readFrame lastMap.frame).body.drop 16).take 8
theorem wholeMap_length : wholeMap.length = 65536 := by
  have e : (((readFrame lastMap.frame).body.drop 16).take 8).length = 8 := by decide +kernel
  unfold wholeMap transfer
  rw [List.length_append, e, List.length_replicate]
/-- A state and operands for each clause of `SessionRequestsTakeEffect`. -/
theorem test_meets_SessionRequestsTakeEffect :
    (Admitted (makers (chip 3)) 5 reads_ maker) ∧
    ((readFrame reads_.frame).op = 1 ∧ check3 (readFrame reads_.frame).key = 0 ∧ check4 maker.role (readFrame
        reads_.frame).key 1 = 0) ∧
    ((serving (makers (chip 3)) 5 reads_ maker).check5 1 (readFrame reads_.frame).key [] maker.role maker.path = 0) ∧
    (((serving (makers (chip 3)) 5 reads_ maker).readValue (readFrame reads_.frame).key).length ≤ 1400 ∧ (serving (makers
        (chip 3)) 5 reads_ maker).ownerLost (readFrame reads_.frame).key = false) ∧
    (Granted (makers (chip 3)) 5 (wr 2 o4000.ENABLE 1) maker) ∧
    (applyOf (readFrame (wr 2 o4000.ENABLE 1).frame).key ≠ .t ∧ applyOf (readFrame (wr 2 o4000.ENABLE 1).frame).key ≠ .b) ∧
    (Granted (makers (put (chip 3) o3404.PROBE_ODD_ROW 0)) 5 (wr 2 o3404.PROBE_ARM 1) maker) ∧
    (applyOf (readFrame (wr 2 o3404.PROBE_ARM 1).frame).key = .t ∧ stagedHealth (readFrame (wr 2 o3404.PROBE_ARM
        1).frame).key = false) ∧
    (Granted (makers (chip 3)) 5 (wr 2 o4400.DEVICE_WIDTH 8) maker) ∧
    (applyOf (readFrame (wr 2 o4400.DEVICE_WIDTH 8).frame).key = .b) ∧
    (Admitted (makers (chip 3)) 5 (block 3 false o2001.MODE 0 8 []) maker) ∧
    ((readFrame (block 3 false o2001.MODE 0 8 []).frame).op = 3 ∧ check3 (readFrame (block 3 false o2001.MODE 0 8
        []).frame).key = 0 ∧ check4 3 (readFrame (block 3 false o2001.MODE 0 8 []).frame).key 1 = 0) ∧
    ((serving (makers (chip 3)) 5 (block 3 false o2001.MODE 0 8 []) maker).check5 3 (readFrame (block 3 false o2001.MODE 0 8
        []).frame).key [] 3 .network = 0) ∧
    (bits ((readFrame (block 3 false o2001.MODE 0 8 []).frame).word 1) 63 32 = 0 ∧ bits ((readFrame (block 3 false
        o2001.MODE 0 8 []).frame).word 1) 31 0 = 8) ∧
    (Admitted (inSession (chip 3) snapped) 5 (block 3 false o1030.DIRECTORY 8 8 []) snapped) ∧
    (check3 (readFrame (block 3 false o1030.DIRECTORY 8 8 []).frame).key = 0 ∧ check4 3 (readFrame (block 3 false
        o1030.DIRECTORY 8 8 []).frame).key 1 = 0) ∧
    ((serving (inSession (chip 3) snapped) 5 (block 3 false o1030.DIRECTORY 8 8 []) snapped).check5 3 (readFrame (block 3
        false o1030.DIRECTORY 8 8 []).frame).key [] 3 .network = 0) ∧
    (bits ((readFrame (block 3 false o1030.DIRECTORY 8 8 []).frame).word 1) 63 32 = 8 ∧ bits ((readFrame (block 3 false
        o1030.DIRECTORY 8 8 []).frame).word 1) 31 0 = 8 ∧ 8 < (transfer o1030.DIRECTORY 16 16).total) ∧
    (snapped.snapshot = some (transfer o1030.DIRECTORY 16 16) ∧ (transfer o1030.DIRECTORY 16 16).key = (readFrame (block 3
        false o1030.DIRECTORY 8 8 []).frame).key) ∧
    (Admitted (makers (chip 3)) 5 (block 4 false o3403.MAP 0 65536 (octetsOf 8 0)) maker) ∧
    ((readFrame (block 4 false o3403.MAP 0 65536 (octetsOf 8 0)).frame).op = 4 ∧ (readFrame (block 4 false o3403.MAP 0 65536
        (octetsOf 8 0)).frame).key = o3403.MAP ∧ o3403.MAP ≠ o7E01.IMAGE ∧ check3 o3403.MAP = 0 ∧ check4 3 o3403.MAP 2 = 0)
        ∧
    ((serving (makers (chip 3)) 5 (block 4 false o3403.MAP 0 65536 (octetsOf 8 0)) maker).check5 4 o3403.MAP [] 3 .network =
        0) ∧
    (bits ((readFrame (block 4 false o3403.MAP 0 65536 (octetsOf 8 0)).frame).word 1) 63 32 = 0 ∧ (readFrame (block 4 false
        o3403.MAP 0 65536 (octetsOf 8 0)).frame).last = false) ∧
    ((rowOf o3403.MAP).map (fun q => q.len) = some 65536 ∧ ((readFrame (block 4 false o3403.MAP 0 65536 (octetsOf 8
        0)).frame).body.drop 16).length = 8 ∧ bits ((readFrame (block 4 false o3403.MAP 0 65536 (octetsOf 8 0)).frame).word
        1) 31 0 = 65536) ∧
    (Admitted (inSession (chip 3) assembling) 5 (overLink lastSecret) assembling) ∧
    ((heard ((inSession (chip 3) assembling).tick 5) (overLink lastSecret)).frame = lastSecret.frame) ∧
    ((readFrame lastSecret.frame).op = 4 ∧ (readFrame lastSecret.frame).key = o2102.SECRET_MAKER ∧ check3 o2102.SECRET_MAKER
        = 0 ∧ check4 3 o2102.SECRET_MAKER 2 = 0 ∧ (serving (inSession (chip 3) assembling) 5 (overLink lastSecret)
        assembling).check5 4 o2102.SECRET_MAKER [] 3 .raster = 0) ∧
    ((rowOf o2102.SECRET_MAKER).map (fun q => q.len) = some 32 ∧ bits ((readFrame lastSecret.frame).word 1) 63 32 = 24 ∧
        bits ((readFrame lastSecret.frame).word 1) 31 0 = 32 ∧ (readFrame lastSecret.frame).last = true) ∧
    (assembling.assembly = some (transfer o2102.SECRET_MAKER 24 32) ∧ (transfer o2102.SECRET_MAKER 24 32).data.length = 24 ∧
        ((readFrame lastSecret.frame).body.drop 16).length = 8 ∧ allZero (((readFrame lastSecret.frame).body.drop 16).drop
        8) = true) ∧
    ((assembled assembling (overLink lastSecret)).check5 2 o2102.SECRET_MAKER (List.replicate 32 0) 3 .raster = 0 ∧
        (assembled assembling (overLink lastSecret)).check6 o2102.SECRET_MAKER 0 (List.replicate 32 0) false (assembled
        assembling (overLink lastSecret)).reg = 0) ∧
    (o2102.SECRET_MAKER ≠ o2000.REQUEST ∧ (assembled assembling (overLink lastSecret)).stateCode o2102.SECRET_MAKER (valueOf
        o2102.SECRET_MAKER (List.replicate 32 0)) (List.replicate 32 0) = 0 ∧ (assembled assembling (overLink
        lastSecret)).modes.commit = none) ∧
    ((assembled assembling (overLink lastSecret)).ownerLost o2102.SECRET_MAKER = false ∧ applyOf o2102.SECRET_MAKER ≠ .t ∧
        applyOf o2102.SECRET_MAKER ≠ .b) ∧
    (Admitted (inSession (chip 3) mapping) 5 lastMap mapping) ∧
    ((readFrame lastMap.frame).op = 4 ∧ (readFrame lastMap.frame).key = o3403.MAP ∧ (serving (inSession (chip 3) mapping) 5
        lastMap mapping).check5 4 o3403.MAP [] 3 .network = 0) ∧
    (bits ((readFrame lastMap.frame).word 1) 63 32 = 65528 ∧ bits ((readFrame lastMap.frame).word 1) 31 0 = 65536 ∧
        (readFrame lastMap.frame).last = true ∧ ((readFrame lastMap.frame).body.drop 16).length = 8) ∧
    (mapping.assembly = some (transfer o3403.MAP 65528 65536) ∧ (transfer o3403.MAP 65528 65536).data.length = 65528 ∧
        allZero (((readFrame lastMap.frame).body.drop 16).drop 8) = true) ∧
    ((assembled mapping lastMap).check6 o3403.MAP 0 wholeMap false (assembled mapping lastMap).reg = 0) ∧
    ((assembled mapping lastMap).check5 2 o3403.MAP wholeMap 3 .network = 0 ∧ (assembled mapping lastMap).stateCode
        o3403.MAP (valueOf o3403.MAP wholeMap) wholeMap = 0 ∧ (assembled mapping lastMap).modes.commit = none ∧ (assembled
        mapping lastMap).ownerLost o3403.MAP = false) ∧
    (Admitted (makers (chip 3)) 5 (wr 5 o3802.QUARANTINE_MASK 0) maker) ∧
    ((readFrame (wr 5 o3802.QUARANTINE_MASK 0).frame).op = 5 ∧ (readFrame (wr 5 o3802.QUARANTINE_MASK 0).frame).key =
        o3802.QUARANTINE_MASK ∧ check3 o3802.QUARANTINE_MASK = 0 ∧ check4 3 o3802.QUARANTINE_MASK 2 = 0) ∧
    ((put_ 5 o3802.QUARANTINE_MASK 0 maker (chip 3)).check5 5 o3802.QUARANTINE_MASK (valueOctetsOf (wr 5
        o3802.QUARANTINE_MASK 0)) 3 .network = 0) ∧
    ((put_ 5 o3802.QUARANTINE_MASK 0 maker (chip 3)).check6 o3802.QUARANTINE_MASK (bits ((readFrame (wr 5
        o3802.QUARANTINE_MASK 0).frame).word 0) 39 24) (valueOctetsOf (wr 5 o3802.QUARANTINE_MASK 0)) true ((put_ 5
        o3802.QUARANTINE_MASK 0 maker (chip 3)).lookStaged maker) = 0) ∧
    (applyOf o3802.QUARANTINE_MASK = .t ∧ stagedHealth o3802.QUARANTINE_MASK = false ∧ (valueOctetsOf (wr 5
        o3802.QUARANTINE_MASK 0)).length ≤ 8 ∧ isOctets o3802.QUARANTINE_MASK = false ∧ maker.staged.length < 64) ∧
    ((put_ 5 o3802.QUARANTINE_MASK 0 maker (chip 3)).stateCode o3802.QUARANTINE_MASK (valueIn (wr 5 o3802.QUARANTINE_MASK
        0)) (valueOctetsOf (wr 5 o3802.QUARANTINE_MASK 0)) = 0 ∧ (put_ 5 o3802.QUARANTINE_MASK 0 maker (chip 3)).ownerLost
        o3802.QUARANTINE_MASK = false) ∧
    (Admitted (makers (chip 3)) 5 (commits 2 0) maker) ∧
    ((readFrame (commits 2 0).frame).op = 6 ∧ (serving (makers (chip 3)) 5 (commits 2 0) maker).loaderOnly = false ∧ bits
        ((readFrame (commits 2 0).frame).word 0) 63 56 = 2 ∧ bits ((readFrame (commits 2 0).frame).word 0) 31 0 = 0) ∧
    (Admitted (inSession (chip 3) staging_) 5 (commits 1 2048) staging_) ∧
    (bits ((readFrame (commits 1 2048).frame).word 0) 63 56 = 1 ∧ bits ((readFrame (commits 1 2048).frame).word 0) 31 0 =
        2048 ∧ (serving (inSession (chip 3) staging_) 5 (commits 1 2048) staging_).modes.commit = none) ∧
    (∀ e ∈ staging_.staged, check4 3 e.1 2 = 0 ∧ (serving (inSession (chip 3) staging_) 5 (commits 1 2048) staging_).check5
        6 e.1 [] 3 .network = 0 ∧ (serving (inSession (chip 3) staging_) 5 (commits 1 2048) staging_).commandCode e.1 e.2 []
        = 0) ∧
    (Admitted (makers committing_) 5 (commits 1 0) maker) ∧
    ((serving (makers committing_) 5 (commits 1 0) maker).modes.commit.isSome = true ∧ bits ((readFrame (commits 1
        0).frame).word 0) 63 56 = 1) ∧
    (Admitted (makers (chip 3)) 5 (ask 7 0 (octetsOf 16 5)) maker) ∧
    ((readFrame (ask 7 0 (octetsOf 16 5)).frame).op = 7 ∧ (serving (makers (chip 3)) 5 (ask 7 0 (octetsOf 16 5))
        maker).loaderOnly = false) ∧
    (Admitted (makers (chip 3)) 5 triggers_ maker) ∧
    ((readFrame triggers_.frame).op = 8 ∧ 2 ≤ maker.role ∧ (serving (makers (chip 3)) 5 triggers_ maker).loaderOnly = false
        ∧ bits ((readFrame triggers_.frame).word 0) 63 56 ≤ 5) ∧
    (bits (bits ((readFrame triggers_.frame).word 0) 31 0) 30 28 ≤ 1 ∧ (serving (makers (chip 3)) 5 triggers_
        maker).regionLost 22 = false ∧ bit ((readFrame triggers_.frame).word 0) 55 = false) := by
  refine ⟨admits 1 0 _ rfl (by decide +kernel) (by decide +kernel), ?_, ?_, ?_, grants (by decide +kernel) (by decide +kernel), ?_, grants (by decide +kernel) (by decide +kernel), ?_, grants (by decide +kernel) (by decide +kernel), ?_, admits 3 0 _ rfl (by decide +kernel) (by decide +kernel), ?_, ?_, ?_, admits 3 0 _ rfl (by decide +kernel) (by decide +kernel), ?_, ?_, ?_, ?_, admits 4 0 _ rfl (by decide +kernel) (by decide +kernel), ?_, ?_, ?_, ?_, admits_by_link (by decide +kernel), ?_, ?_, ?_, ?_, ?_, ?_, ?_, admits 4 (2 ^ 44) _ rfl (by decide +kernel) ⟨by decide +kernel, rfl, by decide +kernel, mapping_found rfl, rfl, by decide +kernel⟩, ?_, ?_, ⟨rfl, List.length_replicate .., by decide +kernel⟩, map_fits _ _ _ wholeMap_length, ?_, admits 5 0 _ rfl (by decide +kernel) (by decide +kernel), ?_, ?_, ?_, ?_, ?_, admits 6 0 _ rfl (by decide +kernel) (by decide +kernel), ?_, admits 6 0 _ rfl (by decide +kernel) (by decide +kernel), ?_, ?_, admits 6 0 _ rfl (by decide +kernel) (by decide +kernel), ?_, admits 7 0 _ rfl (by decide +kernel) (by decide +kernel), ?_, admits 8 0 _ rfl (by decide +kernel) (by decide +kernel), ?_, ?_⟩ <;> decide +kernel

def noticed (sent : Nat) : Session := { maker with notices := { quietNotices with queue := [(1, 2)], sent := sent } }
def audited : State :=
  let a : AuditRecord :=
    { time := 0, seq := 1, kind := 2, master := 1, role := 1, valid := false, reqId := 0, index := 0, sub := 0, op := 0, abort := 0,
      session := 7, value := 0 }
  { chip 3 with aqlet := { Aqlet.reset with unwritten := [a] } }
/-- A state and operands for each clause of `SessionEventsTakeEffect`. -/
theorem test_meets_SessionEventsTakeEffect :
    (Awake (makers (chip 3)) ∧ (inSession (chip 3) (noticed 999)).sessionById 7 = some (noticed 999) ∧ (noticed 999).isOpen
        = true ∧ (noticed 999).notices.queue ≠ []) ∧
    (max (inSession (chip 3) (noticed 999)).now 5 < (noticed 999).notices.windowStart + 1000000000 ∧ (noticed
        999).notices.sent < 1000) ∧
    ((inSession (chip 3) (noticed 1000)).sessionById 7 = some (noticed 1000) ∧ 1000 ≤ (noticed 1000).notices.sent) ∧
    ((inSession (chip 3) assembling).sessionById 7 = some assembling ∧ assembling.assembly = some (transfer
        o2102.SECRET_MAKER 24 32) ∧ (transfer o2102.SECRET_MAKER 24 32).last + 10000000000 ≤ max (chip 3).now 10000000000) ∧
    (Awake audited ∧ audited.aqlet.unwritten ≠ [] ∧ audited.islandLost 11 = false) := by
  refine ⟨?_, ?_, ?_, ?_, ?_⟩ <;> decide +kernel

/-- A state and operands for each clause of `WritesOfThePressTakeEffect`. -/
theorem test_meets_WritesOfThePressTakeEffect :
    (Granted (makers (chip 3)) 5 (wr 2 (o6400.COUNT_PRESET + 256 * 1) 5) maker) ∧
    ((readFrame (wr 2 (o6400.COUNT_PRESET + 256 * 1) 5).frame).key = o6400.COUNT_PRESET + 256 * 1 ∧ 1 < 2) ∧
    (Granted (makers (chip 3)) 5 (wr 2 (o6400.FORMAT + 256 * 1) 1) maker) ∧
    ((readFrame (wr 2 (o6400.FORMAT + 256 * 1) 1).frame).key = o6400.FORMAT + 256 * 1) ∧
    (Granted (makers (chip 3)) 5 (wr 2 o4000.ENABLE 1) maker) ∧
    ((readFrame (wr 2 o4000.ENABLE 1).frame).key = o4000.ENABLE) ∧
    (Granted (makers (chip 3)) 5 (wr 2 o4000.RETRAIN 1) maker) ∧
    ((readFrame (wr 2 o4000.RETRAIN 1).frame).key = o4000.RETRAIN ∧ (valueIn (wr 2 o4000.RETRAIN 1)).toNat = 1 ∧ (serving
        (makers (chip 3)) 5 (wr 2 o4000.RETRAIN 1) maker).regN o4000.STATE = 4) ∧
    (Granted (makers (chip 6)) 5 (wr 2 o4003.LOOP 1) maker) ∧
    ((readFrame (wr 2 o4003.LOOP 1).frame).key = o4003.LOOP) ∧
    (Granted (makers (chip 6)) 5 (wr 2 o4003.PRBS_RUN 1) maker) ∧
    ((readFrame (wr 2 o4003.PRBS_RUN 1).frame).key = o4003.PRBS_RUN) ∧
    (Granted (makers (chip 3)) 5 (wr 2 o4400.CHANNEL_RESTORE 1) maker) ∧
    ((readFrame (wr 2 o4400.CHANNEL_RESTORE 1).frame).key = o4400.CHANNEL_RESTORE ∧ (valueIn (wr 2 o4400.CHANNEL_RESTORE
        1)).toNat = 1) ∧
    (Granted (makers (chip 3)) 5 (wr 2 o3100.PIXEL_BITS 2) maker) ∧
    ((readFrame (wr 2 o3100.PIXEL_BITS 2).frame).key = o3100.PIXEL_BITS) ∧
    (Granted (makers (chip 3)) 5 (wr 2 o4802.LOG_SEQ 2) maker) ∧
    ((readFrame (wr 2 o4802.LOG_SEQ 2).frame).key = o4802.LOG_SEQ) ∧
    (Granted ((makers (chip 2)).withDram fun d => { d with found := some goodTraining }) 5 (wr 2 o4405.TRAIN 1) maker) ∧
    ((readFrame (wr 2 o4405.TRAIN 1).frame).key = o4405.TRAIN ∧ (valueIn (wr 2 o4405.TRAIN 1)).toNat = 1) := by
  refine ⟨grants (by decide +kernel) (by decide +kernel), ?_, grants (by decide +kernel) (by decide +kernel), ?_, grants (by decide +kernel) (by decide +kernel), ?_, grants (by decide +kernel) (by decide +kernel), ?_, grants (by decide +kernel) (by decide +kernel), ?_, grants (by decide +kernel) (by decide +kernel), ?_, grants (by decide +kernel) (by decide +kernel), ?_, grants (by decide +kernel) (by decide +kernel), ?_, grants (by decide +kernel) (by decide +kernel), ?_, ⟨admits 2 0 _ rfl (by decide +kernel) (by decide +kernel), by decide +kernel⟩, ?_⟩ <;> decide +kernel

/-- A state and operands for each clause of `WritesOfTheBarTakeEffect`. -/
theorem test_meets_WritesOfTheBarTakeEffect :
    (Granted (makers ((chip 4).withPolders fun q => { q with spare := { q.spare with state := 8 } })) 5 (wr 2
        o3020.FORCE_TAKEOVER 3) maker) ∧
    ((readFrame (wr 2 o3020.FORCE_TAKEOVER 3).frame).key = o3020.FORCE_TAKEOVER) ∧
    (Granted (makers ((chip 4).mapPolder 3 fun q => { q with state := 3 })) 5 (wr 2 o3020.RETURN_POLDER 3) maker) ∧
    ((readFrame (wr 2 o3020.RETURN_POLDER 3).frame).key = o3020.RETURN_POLDER) ∧
    (Granted (makers (chip 3)) 5 (wr 2 o3000.DIES 33) maker) ∧
    ((readFrame (wr 2 o3000.DIES 33).frame).key = o3000.DIES) ∧
    (Granted (makers (chip 3)) 5 (wr 2 (o3401.COLUMN_HEALTH + 15) 5) maker) ∧
    ((readFrame (wr 2 (o3401.COLUMN_HEALTH + 15) 5).frame).key = o3401.COLUMN_HEALTH + 15) ∧
    (Granted (makers (put (chip 3) o3404.PROBE_ODD_ROW 0)) 5 (wr 2 o3404.PROBE_ARM 1) maker) ∧
    ((readFrame (wr 2 o3404.PROBE_ARM 1).frame).key = o3404.PROBE_ARM) ∧
    (Granted (makers (chip 3)) 5 (wr 2 o3802.QUARANTINE_MASK 0) maker) ∧
    ((readFrame (wr 2 o3802.QUARANTINE_MASK 0).frame).key = o3802.QUARANTINE_MASK) ∧
    (Granted (makers ((chip 3).setDie 3 { Die.unfitted with link := 5 })) 5 (wr 2 o3802.RETRY 3) maker) ∧
    ((readFrame (wr 2 o3802.RETRY 3).frame).key = o3802.RETRY) := by
  refine ⟨grants (by decide +kernel) (by decide +kernel), ?_, grants (by decide +kernel) (by decide +kernel), ?_, grants (by decide +kernel) (by decide +kernel), ?_, grants (by decide +kernel) (by decide +kernel), ?_, grants (by decide +kernel) (by decide +kernel), ?_, grants (by decide +kernel) (by decide +kernel), ?_, grants (by decide +kernel) (by decide +kernel), ?_⟩ <;> decide +kernel

def held_ : State := (chip 3).withInspect fun q => { q with held := [{ id := 1, nozzle := 5, state := 3, words := [0, 0, 0, 0] }] }
/-- A state and operands for each clause of `WritesOfVisionAndMotionTakeEffect`. -/
theorem test_meets_WritesOfVisionAndMotionTakeEffect :
    (Granted (makers (chip 3)) 5 (wr 2 o5002.EXPOSURE_NS 6000) maker) ∧
    ((readFrame (wr 2 o5002.EXPOSURE_NS 6000).frame).key = o5002.EXPOSURE_NS) ∧
    (Granted (makers (chip 3)) 5 (wr 2 (o5002.GAIN_CDB + 1) 6) maker) ∧
    ((readFrame (wr 2 (o5002.GAIN_CDB + 1) 6).frame).key = o5002.GAIN_CDB + 1 ∧ 1 < 2) ∧
    (Granted (makers (put (put (chip 3) (o5000.BIND + 1) 0xFF) o5000.BIND 0)) 5 (wr 2 (o5000.BIND + 1) 1) maker) ∧
    ((readFrame (wr 2 (o5000.BIND + 1) 1).frame).key = o5000.BIND + 1) ∧
    (Granted (makers (put ((chip 3).mapPipeline 1 fun x => { x with held := [{ heldFrame with released := false }] })
        o5003.HOST_HOLD 1)) 5 (wr 2 o5003.HOST_RELEASE (2 ^ 63)) maker) ∧
    ((readFrame (wr 2 o5003.HOST_RELEASE (2 ^ 63)).frame).key = o5003.HOST_RELEASE) ∧
    (Granted (makers (put (chip 3) (o5004.STATE + 1) 4)) 5 (wr 2 (o5004.RESTART + 1) 1) maker) ∧
    ((readFrame (wr 2 (o5004.RESTART + 1) 1).frame).key = o5004.RESTART + 1 ∧ (valueIn (wr 2 (o5004.RESTART + 1) 1)).toNat =
        1 ∧ (serving (makers (put (chip 3) (o5004.STATE + 1) 4)) 5 (wr 2 (o5004.RESTART + 1) 1) maker).cameraState 1 = 4) ∧
    (Granted (makers (held_)) 5 (wr 2 o5203.APPROVE 1) maker) ∧
    ((readFrame (wr 2 o5203.APPROVE 1).frame).key = o5203.APPROVE) ∧
    (Granted (makers (held_)) 5 (wr 2 o5203.REJECT 1) maker) ∧
    ((readFrame (wr 2 o5203.REJECT 1).frame).key = o5203.REJECT) ∧
    (Granted (makers (put (chip 3) (o5403.STATE + 1) 2)) 5 (wr 2 (o5403.RESTORE + 1) 1) maker) ∧
    ((readFrame (wr 2 (o5403.RESTORE + 1) 1).frame).key = o5403.RESTORE + 1 ∧ (valueIn (wr 2 (o5403.RESTORE + 1) 1)).toNat =
        1) ∧
    (Granted (makers (chip 3)) 5 (wr 2 (o6000.DECEL + 256 * 3) 5000) maker) ∧
    ((readFrame (wr 2 (o6000.DECEL + 256 * 3) 5000).frame).key = o6000.DECEL + 256 * 3 ∧ 3 < 4) ∧
    (Granted (makers (chip 3)) 5 (wr 2 (o6000.POSITION_PRESET + 256 * 3) (-5)) maker) ∧
    ((readFrame (wr 2 (o6000.POSITION_PRESET + 256 * 3) (-5)).frame).key = o6000.POSITION_PRESET + 256 * 3) ∧
    (Granted (makers (put (chip 2) (o6000.STATUS + 768) 1)) 5 (wr 2 (o6011.LEARN + 256 * 3) 1) maker) ∧
    ((readFrame (wr 2 (o6011.LEARN + 256 * 3) 1).frame).key = o6011.LEARN + 256 * 3 ∧ (valueIn (wr 2 (o6011.LEARN + 256 * 3)
        1)).toNat = 1) ∧
    (Granted (makers (put (chip 3) (o6000.STATUS + 768) 1)) 5 (wr 2 (o6000.COMMAND + 256 * 3) (1 * 2 ^ 232 + 3 * 2 ^ 230))
        maker) ∧
    ((readFrame (wr 2 (o6000.COMMAND + 256 * 3) (1 * 2 ^ 232 + 3 * 2 ^ 230)).frame).key = o6000.COMMAND + 256 * 3 ∧
        (readMotion ((readFrame (wr 2 (o6000.COMMAND + 256 * 3) (1 * 2 ^ 232 + 3 * 2 ^ 230)).frame).body.drop 8)).op = 1) ∧
    (Granted (makers (put (chip 3) (o6000.STATUS + 768) 1)) 5 (wr 2 (o6000.COMMAND + 256 * 3) (2 * 2 ^ 232 + 3 * 2 ^ 230))
        maker) ∧
    ((readFrame (wr 2 (o6000.COMMAND + 256 * 3) (2 * 2 ^ 232 + 3 * 2 ^ 230)).frame).key = o6000.COMMAND + 256 * 3 ∧
        (readMotion ((readFrame (wr 2 (o6000.COMMAND + 256 * 3) (2 * 2 ^ 232 + 3 * 2 ^ 230)).frame).body.drop 8)).op = 2) ∧
    (Granted (makers (put (chip 3) (o6000.STATUS + 768) 1)) 5 (wr 2 (o6000.COMMAND + 256 * 3) (3 * 2 ^ 232 + 3 * 2 ^ 230))
        maker) ∧
    ((readFrame (wr 2 (o6000.COMMAND + 256 * 3) (3 * 2 ^ 232 + 3 * 2 ^ 230)).frame).key = o6000.COMMAND + 256 * 3 ∧
        (readMotion ((readFrame (wr 2 (o6000.COMMAND + 256 * 3) (3 * 2 ^ 232 + 3 * 2 ^ 230)).frame).body.drop 8)).op = 3) ∧
    (Granted (makers (put (chip 3) (o6000.STATUS + 768) 1)) 5 (wr 2 (o6000.COMMAND + 256 * 3) (4 * 2 ^ 232 + 3 * 2 ^ 230))
        maker) ∧
    ((readFrame (wr 2 (o6000.COMMAND + 256 * 3) (4 * 2 ^ 232 + 3 * 2 ^ 230)).frame).key = o6000.COMMAND + 256 * 3 ∧
        (readMotion ((readFrame (wr 2 (o6000.COMMAND + 256 * 3) (4 * 2 ^ 232 + 3 * 2 ^ 230)).frame).body.drop 8)).op = 4) ∧
    (Granted (makers (put (chip 3) (o6000.STATUS + 768) 1)) 5 (wr 2 (o6000.COMMAND + 256 * 3) (5 * 2 ^ 232 + 3 * 2 ^ 230))
        maker) ∧
    ((readFrame (wr 2 (o6000.COMMAND + 256 * 3) (5 * 2 ^ 232 + 3 * 2 ^ 230)).frame).key = o6000.COMMAND + 256 * 3 ∧
        (readMotion ((readFrame (wr 2 (o6000.COMMAND + 256 * 3) (5 * 2 ^ 232 + 3 * 2 ^ 230)).frame).body.drop 8)).op = 5) ∧
    (Granted (makers (put (chip 3) (o6000.STATUS + 768) 1)) 5 (wr 2 (o6000.COMMAND + 256 * 3) (6 * 2 ^ 232 + 3 * 2 ^ 230))
        maker) ∧
    ((readFrame (wr 2 (o6000.COMMAND + 256 * 3) (6 * 2 ^ 232 + 3 * 2 ^ 230)).frame).key = o6000.COMMAND + 256 * 3 ∧
        (readMotion ((readFrame (wr 2 (o6000.COMMAND + 256 * 3) (6 * 2 ^ 232 + 3 * 2 ^ 230)).frame).body.drop 8)).op = 6) ∧
    (Granted (makers (put (chip 3) (o6000.STATUS + 768) 1)) 5 (wr 2 (o6000.COMMAND + 256 * 3) (7 * 2 ^ 232 + 3 * 2 ^ 230))
        maker) ∧
    ((readFrame (wr 2 (o6000.COMMAND + 256 * 3) (7 * 2 ^ 232 + 3 * 2 ^ 230)).frame).key = o6000.COMMAND + 256 * 3 ∧
        (readMotion ((readFrame (wr 2 (o6000.COMMAND + 256 * 3) (7 * 2 ^ 232 + 3 * 2 ^ 230)).frame).body.drop 8)).op = 7) ∧
    (Granted (makers (put (chip 3) o7000.STATE 2)) 5 (wr 2 o7000.RESTEP 1) maker) ∧
    ((readFrame (wr 2 o7000.RESTEP 1).frame).key = o7000.RESTEP ∧ (valueIn (wr 2 o7000.RESTEP 1)).toNat = 1 ∧ 1 ≤ (serving
        (makers (put (chip 3) o7000.STATE 2)) 5 (wr 2 o7000.RESTEP 1) maker).regN o7000.STATE ∧ (serving (makers (put (chip
        3) o7000.STATE 2)) 5 (wr 2 o7000.RESTEP 1) maker).regN o7000.STATE ≤ 4) := by
  refine ⟨grants (by decide +kernel) (by decide +kernel), ?_, grants (by decide +kernel) (by decide +kernel), ?_, grants (by decide +kernel) (by decide +kernel), ?_, grants (by decide +kernel) (by decide +kernel), ?_, grants (by decide +kernel) (by decide +kernel), ?_, grants (by decide +kernel) (by decide +kernel), ?_, grants (by decide +kernel) (by decide +kernel), ?_, grants (by decide +kernel) (by decide +kernel), ?_, grants (by decide +kernel) (by decide +kernel), ?_, grants (by decide +kernel) (by decide +kernel), ?_, grants (by decide +kernel) (by decide +kernel), ?_, grants (by decide +kernel) (by decide +kernel), ?_, grants (by decide +kernel) (by decide +kernel), ?_, grants (by decide +kernel) (by decide +kernel), ?_, grants (by decide +kernel) (by decide +kernel), ?_, grants (by decide +kernel) (by decide +kernel), ?_, grants (by decide +kernel) (by decide +kernel), ?_, grants (by decide +kernel) (by decide +kernel), ?_, grants (by decide +kernel) (by decide +kernel), ?_⟩ <;> decide +kernel

def ready_ : State :=
  let page : Page :=
    { tag := 1, stream := 0, start := 100000, lines := 64, total := 1, committed := true, flags := 0, reserved := 0, blocks := [],
      resend := [], freed := 0, blank := [], skipped := 0, abortAt := none, empty := [], starved := false,
      lacking := false, held := false }
  let s := put (put (chip 3) o3101.SOURCE 1) o4401.ENTRY_MS 0
  (s.setDie 0 { Die.unfitted with link := 2 }).withPages fun q => { q with pages := [page] }
/-- A state and operands for each clause of `WritesOfTheSystemTakeEffect`. -/
theorem test_meets_WritesOfTheSystemTakeEffect :
    (Granted (inSession (chip 3) (byLink maker)) 5 (overLink (wr 2 (o2102.SECRET_OPERATOR + 2) 77)) (byLink maker)) ∧
    ((heard ((inSession (chip 3) (byLink maker)).tick 5) (overLink (wr 2 (o2102.SECRET_OPERATOR + 2) 77))).frame = (wr 2
        (o2102.SECRET_OPERATOR + 2) 77).frame) ∧
    ((readFrame (wr 2 (o2102.SECRET_OPERATOR + 2) 77).frame).key = o2102.SECRET_OPERATOR + 2 ∧ 2 < 3) ∧
    (Granted (makers (chip 3)) 5 (wr 2 o1010.SAVE 0x65766173) maker) ∧
    ((readFrame (wr 2 o1010.SAVE 0x65766173).frame).key = o1010.SAVE) ∧
    (Granted (makers (chip 3)) 5 (wr 2 o1011.LOAD 0x64616F6C) maker) ∧
    ((readFrame (wr 2 o1011.LOAD 0x64616F6C).frame).key = o1011.LOAD) ∧
    (Granted (makers (chip 0)) 5 (wr 2 o2000.REQUEST 0) maker) ∧
    ((readFrame (wr 2 o2000.REQUEST 0).frame).key = o2000.REQUEST ∧ ((readFrame (wr 2 o2000.REQUEST 0).frame).body.drop
        8).head? = some (BitVec.ofNat 8 0) ∧ (valueIn (wr 2 o2000.REQUEST 0)).toNat = 0) ∧
    (Granted (makers (chip 3)) 5 (wr 2 o2000.REQUEST 1) maker) ∧
    ((readFrame (wr 2 o2000.REQUEST 1).frame).key = o2000.REQUEST ∧ ((readFrame (wr 2 o2000.REQUEST 1).frame).body.drop
        8).head? = some (BitVec.ofNat 8 1) ∧ (valueIn (wr 2 o2000.REQUEST 1)).toNat = 1) ∧
    (Granted (makers (chip 3)) 5 (wr 2 o2000.REQUEST 2) maker) ∧
    ((readFrame (wr 2 o2000.REQUEST 2).frame).key = o2000.REQUEST ∧ ((readFrame (wr 2 o2000.REQUEST 2).frame).body.drop
        8).head? = some (BitVec.ofNat 8 2) ∧ (valueIn (wr 2 o2000.REQUEST 2)).toNat = 2) ∧
    (Granted (makers (chip 1)) 5 (wr 2 o2000.REQUEST 3) maker) ∧
    ((readFrame (wr 2 o2000.REQUEST 3).frame).key = o2000.REQUEST ∧ ((readFrame (wr 2 o2000.REQUEST 3).frame).body.drop
        8).head? = some (BitVec.ofNat 8 3) ∧ (valueIn (wr 2 o2000.REQUEST 3)).toNat = 3) ∧
    (Granted (makers (ready_)) 5 (wr 2 o2000.REQUEST 4) maker) ∧
    ((readFrame (wr 2 o2000.REQUEST 4).frame).key = o2000.REQUEST ∧ ((readFrame (wr 2 o2000.REQUEST 4).frame).body.drop
        8).head? = some (BitVec.ofNat 8 4) ∧ (valueIn (wr 2 o2000.REQUEST 4)).toNat = 4) ∧
    (Granted (makers (ready_)) 5 (wr 2 o2000.REQUEST 5) maker) ∧
    ((readFrame (wr 2 o2000.REQUEST 5).frame).key = o2000.REQUEST ∧ ((readFrame (wr 2 o2000.REQUEST 5).frame).body.drop
        8).head? = some (BitVec.ofNat 8 5) ∧ (valueIn (wr 2 o2000.REQUEST 5)).toNat = 5) ∧
    (Granted (makers (chip 1)) 5 (wr 2 o2000.REQUEST 6) maker) ∧
    ((readFrame (wr 2 o2000.REQUEST 6).frame).key = o2000.REQUEST ∧ ((readFrame (wr 2 o2000.REQUEST 6).frame).body.drop
        8).head? = some (BitVec.ofNat 8 6) ∧ (valueIn (wr 2 o2000.REQUEST 6)).toNat = 6) ∧
    (Granted (makers (put (chip 3) (o7E00.IMAGE_STATE + 1) 1)) 5 (wr 2 o7E02.SWAP 0x73776170) maker) ∧
    ((readFrame (wr 2 o7E02.SWAP 0x73776170).frame).key = o7E02.SWAP) ∧
    (Granted (makers (put (chip 3) o7E02.SWAP_STATE 2)) 5 (wr 2 o7E02.CONFIRM 0x636F6E66) maker) ∧
    ((readFrame (wr 2 o7E02.CONFIRM 0x636F6E66).frame).key = o7E02.CONFIRM) ∧
    (Granted (makers (chip 2)) 5 (wr 2 o7801.VERIFY_ITEM 1) maker) ∧
    ((readFrame (wr 2 o7801.VERIFY_ITEM 1).frame).key = o7801.VERIFY_ITEM) ∧
    (Granted (makers (chip 2)) 5 (wr 2 o7801.CLEAR_TRIM 5) maker) ∧
    ((readFrame (wr 2 o7801.CLEAR_TRIM 5).frame).key = o7801.CLEAR_TRIM) := by
  refine ⟨⟨admits_by_link (by decide +kernel), by decide +kernel⟩, ?_, ?_, grants (by decide +kernel) (by decide +kernel), ?_, grants (by decide +kernel) (by decide +kernel), ?_, grants (by decide +kernel) (by decide +kernel), ?_, grants (by decide +kernel) (by decide +kernel), ?_, grants (by decide +kernel) (by decide +kernel), ?_, grants (by decide +kernel) (by decide +kernel), ?_, grants (by decide +kernel) (by decide +kernel), ?_, grants (by decide +kernel) (by decide +kernel), ?_, grants (by decide +kernel) (by decide +kernel), ?_, grants (by decide +kernel) (by decide +kernel), ?_, grants (by decide +kernel) (by decide +kernel), ?_, grants (by decide +kernel) (by decide +kernel), ?_, grants (by decide +kernel) (by decide +kernel), ?_⟩ <;> decide +kernel

/-- A state and operands for each clause of `BootAndSafeHoldRequestsAreRefused`. -/
theorem test_meets_BootAndSafeHoldRequestsAreRefused :
    (Admitted (inSession (chip 3) (session_ true 3)) 5 (wr 2 o2000.REQUEST 0) (session_ true 3)) ∧
    ((readFrame (wr 2 o2000.REQUEST 0).frame).op = 2 ∧ (readFrame (wr 2 o2000.REQUEST 0).frame).key = o2000.REQUEST ∧ check4
        3 o2000.REQUEST 2 = 0 ∧ (serving (inSession (chip 3) (session_ true 3)) 5 (wr 2 o2000.REQUEST 0) (session_ true
        3)).check5 2 o2000.REQUEST (valueOctetsOf (wr 2 o2000.REQUEST 0)) 3 .network = 0) ∧
    ((serving (inSession (chip 3) (session_ true 3)) 5 (wr 2 o2000.REQUEST 0) (session_ true 3)).check6 o2000.REQUEST (bits
        ((readFrame (wr 2 o2000.REQUEST 0).frame).word 0) 39 24) (valueOctetsOf (wr 2 o2000.REQUEST 0)) true (serving
        (inSession (chip 3) (session_ true 3)) 5 (wr 2 o2000.REQUEST 0) (session_ true 3)).reg = 0 ∧ (serving (inSession
        (chip 3) (session_ true 3)) 5 (wr 2 o2000.REQUEST 0) (session_ true 3)).mode ≠ (valueIn (wr 2 o2000.REQUEST
        0)).toNat) ∧
    (((readFrame (wr 2 o2000.REQUEST 0).frame).body.drop 8).head? = some (BitVec.ofNat 8 0) ∧ (valueIn (wr 2 o2000.REQUEST
        0)).toNat = 0) ∧
    (Admitted (inSession (chip 3) (session_ true 1)) 5 (wr 2 o2000.REQUEST 7) (session_ true 1)) ∧
    ((readFrame (wr 2 o2000.REQUEST 7).frame).op = 2 ∧ (readFrame (wr 2 o2000.REQUEST 7).frame).key = o2000.REQUEST ∧ check4
        1 o2000.REQUEST 2 = 0 ∧ (serving (inSession (chip 3) (session_ true 1)) 5 (wr 2 o2000.REQUEST 7) (session_ true
        1)).check5 2 o2000.REQUEST (valueOctetsOf (wr 2 o2000.REQUEST 7)) 1 .network = 0) ∧
    ((serving (inSession (chip 3) (session_ true 1)) 5 (wr 2 o2000.REQUEST 7) (session_ true 1)).check6 o2000.REQUEST (bits
        ((readFrame (wr 2 o2000.REQUEST 7).frame).word 0) 39 24) (valueOctetsOf (wr 2 o2000.REQUEST 7)) true (serving
        (inSession (chip 3) (session_ true 1)) 5 (wr 2 o2000.REQUEST 7) (session_ true 1)).reg = 0 ∧ (serving (inSession
        (chip 3) (session_ true 1)) 5 (wr 2 o2000.REQUEST 7) (session_ true 1)).mode ≠ (valueIn (wr 2 o2000.REQUEST
        7)).toNat) ∧
    (((readFrame (wr 2 o2000.REQUEST 7).frame).body.drop 8).head? = some (BitVec.ofNat 8 7) ∧ (valueIn (wr 2 o2000.REQUEST
        7)).toNat = 7) := by
  refine ⟨admits 2 0 _ rfl (by decide +kernel) (by decide +kernel), ?_, ?_, ?_, admits 2 0 _ rfl (by decide +kernel) (by decide +kernel), ?_, ?_, ?_⟩ <;> decide +kernel

def modes_ (s : State) (f : Modes → Modes) : State := { s with modes := f s.modes }
def filling : State := (put (put (chip 4) o2001.PHASE 1) o3000.DIES 1).withPolders fun q =>
  { q with streams := q.streams.map fun x => { x with next := 1000 } }
def draining : State := put moving_ o2001.PHASE 2
def proofing : State := put moving_ o2001.MODE 5
def swapping (state : Nat) (back : Bool) : State := modes_ (put (chip 3) o7E02.SWAP_STATE state) fun q => { q with swapBack := back }
def firstImage : Request := block 4 false o7E01.IMAGE 0 16 (octetsOf 8 0)
def lastImage : Request := block 4 true o7E01.IMAGE 24 32 (octetsOf 8 0)
def imaging : Session := { maker with assembly := some (transfer o7E01.IMAGE 24 32) }
/-- A state and operands for each clause of `ModeAndFirmwareEventsTakeEffect`. -/
theorem test_meets_ModeAndFirmwareEventsTakeEffect :
    (Awake (modes_ (chip 3) fun q => { q with saving := some [] }) ∧ (modes_ (chip 3) fun q => { q with saving := some []
        }).modes.saving = some []) ∧
    (Alive filling ∧ (filling.tick 5).lanesFilled = true ∧ filling.regN o2001.PHASE = 1) ∧
    (Alive draining ∧ draining.regN o2001.PHASE = 2 ∧ draining.modes.lastLine + draining.regN o3000.LARGEST_DELAY <
        (draining.tick 5).firingLine) ∧
    (Alive proofing ∧ proofing.mode = 5 ∧ proofing.noPages = true ∧ (proofing.tick 5).runEnd + proofing.regN
        o3000.LARGEST_DELAY < (proofing.tick 5).firingLine) ∧
    (Alive (swapping 1 false) ∧ (swapping 1 false).regN o7E02.SWAP_STATE = 1 ∧ (swapping 1 false).modes.swapPairs = [] ∧
        (swapping 1 false).modes.swapBack = false) ∧
    (Alive (swapping 1 true) ∧ (swapping 1 true).regN o7E02.SWAP_STATE = 1 ∧ (swapping 1 true).modes.swapBack = true) ∧
    (Alive (swapping 2 false) ∧ (swapping 2 false).regN o7E02.SWAP_STATE = 2 ∧ (swapping 2 false).modes.confirmBy ≤ max
        (swapping 2 false).now 5) ∧
    (Admitted (makers (chip 3)) 5 firstImage maker) ∧
    ((readFrame firstImage.frame).op = 4 ∧ (readFrame firstImage.frame).key = o7E01.IMAGE ∧ check4 3 o7E01.IMAGE 2 = 0 ∧
        (serving (makers (chip 3)) 5 firstImage maker).check5 4 o7E01.IMAGE [] 3 .network = 0) ∧
    ((rowOf o7E01.IMAGE).map (fun q => decide (32 ≤ q.len)) = some true ∧ bits ((readFrame firstImage.frame).word 1) 63 32 =
        0 ∧ bits ((readFrame firstImage.frame).word 1) 31 0 = 16) ∧
    (((serving (makers (chip 3)) 5 firstImage maker).dropAssembly 7).imageCode 7 = 0 ∧ (readFrame firstImage.frame).last =
        false ∧ ((readFrame firstImage.frame).body.drop 16).length = 8) ∧
    (Admitted (inSession (chip 3) imaging) 5 lastImage imaging) ∧
    ((readFrame lastImage.frame).op = 4 ∧ (readFrame lastImage.frame).key = o7E01.IMAGE ∧ (serving (inSession (chip 3)
        imaging) 5 lastImage imaging).check5 4 o7E01.IMAGE [] 3 .network = 0) ∧
    (bits ((readFrame lastImage.frame).word 1) 63 32 = 24 ∧ bits ((readFrame lastImage.frame).word 1) 31 0 = 32 ∧
        imaging.assembly = some (transfer o7E01.IMAGE 24 32) ∧ (transfer o7E01.IMAGE 24 32).data.length = 24) ∧
    ((serving (inSession (chip 3) imaging) 5 lastImage imaging).imageCode 7 = 0 ∧ (readFrame lastImage.frame).last = true ∧
        ((readFrame lastImage.frame).body.drop 16).length = 8 ∧ allZero (((readFrame lastImage.frame).body.drop 16).drop 8)
        = true) := by
  refine ⟨?_, ?_, ?_, ?_, ?_, ?_, ?_, admits 4 0 _ rfl (by decide +kernel) (by decide +kernel), ?_, ?_, ?_, admits 4 (2 ^ 44) _ rfl (by decide +kernel) (by decide +kernel), ?_, ?_, ?_⟩ <;> decide +kernel

def commit_ (stage : CommitStage) (waiting : List Nat) : Commit :=
  { source := .firmware, stage := stage, entries := [], old := [], lead := 4096, line := 0, waiting := waiting, since := 0 }
def tide (c : Commit) : State := modes_ moving_ fun q => { q with commit := some c }
/-- A state and operands for each clause of `TideEventsTakeEffect`. -/
theorem test_meets_TideEventsTakeEffect :
    (Alive (tide (commit_ .staging [3, 16])) ∧ (tide (commit_ .staging [3, 16])).modes.commit = some (commit_ .staging [3,
        16])) ∧
    (([3, 16].filter fun p => p != 16) ≠ [] ∧ ¬(([3, 16].filter fun p => p != 16) = [16] ∧ (tide (commit_ .staging [3,
        16])).spareState = 1)) ∧
    (([3, 16].filter fun p => p != 3) = [16] ∧ ((tide (commit_ .staging [3, 16])).withPolders fun q => { q with spare := {
        q.spare with state := 9 } }).spareState = 1) ∧
    ((tide (commit_ .staging [3])).modes.commit = some (commit_ .staging [3]) ∧ ([3].filter fun p => p != 3) = [] ∧ (tide
        (commit_ .staging [3])).printing = true) ∧
    ((commit_ .staging [3]).line - 256 ≤ ((tide (commit_ .staging [3])).tick 5).firingLine) ∧
    ((commit_ .staging [3]).since + (tide (commit_ .staging [3])).regN o2002.TIDE_TIMEOUT_MS * 1000000 ≤ max 0 ((tide
        (commit_ .staging [3])).regN o2002.TIDE_TIMEOUT_MS * 1000000)) ∧
    ((tide (commit_ .settled [])).modes.commit = some (commit_ .settled []) ∧ (commit_ .settled []).line ≤ ((tide (commit_
        .settled [])).tick 5).firingLine) ∧
    ((tide (commit_ .retiring [])).modes.commit = some (commit_ .retiring []) ∧ (commit_ .retiring []).line + (tide (commit_
        .retiring [])).regN o3000.LARGEST_DELAY < ((tide (commit_ .retiring [])).tick 5).firingLine) := by
  refine ⟨?_, ?_, ?_, ?_, ?_, ?_, ?_, ?_⟩ <;> decide +kernel

def channel_ (r full : Nat) : State :=
  let s := put (chip 3) (o7400.BINDING + 31) (place 3 7 4 + r)
  put s (o7400.MB_STATUS + 31) (place full 51 51)
def ring_ (r : Nat) : State :=
  { chip 3 with events := { (chip 3).events with heads := (chip 3).events.heads.set r 3, tails := (chip 3).events.tails.set r 1 } }
def locked_ (m : Nat) : State := put (chip 3) (o7402.LOCK_STATE + 31) (2 ^ 15 + place m 14 11)
/-- A state and operands for each clause of `HostWindowCommandsTakeEffect`. -/
theorem test_meets_HostWindowCommandsTakeEffect :
    (Alive (chip 3) ∧ 3 ≠ 2 ∧ 1 < 2) ∧
    (Alive (channel_ 4 0) ∧ 31 < 32 ∧ 3 = (channel_ 4 0).mbSender 31 ∧ 0x10000 ≤ bits ((0x10000 * 2 ^ 16) % 2 ^ 64) 63 16 ∧
        bits ((0x10000 * 2 ^ 16) % 2 ^ 64) 63 16 ≤ 0xFFFFFF8) ∧
    ((channel_ 4 0).mbFull 31 = false) ∧
    (Alive (channel_ 4 1) ∧ 4 = (channel_ 4 1).mbReceiver 31 ∧ (channel_ 4 1).mbFull 31 = true ∧ bit ((channel_ 4
        1).mbStatus 31) 50 = false ∧ pairOf 4 = some .inspection) ∧
    ((channel_ 6 1).mbReceiver 31 = 6 ∧ (channel_ 6 1).mbFull 31 = true ∧ bit ((channel_ 6 1).mbStatus 31) 50 = false ∧
        pairOf 6 = none) ∧
    (3 < 16 ∧ ringProducer 3 ≠ 2 ∧ (5 % 2 ^ 32 + (2 ^ 32 - (ring_ 3).ringTail 3)) % 2 ^ 32 ≤ ringSlots 3 ∧ ringConsumer 3 ≠
        1) ∧
    ((List.range 16).any (fun r => ringConsumer r == 1 && ringProducer r != 2 && decide ((5 % 2 ^ 32 + (2 ^ 32 - (chip
        3).ringTail r)) % 2 ^ 32 ≤ ringSlots r)) = true) ∧
    (8 < 16 ∧ ringConsumer 8 ≠ 2 ∧ (3 % 2 ^ 32 + (2 ^ 32 - (ring_ 8).ringTail 8)) % 2 ^ 32 ≤ (ring_ 8).ringEntries 8 ∧ 8 ≠
        10) ∧
    (10 < 16 ∧ ringConsumer 10 ≠ 2 ∧ (3 % 2 ^ 32 + (2 ^ 32 - (ring_ 10).ringTail 10)) % 2 ^ 32 ≤ (ring_ 10).ringEntries 10)
        ∧
    (Alive (locked_ 3) ∧ 31 < 32 ∧ (chip 3).lockOwner 31 = none ∧ (locked_ 3).lockOwner 31 = some 3 ∧ (locked_ 4).lockOwner
        31 ≠ some 3) ∧
    ((chip 3).islandLost 11 = false) := by
  refine ⟨?_, ?_, ?_, ?_, ?_, ?_, ?_, ?_, ?_, ?_, ?_⟩ <;> decide +kernel

def powered (f : Power → Power) (s : State) : State := { s with power := f s.power }
def record_ : SaveRecord :=
  { count := 1, time := 0, mode := 4, cause := 6, region := 255, flags := 0, line := 0, hwm := 0, origin := 0, counts := [],
    pages := [], health := [], lifetimes := [], journal := [], audit := [] }
def verifies : State := powered (fun p => { p with verifyItem := some 5 }) (chip 2)
def saving_ : State := powered (fun p => { p with pending := true, saving := some record_ }) (chip 7)
def sagged : State := powered (fun p => { p with holding := .afterSag }) (put (put (chip 7) o7C00.AUTO_RESTART 1) o2001.CAUSE 6)
def warmed_ : State := powered (fun p => { p with genTemp := some 250 }) (chip 3)
def report_ : StartupReport := { train := goodTraining, failed := [] }
/-- A chip in BOOT that has found its DRAM. -/
def booting : State := put (put (chip 0) o4400.DEVICE_WIDTH 8) o4400.DENSITY_GBIT 8
/-- A state and operands for each clause of `PowerAndResetCommandsTakeEffect`. -/
theorem test_meets_PowerAndResetCommandsTakeEffect :
    (Awake (chip 4) ∧ 0 = 0 ∧ bit ((put (chip 4) o7C00.SAG_SOURCES 3).regN o7C00.SAG_SOURCES) 0 = true ∧ bit ((put (chip 4)
        o7C00.SAG_SOURCES 3).regN o7C00.SAG_SOURCES) 1 = true) ∧
    (0 < (put (chip 4) o7C00.SAG_SOURCES 3).regN o7C00.VBUS_THRESHOLD_MV ∧ 1000 ≤ 1000) ∧
    (Awake saving_ ∧ saving_.mode = 7) ∧
    (saving_.power.pending = true ∧ saving_.power.resetLater = false ∧ saving_.power.saving = some record_) ∧
    (sagged.mode = 7 ∧ sagged.regN o2001.CAUSE = 6 ∧ sagged.power.holding = .afterSag ∧ sagged.flag o7C00.AUTO_RESTART =
        true) ∧
    (sagged.regN o7C00.VBUS_RESTART_MV ≤ 65535 ∧ sagged.regN o7C00.RESTART_MS * 1000000 ≤ 65535 * 1000000) ∧
    (warmed_.power.genTemp = some 250 ∧ (1100 : Int) ≤ ([1150] : List Int).foldl max 1150 ∧ ([1150] : List Int).foldl max
        1150 ≤ 1150 ∧ ([300] : List Int).foldl max 250 < 1100) ∧
    (verifies.mode ≠ 7 ∧ verifies.power.verifyItem = some 5) ∧
    ((decide (1000000 < (worst [1000001]).natAbs) || ([] : List Nat).any fun d => decide (250000 < d)) = true) ∧
    ((decide (1000000 < (worst [1000000]).natAbs) || ([250000] : List Nat).any fun d => decide (250000 < d)) = false) ∧
    (1000 ≤ 1000 ∧ (chip 3).power.pending = false ∧ saving_.power.pending = true) ∧
    (booting.mode = 0 ∧ booting.modes.loader = false ∧ booting.sizeGib ≠ 0 ∧ report_.failed = []) ∧
    (((((((booting.tick 5).setRegN o4403.CHANNELS 3).refreshBuffers 0).refreshBuffers 1).judgeBoth).trained
        report_.train).mode = 0) := by
  refine ⟨?_, ?_, ?_, ?_, ?_, ?_, ?_, ?_, ?_, ?_, ?_, ?_, ?_⟩ <;> decide +kernel

/-- A state and operands for each clause of `ReleaseOfResetStartsTheChip`. -/
theorem test_meets_ReleaseOfResetStartsTheChip :
    (State.reset.sys.inReset = true) := by
  decide +kernel

def waiting_ : State := { chip 3 with pending := [.crossingStall 5 1, .crossingStall 9 2] }
/-- A state and operands for each clause of `StepRunsTheFrontCommand`. -/
theorem test_meets_StepRunsTheFrontCommand :
    (waiting_.pending = .crossingStall 5 1 :: [.crossingStall 9 2]) := by
  decide +kernel

/-- A state and operands for each clause of `EmptyQueuePassesABlockPosition`. -/
theorem test_meets_EmptyQueuePassesABlockPosition :
    ((chip 3).pending = [] ∧ linked.pending = [] ∧ linked.regN o4000.STATE = 4) ∧
    (State.reset.sys.inReset = true ∧ (chip 3).regN o4000.STATE = 0 ∧ (chip 7).mode = 7 ∧ (chip 7).power.holding ≠
        .afterFault) := by
  refine ⟨?_, ?_⟩ <;> decide +kernel

/-- A state and operands for each clause of `EveryStepKeepsTheInvariant`. -/
theorem test_meets_EveryStepKeepsTheInvariant :
    (QueueInOrder waiting_) ∧
    (∃ s', step waiting_ = .next s') := by
  refine ⟨⟨by decide, by decide, trivial⟩, ⟨_, rfl⟩⟩

/-- A state and operands for each clause of `OnlyReleaseActsInReset`. -/
theorem test_meets_OnlyReleaseActsInReset :
    (State.reset.sys.inReset = true ∧ ∀ t boot, (Instr.crossingStall 5 1) ≠ .resetRelease t boot) := by
  exact ⟨rfl, fun _ _ h => nomatch h⟩

/-- A state and operands for each clause of `SafeHoldStopsTheWork`. -/
theorem test_meets_SafeHoldStopsTheWork :
    (Awake (chip 7) ∧ (chip 7).mode = 7 ∧ (Instr.crossingStall 5 1).inSafeHold = false) := by
  decide +kernel

/-- A state and operands for each clause of `RaisingAnEventOnlyRecordsIt`. -/
theorem test_meets_RaisingAnEventOnlyRecordsIt :
    (127 < 128 ∧ Cells.wf resetValue (chip 3).regs = true) := by
  decide +kernel

/-- A state and operands for each clause of `SharedMemoryHoldsWhatIsStored`. -/
theorem test_meets_SharedMemoryHoldsWhatIsStored :
    (Memory.wf (withRecord (chip 3) 3 [5]).mem = true) := by
  decide +kernel

/-- A state and operands for each clause of `SubindexHoldsWhatIsPut`. -/
theorem test_meets_SubindexHoldsWhatIsPut :
    (Cells.wf resetValue (put (chip 3) o7402.LOCK_STATE 5).regs = true) := by
  decide +kernel

def wrapping_ (mode : Nat) : State := put (put (chip mode) (o6400.COUNT + 256) (2 ^ 48 - 1)) (o6400.FORMAT + 256) 2
/-- A state and operands for each clause of `CountsWrapModulo48Bits`. -/
theorem test_meets_CountsWrapModulo48Bits :
    (1 < 2 ∧ Awake (wrapping_ 7) ∧ Cells.wf resetValue (wrapping_ 7).regs = true ∧ (wrapping_ 7).mode = 7 ∧ (wrapping_
        7).islandLost 11 = false) ∧
    ((wrapping_ 7).regN (o6400.FILTER_NS + 256 * 1) ≤ up_.held ∧ edgeOf ((wrapping_ 7).regN (o6400.FORMAT + 256 * 1))
        ((wrapping_ 7).channel 1).a ((wrapping_ 7).channel 1).b up_.a up_.b = some false) ∧
    (Awake (wrapping_ 3) ∧ Cells.wf resetValue (wrapping_ 3).regs = true ∧ (wrapping_ 3).regN (o6400.FORMAT + 256 * 1) = 2)
        ∧
    (((wrapping_ 3).channel 1).a = false ∧ ((wrapping_ 3).channel 1).b = false ∧ (wrapping_ 3).regN (o6400.FILTER_NS + 256 *
        1) ≤ 20) := by
  refine ⟨?_, ?_, ?_, ?_⟩ <;> decide +kernel

def stagedMap (v : Nat) : State := (chip 3).withHealth fun h => { h with staged := [(9, v)] }
def rewritten : State := (stagedMap 0).withHealth fun h => { h with written := [(0, 9, 9)] }
/-- A state and operands for each clause of `AutomaticSourcesOnlyWorsen`. -/
theorem test_meets_AutomaticSourcesOnlyWorsen :
    (Cells.wf (fun _ => 0) (stagedMap 7).health.staged = true ∧ stateIn (stagedMap 7).health.staged 9 = 3 ∧ causeIn
        (stagedMap 7).health.staged 9 = 1) ∧
    (Cells.wf (fun _ => 0) (stagedMap 3).health.staged = true ∧ stateIn (stagedMap 3).health.staged 9 = 3 ∧ causeIn
        (stagedMap 3).health.staged 9 = 0 ∧ ¬((3 : Nat) = 3 ∧ ((0 : Nat) = 1 ∨ (0 : Nat) = 2))) ∧
    (stateIn (stagedMap 9).health.staged 9 = 1 ∧ causeIn (stagedMap 9).health.staged 9 = 2 ∧ Cells.wf (fun _ => 0)
        (stagedMap 9).health.staged = true ∧ stateIn (stagedMap 9).health.staged 9 < 3) ∧
    (stateIn (stagedMap 15).health.staged 9 ≠ 0 ∧ causeIn (stagedMap 15).health.staged 9 = 3 ∧ Cells.wf (fun _ => 0)
        (stagedMap 15).health.staged = true) ∧
    ((rewritten.health.written.any fun w => w.1 == rewritten.now && decide (w.2.1 ≤ 9 ∧ 9 ≤ w.2.2)) = true) := by
  refine ⟨?_, ?_, ?_, ?_, ?_⟩ <;> decide +kernel

/-- A state and operands for each clause of `ClearWritesClearTheirFlags`. -/
theorem test_meets_ClearWritesClearTheirFlags :
    (Cells.wf resetValue (put (chip 3) (o2801.FLAGS + 1) 5).regs = true ∧ 63 < 64) := by
  decide +kernel

/-- A state and operands for each clause of `LockIsHeldByOneMaster`. -/
theorem test_meets_LockIsHeldByOneMaster :
    (Alive (chip 3) ∧ Cells.wf resetValue (chip 3).regs = true ∧ 15 < 16 ∧ 15 ≠ 2 ∧ 31 < 32 ∧ (chip 3).lockOwner 31 = none)
        := by
  decide +kernel

/-- A state and operands for each clause of `MailboxHoldsOneNotice`. -/
theorem test_meets_MailboxHoldsOneNotice :
    (Alive (channel_ 4 0) ∧ Cells.wf resetValue (channel_ 4 0).regs = true ∧ 3 = (channel_ 4 0).mbSender 31 ∧ 4 = (channel_
        4 0).mbReceiver 31) ∧
    (0xFFFFFF8 * 2 ^ 16 < 2 ^ 64 ∧ 0x10000 ≤ bits (0xFFFFFF8 * 2 ^ 16) 63 16 ∧ bits (0xFFFFFF8 * 2 ^ 16) 63 16 ≤ 0xFFFFFF8 ∧
        (channel_ 4 0).mbFull 31 = false) := by
  refine ⟨?_, ?_⟩ <;> decide +kernel

def unknown (op k : Nat) : Request := ask op 0 (keyed k ++ octetsOf 8 0)
/-- A state and operands for each clause of `UnknownSubindexIsRefused`. -/
theorem test_meets_UnknownSubindexIsRefused :
    (Admitted (makers (chip 3)) 5 (ask 1 0 (keyed 0xFFFF01)) maker) ∧
    (objectAt ((readFrame (ask 1 0 (keyed 0xFFFF01)).frame).key / 256) = none ∧ (readFrame (ask 1 0 (keyed
        0xFFFF01)).frame).op = 1) ∧
    (Admitted (makers (chip 3)) 5 (ask 2 0 (keyed 0x2001FF)) maker) ∧
    ((objectAt ((readFrame (ask 2 0 (keyed 0x2001FF)).frame).key / 256)).map (fun o => decide (o.highest < (readFrame (ask 2
        0 (keyed 0x2001FF)).frame).key % 256)) = some true ∧ (readFrame (ask 2 0 (keyed 0x2001FF)).frame).op = 2) ∧
    (Admitted (makers (chip 3)) 5 (unknown 3 0x2001FF) maker) ∧
    (Admitted (makers (chip 3)) 5 (unknown 4 0x2001FF) maker) ∧
    (Admitted (makers (chip 3)) 5 (ask 5 0 (keyed 0xFFFF01)) maker) ∧
    ((readFrame (unknown 3 0x2001FF).frame).op = 3 ∧ (readFrame (unknown 4 0x2001FF).frame).op = 4 ∧ (readFrame (ask 5 0
        (keyed 0xFFFF01)).frame).op = 5) := by
  refine ⟨admits 1 0 _ rfl (by decide +kernel) (by decide +kernel), ?_, admits 2 0 _ rfl (by decide +kernel) (by decide +kernel), ?_, admits 3 0 _ rfl (by decide +kernel) (by decide +kernel), admits 4 0 _ rfl (by decide +kernel) (by decide +kernel), admits 5 0 _ rfl (by decide +kernel) (by decide +kernel), ?_⟩ <;> decide +kernel

def quietWrite : Request := wr 2 o4000.LANE_MASK 255
/-- A state and operands for each clause of `ClassQNeedsAQuietMode`. -/
theorem test_meets_ClassQNeedsAQuietMode :
    (Granted (makers (chip 3)) 5 quietWrite maker) ∧
    ((readFrame quietWrite.frame).op = 2 ∧ applyOf (readFrame quietWrite.frame).key = .q ∧ (serving (makers (chip 3)) 5
        quietWrite maker).quiet = true) ∧
    (Admitted (makers (chip 4)) 5 quietWrite maker) ∧
    ((serving (makers (chip 4)) 5 quietWrite maker).quiet = false ∧ check4 3 (readFrame quietWrite.frame).key 2 = 0 ∧
        (serving (makers (chip 4)) 5 quietWrite maker).loaderOnly = false) := by
  refine ⟨grants (by decide +kernel) (by decide +kernel), ?_, admits 2 0 _ rfl (by decide +kernel) (by decide +kernel), ?_⟩ <;> decide +kernel

def quietBlock : Request := block 4 true (readFrame quietWrite.frame).key 0 1 (octetsOf 8 0)
/-- A state and operands for each clause of `LinkSettingsStandWhilePrinting`. -/
theorem test_meets_LinkSettingsStandWhilePrinting :
    (Admitted (makers (chip 6)) 5 quietWrite maker) ∧
    ((readFrame quietWrite.frame).key / 256 = 0x4000 ∧ (serving (makers (chip 6)) 5 quietWrite maker).mode = 6) ∧
    (Admitted (makers (chip 4)) 5 quietBlock maker) ∧
    ((readFrame quietBlock.frame).key / 256 = 0x4000 ∧ applyOf (readFrame quietBlock.frame).key = .q ∧ (serving (makers
        (chip 4)) 5 quietBlock maker).mode = 4 ∧ check4 3 (readFrame quietBlock.frame).key 2 = 0 ∧ (readFrame
        quietBlock.frame).op = 4) := by
  refine ⟨admits 2 0 _ rfl (by decide +kernel) (by decide +kernel), ?_, admits 4 (2 ^ 44) _ rfl (by decide +kernel) (by decide +kernel), ?_⟩ <;> decide +kernel

/-- A request whose `TAG` is zero. -/
def untagged (op : Nat) (body : Octets) : Request :=
  { path := .network, src := 9, port := 1, vlan := [], rx := 0, lanes := quiet,
    frame := frameOf (place 1 63 60 + place op 55 48 + body.length) (place 7 63 32 + 1) body [] }
abbrev Untagged (rq : Request) : Prop :=
  ReachesBut (makers (chip 3)) rq ∧ rq.path = .network ∧ (looking (makers (chip 3)) 5 rq).sessionFor (readFrame rq.frame).session rq = some maker
/-- A state and operands for each clause of `WrongTagIsDiscarded`. -/
theorem test_meets_WrongTagIsDiscarded :
    (Reaches (makers (chip 3)) 5 (untagged 1 (keyed o2001.MODE))) ∧
    (Untagged (untagged 1 (keyed o2001.MODE)) ∧ (readFrame (untagged 1 (keyed o2001.MODE)).frame).op = 1 ∧ maker.isOpen =
        true) ∧
    ((readFrame (untagged 1 (keyed o2001.MODE)).frame).tag ≠ tagOf maker.key (readFrame (untagged 1 (keyed
        o2001.MODE)).frame).signed) ∧
    (Untagged (untagged 2 (wrBody o4000.ENABLE 1)) ∧ (readFrame (untagged 2 (wrBody o4000.ENABLE 1)).frame).op = 2) ∧
    (Untagged (untagged 3 (octetsOf 16 0)) ∧ (readFrame (untagged 3 (octetsOf 16 0)).frame).op = 3) ∧
    (Untagged (untagged 4 (octetsOf 16 0)) ∧ (readFrame (untagged 4 (octetsOf 16 0)).frame).op = 4 ∧ (readFrame (untagged 4
        (octetsOf 16 0)).frame).key ≠ o7E01.IMAGE) ∧
    (Untagged (untagged 4 (keyed o7E01.IMAGE ++ octetsOf 8 0)) ∧ (readFrame (untagged 4 (keyed o7E01.IMAGE ++ octetsOf 8
        0)).frame).op = 4 ∧ (readFrame (untagged 4 (keyed o7E01.IMAGE ++ octetsOf 8 0)).frame).key = o7E01.IMAGE) ∧
    (Untagged (untagged 5 (octetsOf 8 0)) ∧ (readFrame (untagged 5 (octetsOf 8 0)).frame).op = 5) ∧
    (Untagged (untagged 6 (octetsOf 8 0)) ∧ (readFrame (untagged 6 (octetsOf 8 0)).frame).op = 6) ∧
    (Untagged (untagged 7 (octetsOf 16 0)) ∧ (readFrame (untagged 7 (octetsOf 16 0)).frame).op = 7) ∧
    (Untagged (untagged 8 (octetsOf 16 0)) ∧ (readFrame (untagged 8 (octetsOf 16 0)).frame).op = 8) ∧
    (Untagged (untagged 18 []) ∧ (readFrame (untagged 18 []).frame).op = 18) := by
  refine ⟨reaches rfl (by decide +kernel), ?_, ?_, ?_, ?_, ?_, ?_, ?_, ?_, ?_, ?_, ?_⟩ <;> decide +kernel

def again (x : Session) : State := inSession (chip 3) x
def repeat_ : Request := ask 2 0 (wrBody o4000.ENABLE 1)
def run_ (seq : Nat) : Running := { seq := seq, reqId := 0, op := 2, ts := false, vlan := [] }
def busy : Session := { maker with running := [run_ 1] }
def answered_ : Session := { maker with cache := [{ seq := 1, reqId := 0, frame := [] }], highest := some 1, done := [1] }
def older : Session := { maker with highest := some 34 }
def full_ : Session := { maker with running := List.replicate 16 (run_ 2) }
abbrev Repeats (x : Session) : Prop :=
  ReachesBut (again x) repeat_ ∧ repeat_.path = .network ∧ (looking (again x) 5 repeat_).sessionFor (readFrame repeat_.frame).session repeat_ = some x ∧ x.isOpen = true
/-- A state and operands for each clause of `RepeatedRequestsDoNotExecute`. -/
theorem test_meets_RepeatedRequestsDoNotExecute :
    ((readFrame repeat_.frame).tag = tagOf [1] (readFrame repeat_.frame).signed) ∧
    (Reaches (again busy) 5 repeat_) ∧
    (Repeats busy ∧ (readFrame repeat_.frame).op = 2 ∧ busy.running.find? (fun q => q.seq == (readFrame repeat_.frame).seq)
        = some (run_ 1) ∧ (run_ 1).reqId = (readFrame repeat_.frame).reqId) ∧
    (Repeats answered_ ∧ answered_.running.find? (fun q => q.seq == (readFrame repeat_.frame).seq) = none) ∧
    (answered_.cache.find? (fun c => c.seq == (readFrame repeat_.frame).seq && c.reqId == (readFrame repeat_.frame).reqId) =
        some { seq := 1, reqId := 0, frame := [] }) ∧
    (Repeats older ∧ older.running.find? (fun q => q.seq == (readFrame repeat_.frame).seq) = none ∧ older.highest = some 34
        ∧ (readFrame repeat_.frame).seq ≤ 34 ∧ (readFrame repeat_.frame).seq + 32 < 34) ∧
    (older.cache.find? (fun c => c.seq == (readFrame repeat_.frame).seq && c.reqId == (readFrame repeat_.frame).reqId) =
        none) ∧
    (Repeats full_ ∧ full_.running.find? (fun q => q.seq == (readFrame repeat_.frame).seq) = none ∧ full_.highest = none ∧
        16 ≤ full_.running.length) ∧
    (full_.cache.find? (fun c => c.seq == (readFrame repeat_.frame).seq && c.reqId == (readFrame repeat_.frame).reqId) =
        none) := by
  refine ⟨ask_tag 2 0 _ (by decide +kernel), reaches rfl (by decide +kernel), ?_, ?_, ?_, ?_, ?_, ?_, ?_⟩ <;> decide +kernel

def unproved : State := inSession (chip 3) halfOpen
def proved : State := ((((unproved.tick 5).ringPut 13 (frameWords proves.frame)).ringTake 13).serve ImageCheck.none false proves).sealed unproved 5
/-- A state and operands for each clause of `OnlyTheRightProofOpensASession`. -/
theorem test_meets_OnlyTheRightProofOpensASession :
    (exec (.auth 5 proves) unproved = .next proved) ∧
    (sessionOpen unproved 7 = false ∧ sessionOpen proved 7 = true) := by
  refine ⟨Laws.request_reaches (s := unproved) (t := 5) (rq := proves) (ops := fun r => r.op == 0x11) (reaches rfl (by decide +kernel)) (by decide +kernel), ?_⟩
  decide +kernel

/-! ### Figures of the spec's worked examples, and check values of the algorithms that it takes from elsewhere -/

/-- What a command leaves, asked of its next state. -/
def leaves (o : Host.Outcome State Fault Refusal) (p : State → Bool) : Bool :=
  match o with
  | .next s => p s
  | _ => false

/-- Chapter 08: row B of die 20 meets web line L at L + 12.03125, and slot 6 lies 6/16 line later. -/
theorem test_slot_position : (chip 4).slotPosition 20 1 0 0 = 3080 ∧ (chip 4).slotPosition 20 1 0 6 = 3176 := by
  decide +kernel

/-- Chapter 08: entry 1Bh trimmed by −16 units gives a main pulse of 1,712 units in a burst of 2,736. -/
theorem test_burst : (entryBurst ((chip 4).regN 0x36011B) (-16)).main = 1712 ∧
    (entryBurst ((chip 4).regN 0x36011B) (-16)).printSpan = 2736 := by
  decide +kernel

/-- Chapter 02: with 24 lines for 127 counts and the origin at 1,000,000, count 1,005,400 lies in line 1,020. -/
theorem test_firing_line :
    ((put (put (put (put (put (chip 4) o3101.ACTIVE 1) o6400.SCALE_LINES 24) o6400.SCALE_COUNTS 127) o6402.LINE_ORIGIN 1000000)
      o6402.HWM_COUNT 1005400).firingLine) = 1020 := by
  decide +kernel

/-- Chapter 10: one write of a 16-bit camera register at 400 kHz takes 117.5 µs. -/
theorem test_register_write_time :
    (camera id).writeTime 1 { settings := Settings.first, writes := [(0, 2, 0)], codes := (none, none), tries := 0 } = 117500 := by
  decide +kernel

/-- R44: a forward edge at the last count wraps to 0. -/
theorem test_count_wraps :
    leaves (exec (.positionEdge 5 1 up_) (wrapping_ 3)) (fun s => s.regN (o6400.COUNT + 256) == 0) = true := by
  decide +kernel

/-- R407: HMAC-SHA-256 of test case 1 of RFC 4231. -/
theorem test_hmac : hmac (List.replicate 20 0x0B) [0x48, 0x69, 0x20, 0x54, 0x68, 0x65, 0x72, 0x65] =
    octetsOf 32 0xb0344c61d8db38535ca8afceaf0bf12b881dc200c9833da726e9376c2e32cff7 := by
  decide +kernel

/-- The nine digits over which CRCs are compared. -/
def digits : Octets := [0x31, 0x32, 0x33, 0x34, 0x35, 0x36, 0x37, 0x38, 0x39]

/-- The catalogued check values of CRC-32C, CRC-32 and the head link's CRC-16. -/
theorem test_crcs : crc32c digits = 0xE3069283 ∧ crc32 digits = 0xCBF43926 ∧ crc16 digits = octetsOf 2 0x29B1 := by
  decide +kernel

/-- Chapter 05, block 787: a bar of value 2 in block columns 100 to 139 on all 64 lines. -/
def labelBar : List Nat :=
  (List.replicate 64 (List.replicate 100 0 ++ List.replicate 40 2 ++ List.replicate 116 0)).flatten

/-- Chapter 05, Table 05-8: its drop sum is 5,120; the words of 14, 15 and 28 bits that PRED codes it in fit an area of 32
bytes, and in one of 31 the first word fails the berm. -/
theorem test_block_787 : dropSum labelBar = 5120 ∧
    (let words := [14, 15, 28].map fun n => List.replicate n false
     (words.flatten.length, bermOk 128 256 words, bermOk 128 248 words) = (57, true, false)) := by
  decide +kernel

/-- R449: the directory lists its indices in ascending order. -/
theorem test_directory_ascends :
    ((objects.map (fun o => o.index)).zip ((objects.map (fun o => o.index)).drop 1)).all (fun p => decide (p.1 < p.2)) = true := by
  decide +kernel

end Sys2Proof.Tests
end

section
/-! PROOFS. Which check of Table 15-3 refuses a WRITE or a WRITE_BLOCK, and R106: the link settings of 4000h stand in PRINT,
PROOF and TEST. -/
namespace Sys2Proof

open Sys2Proof.Machine Sys2Proof.Laws

/-! ### A subindex that has a row exists -/

/-- A running maximum of the last subindices is at least its start and at least the last subindex of each row. -/
theorem le_foldl_last {n : Nat} (rows : List Row) : ∀ m : Nat, (n ≤ m ∨ ∃ r ∈ rows, n ≤ r.last) →
    n ≤ rows.foldl (fun m r => max m r.last) m := by
  induction rows with
  | nil => intro m h; simpa using h
  | cons a rows ih =>
    intro m h
    refine ih _ ?_
    rcases h with h | ⟨r, mem, h⟩
    · exact Or.inl (le_max_of_le_left h)
    · rcases List.mem_cons.1 mem with rfl | mem
      · exact Or.inl (le_max_of_le_right h)
      · exact Or.inr ⟨r, mem, h⟩

/-- A subindex that falls into a row of an object is not above the object's highest. -/
theorem le_highest_of_row {o : Obj} {sub : Nat} {row : Row} (h : o.row sub = some row) : sub ≤ o.highest := by
  have inRow : row.first ≤ sub ∧ sub ≤ row.last := of_decide_eq_true (List.find?_some h :)
  exact le_foldl_last _ _ (Or.inr ⟨row, List.mem_of_find?_eq_some h, inRow.2⟩)

/-- Check 3 passes for a subindex that has a row (R430). -/
theorem check3_of_rowOf {k : Nat} {row : Row} (h : rowOf k = some row) : check3 k = 0 := by
  unfold rowOf at h
  unfold check3
  cases o : objectAt (k / 256) with
  | none => rw [o] at h; cases h
  | some obj =>
    rw [o] at h
    exact if_neg (Nat.not_lt.2 (le_highest_of_row h))

/-- A subindex of an apply class has a row, so check 3 passes for it. -/
theorem check3_of_applyOf {k : Nat} (h : applyOf k ≠ .none) : check3 k = 0 := by
  unfold applyOf at h
  cases row : rowOf k with
  | none => rw [row] at h; exact absurd rfl h
  | some r => exact check3_of_rowOf row

/-! ### What a refusal at checks 3 to 5 does -/

/-- The first code is that of the third check when the two before it pass. -/
theorem firstCode_third {a b c : Nat} (ha : a = 0) (hb : b = 0) : firstCode [a, b, c] = c := by
  by_cases hc : c = 0 <;> simp [firstCode, ha, hb, hc]

/-- A refusal of another class than 01h is counted, audited and answered (R413, R424). -/
theorem refuse_audited {s : State} {rq : Request} {r : Req} {x : Session} {abort : Nat} (h : abortClass abort ≠ 1) :
    s.refuse rq r x abort = ((s.incReg o2100.REQUESTS_REFUSED).audit { auditOf rq r x.role with abort := abort }).answerSession
      x (replyTo rq r) abort [] false := by
  unfold State.refuse
  exact if_neg h

section Served

variable {u : State} {image : ImageCheck} {timeout : Bool} {q : Request} {x : Session} {code : Nat}

/-- A WRITE that fails one of checks 3 to 5 is refused with the first code. -/
theorem served_write_refused (op : (readFrame q.frame).op = 2)
    (fails : firstCode [check3 (readFrame q.frame).key, check4 x.role (readFrame q.frame).key 2,
      u.check5 2 (readFrame q.frame).key (valueOctetsOf q) x.role x.path] = code) (nonzero : code ≠ 0) :
    served u image timeout q x =
      (u.showRefusal (readFrame q.frame).key (valueOctetsOf q) code).refuse q (readFrame q.frame) x code := by
  subst fails
  simp only [served, op]
  unfold State.serveWrite
  exact if_pos nonzero

/-- A WRITE_BLOCK that fails one of checks 3 to 5 loses the assembly of its session and is refused with the first code. -/
theorem served_writeBlock_refused (op : (readFrame q.frame).op = 4)
    (fails : firstCode [check3 (readFrame q.frame).key, check4 x.role (readFrame q.frame).key 2,
      u.check5 4 (readFrame q.frame).key [] x.role x.path] = code) (nonzero : code ≠ 0) :
    served u image timeout q x = (u.dropAssembly x.id).refuse q (readFrame q.frame) x code := by
  subst fails
  simp only [served, op]
  unfold State.serveWriteBlock
  exact if_pos nonzero

end Served

/-! ### The settings of the raster link -/

section LinkSettings

variable {s : State} {op k code : Nat} {o : Octets} {path : Path} {role : Nat}

/-- A subindex of another object is not one of 4000h. -/
theorem ne_of_link {n : Nat} (h : k / 256 = 0x4000) (other : n / 256 ≠ 0x4000) : k ≠ n := fun e => other (e ▸ h)

/-- The objects of the axes lie above 4000h. -/
theorem ofAxis_link {base : Nat} (h : k / 256 = 0x4000) (above : 0x400100 ≤ base) : ofAxis k base = false := by
  have below : ¬(base ≤ k ∧ k < base + 1024) := by omega
  simp [ofAxis, below]

/-- No rule of a mode or a path names a subindex of 4000h. -/
theorem modeCode_link (h : k / 256 = 0x4000) : s.modeCode k o path = 0 := by
  have notSecret : k / 256 ≠ 0x2102 := by omega
  have notTest : ¬(k = o4003.LOOP ∨ k = o4003.PRBS_RUN) :=
    not_or.2 ⟨ne_of_link h (by decide), ne_of_link h (by decide)⟩
  have notTrain : k ≠ o4405.TRAIN := ne_of_link h (by decide)
  have notLearn : ofAxis k o6011.LEARN = false := ofAxis_link h (by decide)
  have notCalibration : ¬(k = o7801.VERIFY_ITEM ∨ k = o7801.CLEAR_TRIM) :=
    not_or.2 ⟨ne_of_link h (by decide), ne_of_link h (by decide)⟩
  have notMotion : ofAxis k o6000.COMMAND = false := ofAxis_link h (by decide)
  have notSwap : k ≠ o7E02.SWAP := ne_of_link h (by decide)
  simp [State.modeCode, notSecret, notTest, notTrain, notLearn, notCalibration, notMotion, notSwap]

/-- A recovery loader takes no write of 4000h (R457, R509). -/
theorem loaderAllows_link (h : k / 256 = 0x4000) (write : op = 2 ∨ op = 4) : s.loaderAllows op k role path = false := by
  have notLoad : k ≠ o1011.LOAD := ne_of_link h (by decide)
  have notSave : k ≠ o1010.SAVE := ne_of_link h (by decide)
  rcases write with rfl | rfl <;> simp [State.loaderAllows, h, notLoad, notSave]

/-- Check 5 refuses a write of a class-Q subindex of 4000h outside CAPPED, READY and SERVICE (R106, R440). -/
theorem check5_link (h : k / 256 = 0x4000) (classQ : applyOf k = .q) (busy : s.quiet = false) (write : op = 2 ∨ op = 4) :
    s.check5 op k o role path = 0x05000000 := by
  have notImage : k ≠ o7E01.IMAGE := ne_of_link h (by decide)
  have notSwap : k ≠ o7E02.SWAP := ne_of_link h (by decide)
  unfold State.check5
  by_cases loader : s.loaderOnly = true
  · simp [loader, loaderAllows_link h write, notImage, notSwap]
  · rw [if_neg loader, if_pos (by omega)]
    simp [modeCode_link h, classQ, busy]

/-- No object shows the refusal of a write of 4000h. -/
theorem showRefusal_link (h : k / 256 = 0x4000) : s.showRefusal k o code = s := by
  have notRequest : k ≠ o2000.REQUEST := ne_of_link h (by decide)
  have notMotion : ofAxis k o6000.COMMAND = false := ofAxis_link h (by decide)
  simp [State.showRefusal, notRequest, notMotion]

end LinkSettings

/-- PRINT, PROOF and TEST are not among the modes of class Q. -/
theorem quiet_eq_false {s : State} (h : s.mode = 4 ∨ s.mode = 5 ∨ s.mode = 6) : s.quiet = false := by
  rcases h with h | h | h <;> simp [State.quiet, h]

/-- Settles O57: checks 3 and 4 pass, check 5 is the one that refuses, and its code is of class 05h and shown nowhere else. -/
theorem linkSettingsStandWhilePrinting : Obligations.LinkSettingsStandWhilePrinting := by
  intro s t rq x admitted q r u refused link classQ mode allowed
  have known : check3 r.key = 0 := check3_of_applyOf (by rw [classQ]; decide)
  have busy : u.quiet = false := quiet_eq_false mode
  refine ⟨rfl, fun write => ?_, fun write => ?_⟩
  · have fails := (firstCode_third known allowed).trans
      (check5_link (o := valueOctetsOf q) (role := x.role) (path := x.path) link classQ busy (Or.inl rfl))
    calc exec (.write t rq) s = outcome s t rq (served u ImageCheck.none false q x) :=
          request_admitted admitted (beq_iff_eq.2 write)
      _ = refused u := by
          rw [served_write_refused write fails (by decide), showRefusal_link link, refuse_audited (by decide)]
  · have fails := (firstCode_third known allowed).trans
      (check5_link (o := []) (role := x.role) (path := x.path) link classQ busy (Or.inr rfl))
    have notImage : r.key ≠ o7E01.IMAGE := ne_of_link link (by decide)
    calc exec (.writeBlock t rq) s = outcome s t rq (served u ImageCheck.none false q x) :=
          request_admitted admitted (by simp only [Bool.and_eq_true, beq_iff_eq, bne_iff_ne]; exact ⟨write, notImage⟩)
      _ = refused (u.dropAssembly x.id) := by
          rw [served_writeBlock_refused write fails (by decide), refuse_audited (by decide)]

end Sys2Proof
end

section
/-! PROOFS. What check 3 of Table 15-3 refuses: R430, a request that names an index without an object, or a subindex above the
object's highest. -/
namespace Sys2Proof

open Sys2Proof.Machine Sys2Proof.Laws

/-! ### The codes of check 3 -/

section Check3

variable {s : State} {k : Nat} {o : Octets}

/-- Check 3 refuses an index without an object with 03000001h (R430). -/
theorem check3_of_no_object (h : objectAt (k / 256) = none) : check3 k = 0x03000001 := by
  simp only [check3, h]

/-- Check 3 refuses a subindex above the object's highest with 03000002h (R430). -/
theorem check3_of_above_highest {obj : Obj} (h : objectAt (k / 256) = some obj) (above : obj.highest < k % 256) :
    check3 k = 0x03000002 := by
  simp only [check3, h, if_pos above]

/-- Check 3 has no other codes. -/
theorem check3_codes : check3 k = 0 ∨ check3 k = 0x03000001 ∨ check3 k = 0x03000002 := by
  cases known : objectAt (k / 256) with
  | none => exact Or.inr (Or.inl (check3_of_no_object known))
  | some obj =>
    by_cases above : obj.highest < k % 256
    · exact Or.inr (Or.inr (check3_of_above_highest known above))
    · exact Or.inl (by simp only [check3, known, if_neg above])

/-- A subindex that check 3 refuses is none of those that exist. -/
theorem ne_of_unknown {n : Nat} (unknown : check3 k ≠ 0) (known : check3 n = 0) : k ≠ n := fun e => unknown (e ▸ known)

/-- A refusal of check 3 is audited: its code is not of class 01h. -/
theorem abortClass_check3 : abortClass (check3 k) ≠ 1 := by
  rcases check3_codes (k := k) with h | h | h <;> rw [h] <;> decide

/-- No result of a motion command stands for a refusal of check 3. -/
theorem motionResult_check3 (unknown : check3 k ≠ 0) : motionResult (check3 k) = 0 := by
  rcases check3_codes (k := k) with h | h | h
  · exact absurd h unknown
  · rw [h]; decide
  · rw [h]; decide

/-- No object shows a refusal of check 3. -/
theorem showRefusal_check3 (unknown : check3 k ≠ 0) : s.showRefusal k o (check3 k) = s := by
  have notRequest : k ≠ o2000.REQUEST := ne_of_unknown unknown (by decide)
  simp [State.showRefusal, notRequest, motionResult_check3 unknown]

end Check3

/-! ### The operations on a subindex that check 3 refuses -/

/-- The first check that fails gives the code. -/
theorem firstCode_first {c : Nat} {rest : List Nat} (nonzero : c ≠ 0) : firstCode (c :: rest) = c := if_pos nonzero

section Unknown

variable {u : State} {image : ImageCheck} {timeout : Bool} {q : Request} {x : Session}

/-- READ of an unknown subindex is refused with the code of check 3. -/
theorem served_read_unknown (op : (readFrame q.frame).op = 1) (unknown : check3 (readFrame q.frame).key ≠ 0) :
    served u image timeout q x = u.refuse q (readFrame q.frame) x (check3 (readFrame q.frame).key) := by
  simp only [served, op, State.serveRead, firstCode_first unknown]
  exact if_pos unknown

/-- WRITE of an unknown subindex is refused with the code of check 3, which no object shows. -/
theorem served_write_unknown (op : (readFrame q.frame).op = 2) (unknown : check3 (readFrame q.frame).key ≠ 0) :
    served u image timeout q x = u.refuse q (readFrame q.frame) x (check3 (readFrame q.frame).key) := by
  rw [served_write_refused op (firstCode_first unknown) unknown, showRefusal_check3 unknown]

/-- READ_BLOCK of an unknown subindex is refused with the code of check 3. -/
theorem served_readBlock_unknown (op : (readFrame q.frame).op = 3) (unknown : check3 (readFrame q.frame).key ≠ 0) :
    served u image timeout q x = u.refuse q (readFrame q.frame) x (check3 (readFrame q.frame).key) := by
  simp only [served, op, State.serveReadBlock, firstCode_first unknown]
  exact if_pos unknown

/-- STAGE of an unknown subindex is refused with the code of check 3. -/
theorem served_stage_unknown (op : (readFrame q.frame).op = 5) (unknown : check3 (readFrame q.frame).key ≠ 0) :
    served u image timeout q x = u.refuse q (readFrame q.frame) x (check3 (readFrame q.frame).key) := by
  simp only [served, op, State.serveStage, firstCode_first unknown]
  exact if_pos unknown

end Unknown

/-- Settles O55: the code is that of check 3, the first check of every operation that names a subindex, and it is of a class
that is counted, audited and answered. -/
theorem unknownSubindexIsRefused : Obligations.UnknownSubindexIsRefused := by
  intro s t rq x admitted q r u refused code names
  have fails : check3 r.key = code := by
    rcases names with ⟨noObject, rfl⟩ | ⟨obj, known, above, rfl⟩
    · exact check3_of_no_object noObject
    · exact check3_of_above_highest known above
  have nonzero : code ≠ 0 := by
    rcases names with ⟨_, rfl⟩ | ⟨_, _, _, rfl⟩ <;> decide
  subst fails
  have refuses (v : State) : outcome s t rq (v.refuse q r x (check3 r.key)) = refused v (check3 r.key) := by
    rw [refuse_audited abortClass_check3]
  refine ⟨fun read => ?_, fun write => ?_, fun readBlock => ?_, fun writeBlock => ?_, fun stage => ?_⟩
  · calc exec (.read t rq) s = outcome s t rq (served u ImageCheck.none false q x) :=
          request_admitted admitted (beq_iff_eq.2 read)
      _ = refused u (check3 r.key) := by rw [served_read_unknown read nonzero, refuses]
  · calc exec (.write t rq) s = outcome s t rq (served u ImageCheck.none false q x) :=
          request_admitted admitted (beq_iff_eq.2 write)
      _ = refused u (check3 r.key) := by rw [served_write_unknown write nonzero, refuses]
  · calc exec (.readBlock t rq) s = outcome s t rq (served u ImageCheck.none false q x) :=
          request_admitted admitted (beq_iff_eq.2 readBlock)
      _ = refused u (check3 r.key) := by rw [served_readBlock_unknown readBlock nonzero, refuses]
  · have notImage : r.key ≠ o7E01.IMAGE := ne_of_unknown nonzero (by decide)
    calc exec (.writeBlock t rq) s = outcome s t rq (served u ImageCheck.none false q x) :=
          request_admitted admitted (by simp only [Bool.and_eq_true, beq_iff_eq, bne_iff_ne]; exact ⟨writeBlock, notImage⟩)
      _ = refused (u.dropAssembly x.id) (check3 r.key) := by
          rw [served_writeBlock_refused writeBlock (firstCode_first nonzero) nonzero, refuses]
  · calc exec (.stage t rq) s = outcome s t rq (served u ImageCheck.none false q x) :=
          request_admitted admitted (beq_iff_eq.2 stage)
      _ = refused u (check3 r.key) := by rw [served_stage_unknown stage nonzero, refuses]

end Sys2Proof
end
section
/-! PROOFS. What every command has in common: it runs in a chip out of reset, and where SAFE-HOLD sheds or stops its block, only
outside SAFE-HOLD. So no command stops the chip, time never runs back, and the queue stays in time order. -/
namespace Sys2Proof

open Sys2Proof.Machine Sys2Proof.Laws

variable {s s' : State} {c : Instr}

/-! ### The form of every command -/

/-- What a command at t answers: in reset nothing changes (R522), and otherwise a next state at its time with the queue as it
was. -/
def RunsAt (s : State) (t : Nat) (o : Host.Outcome State Fault Refusal) : Prop :=
  ∃ u : State, o = if s.sys.inReset then .next s else .next (u.sealed s t)

/-- The same of a command whose block SAFE-HOLD sheds or stops: there only time passes (R505). -/
def RunsOnAt (s : State) (t : Nat) (o : Host.Outcome State Fault Refusal) : Prop :=
  ∃ u : State, o = if s.sys.inReset then .next s else .next ((if (s.tick t).mode = 7 then s.tick t else u).sealed s t)

/-- Whether a command is the release of RESET_N, which alone acts in reset. -/
def Instr.isRelease : Instr → Bool
  | .resetRelease .. => true
  | _ => false

/-- A motion command runs, whether its ring or a write brings it. -/
theorem motionCommand_runs (op t axis : Nat) (source : MotionSource) (s : State) :
    RunsAt s t (s.motionCommand op t axis source) := by
  cases source with
  | ring => exact ⟨_, rfl⟩
  | write rq => exact ⟨_, rfl⟩

/-- Every command but the release of RESET_N runs at its time. -/
theorem exec_runs (s : State) (h : c.isRelease = false) : RunsAt s c.time (exec c s) := by
  cases c
  case resetRelease => cases h
  case moveAbs | moveRel | velocity | stop | home | enable | disable => exact motionCommand_runs ..
  all_goals exact ⟨_, rfl⟩

/-- Every command whose block SAFE-HOLD sheds or stops runs outside it only. -/
theorem exec_runsOn (s : State) (h : c.inSafeHold = false) : RunsOnAt s c.time (exec c s) := by
  cases c
  case moveAbs source | moveRel source | velocity source | stop source | home source | enable source | disable source =>
    cases source with
    | ring => exact ⟨_, rfl⟩
    | write rq => cases h
  all_goals cases h
  all_goals exact ⟨_, rfl⟩

/-- The release of RESET_N is the command of that name. -/
theorem isRelease_eq_false (h : ∀ t boot, c ≠ .resetRelease t boot) : c.isRelease = false := by
  unfold Instr.isRelease
  split
  · exact absurd rfl (h _ _)
  · rfl

/-! ### What a command leaves: a next state, the queue, and the time -/

/-- Settles O44: the release of RESET_N ends sealed, as every other command of a chip out of reset does. -/
theorem everyCommandAnswersANextState : Obligations.EveryCommandAnswersANextState := by
  intro c s
  cases h : c.isRelease with
  | true =>
    unfold Instr.isRelease at h
    split at h
    · exact ⟨_, rfl, rfl, Nat.le_max_left _ _, Nat.le_refl _⟩
    · cases h
  | false =>
    obtain ⟨u, runs⟩ := exec_runs s h
    rw [runs]
    split
    · exact ⟨s, rfl, rfl, Nat.le_refl _, Nat.le_max_left _ _⟩
    · exact ⟨_, rfl, rfl, Nat.le_max_left _ _, Nat.le_refl _⟩

/-- Settles O45: every other command runs, and what runs does nothing in reset. -/
theorem onlyReleaseActsInReset : Obligations.OnlyReleaseActsInReset := by
  intro c s inReset other
  obtain ⟨u, runs⟩ := exec_runs s (isRelease_eq_false other)
  rw [runs, if_pos inReset]

/-- Settles O46: such a command runs outside SAFE-HOLD only. -/
theorem safeHoldStopsTheWork : Obligations.SafeHoldStopsTheWork := by
  intro c s awake hold shed
  obtain ⟨u, runs⟩ := exec_runsOn s shed
  rw [runs, if_neg (by rw [awake]; decide), if_pos (tick_mode.trans hold)]

/-! ### The queue in time order -/

/-- A queue in time order from some time on is so from any earlier one. -/
theorem inTimeOrder_mono {a b : Nat} {l : List Instr} (h : a ≤ b) (order : inTimeOrder b l) : inTimeOrder a l := by
  cases l with
  | nil => trivial
  | cons i rest => exact ⟨h.trans order.1, order.2⟩

/-- Settles O43: the front command is not earlier than now and not later than those behind it, so its time comes before
theirs; a block position of the raster link waits for nothing. -/
theorem everyStepKeepsTheInvariant : Obligations.EveryStepKeepsTheInvariant := by
  intro s s' order steps
  unfold step at steps
  unfold QueueInOrder at order ⊢
  cases queue : s.pending with
  | nil =>
    simp only [queue, Host.Outcome.next.injEq] at steps
    rw [← steps, sealed_pending, queue]
    trivial
  | cons i rest =>
    rw [queue] at order
    obtain ⟨due, later⟩ := order
    simp only [queue] at steps
    obtain ⟨u, answers, keeps, _, notAfter⟩ := everyCommandAnswersANextState i { s with pending := rest }
    rw [steps, Host.Outcome.next.injEq] at answers
    subst answers
    rw [keeps]
    exact inTimeOrder_mono (notAfter.trans (max_le due (Nat.le_refl _))) later

/-- Settles O42. -/
theorem invariantHoldsAtReset : Obligations.InvariantHoldsAtReset := trivial

/-! ### One step, and the two ends of a reset -/

/-- Settles O39. -/
theorem stepRunsTheFrontCommand : Obligations.StepRunsTheFrontCommand := by
  intro s c rest queue
  simp only [step, queue]

/-- A state sealed at its own time is itself. -/
theorem sealed_self (s : State) : s.sealed s s.now = s := by
  simp [State.sealed]

/-- Settles O40: the transmitter stands still in reset, with the link DISABLED and after a sag. -/
theorem emptyQueuePassesABlockPosition : Obligations.EmptyQueuePassesABlockPosition := by
  intro s empty
  have steps : step s = .next (s.lineTick.sealed s s.now) := by simp only [step, empty]
  refine ⟨steps, fun idle => ?_⟩
  have still : s.lineTick = s := by
    unfold State.lineTick
    refine if_pos ?_
    rcases idle with inReset | disabled | sag
    · exact Or.inl inReset
    · exact Or.inr (Or.inl disabled)
    · exact Or.inr (Or.inr (Or.inl sag))
  rw [steps, still, sealed_self]

/-- Settles O38. -/
theorem releaseOfResetStartsTheChip : Obligations.ReleaseOfResetStartsTheChip := by
  intro s t boot inReset
  simp only [exec, execResetRelease, tick_inReset, inReset, if_true]

/-! ### What RESET_N leaves -/

/-- A register that nothing has written reads its default. -/
theorem reset_regN (k : Nat) : State.reset.regN k = (resetValue k).toNat := rfl

/-- Mode, counts, flags, locks and mailboxes have the default 0. -/
theorem resetValue_silent : ∀ k ∈ [o2001.MODE, o6400.COUNT, o6400.COUNT + 256, o2801.FLAGS, o2801.FLAGS + 1] ++
    ((List.range 32).map fun l => o7402.LOCK_STATE + l) ++ ((List.range 32).map fun ch => o7400.MB_STATUS + ch),
    resetValue k = 0 := by
  decide +kernel

/-- Settles O41: registers read their defaults, and every list of `State.reset` is empty. -/
theorem resetLeavesTheChipSilent : Obligations.ResetLeavesTheChipSilent := by
  have silent {k : Nat} (mem) : State.reset.regN k = 0 := (reset_regN k).trans (by rw [resetValue_silent k mem]; rfl)
  refine ⟨rfl, silent (by decide), silent (by decide), silent (by decide), fun l lt => ?_, fun r lt => ?_, fun ch lt => ?_,
    rfl, silent (by decide), silent (by decide), rfl, fun a => rfl⟩
  · have zero : State.reset.regN (o7402.LOCK_STATE + l) = 0 := silent (by simp [lt])
    simp only [State.lockOwner, zero]
    rfl
  · interval_cases r <;> rfl
  · have zero : State.reset.mbStatus ch = 0 := silent (by simp [lt])
    simp only [State.mbFull, zero]
    rfl

end Sys2Proof
end

section
/-! PROOFS. What is stored is read back and nothing else changes: the shared memory, the subindices, the flags that CLEAR clears,
the locks and the mailboxes. -/
namespace Sys2Proof

open Sys2Proof.Machine Sys2Proof.Laws

variable {s : State}

/-! ### The shared memory and the subindices -/

/-- Settles O48: octet by octet, by the laws of sparse memory. -/
theorem sharedMemoryHoldsWhatIsStored : Obligations.SharedMemoryHoldsWhatIsStored := by
  intro s a o wf
  refine ⟨List.ext_getElem (by simp [State.load]) fun i _ lt => ?_, fun q outside => memory_store_other outside,
    memory_store_wf wf⟩
  simp only [State.load, List.getElem_map, List.getElem_range]
  exact memory_store_same wf lt

/-- Settles O49. -/
theorem subindexHoldsWhatIsPut : Obligations.SubindexHoldsWhatIsPut :=
  fun _ _ _ wf => ⟨reg_setReg wf, fun _ other => reg_setReg_other other, setReg_wf wf, _, rfl⟩

/-- A natural number that is put into a subindex is read back. -/
theorem regN_setRegN {k n : Nat} (wf : Cells.wf resetValue s.regs = true) : (s.setRegN k n).regN k = n := by
  rw [State.regN, State.setRegN, reg_setReg wf, Int.toNat_natCast]

/-! ### CLEAR -/

/-- A bit that is set or cleared reads so, and the other bits of the subindex as before. -/
theorem bit_setRegBit {k b i : Nat} {on : Bool} (wf : Cells.wf resetValue s.regs = true) :
    bit ((s.setRegBit k b on).regN k) i = if i = b then on else bit (s.regN k) i := by
  rw [State.regN, State.setRegBit, reg_setReg wf, Int.toNat_natCast, bit_setBit]

/-- What one bit of CLEAR does to its flag. -/
def clearFlag (k v met : Nat) (s : State) (b : Nat) : State := if bit v b && !bit met b then s.setRegBit k b false else s

/-- One bit of CLEAR keeps the canonical form. -/
theorem clearFlag_wf {k v met b : Nat} (wf : Cells.wf resetValue s.regs = true) :
    Cells.wf resetValue (clearFlag k v met s b).regs = true := by
  unfold clearFlag
  split
  · exact setReg_wf wf
  · exact wf

/-- One bit of CLEAR clears its flag and no other. -/
theorem bit_clearFlag {k v met b i : Nat} (wf : Cells.wf resetValue s.regs = true) :
    bit ((clearFlag k v met s b).regN k) i = (bit (s.regN k) i && !(decide (i = b) && bit v b && !bit met b)) := by
  unfold clearFlag
  split
  · next clears => rw [bit_setRegBit wf, Bool.and_assoc, clears]; by_cases i = b <;> simp [*]
  · next stays => rw [Bool.and_assoc, Bool.eq_false_iff.2 stays]; simp

/-- Several bits of CLEAR clear their flags and no others. -/
theorem bit_clearFlags {k v met i : Nat} (l : List Nat) : ∀ {s : State}, Cells.wf resetValue s.regs = true →
    bit ((l.foldl (clearFlag k v met) s).regN k) i = (bit (s.regN k) i && !(decide (i ∈ l) && bit v i && !bit met i)) := by
  induction l with
  | nil => simp
  | cons b l ih =>
    intro s wf
    rw [List.foldl_cons, ih (clearFlag_wf wf), bit_clearFlag wf]
    by_cases same : i = b
    · subst same; by_cases i ∈ l <;> simp [*]
    · simp [same]

/-- CLEAR touches no other subindex. -/
theorem clearFlags_reg_other {k v met q : Nat} (other : q ≠ k) (l : List Nat) : ∀ {s : State},
    (l.foldl (clearFlag k v met) s).reg q = s.reg q := by
  induction l with
  | nil => intro s; rfl
  | cons b l ih =>
    intro s
    rw [List.foldl_cons, ih]
    unfold clearFlag
    split
    · exact reg_setReg_other other
    · rfl

/-- Settles O52: bit by bit over the 64 bits of the word. -/
theorem clearWritesClearTheirFlags : Obligations.ClearWritesClearTheirFlags := by
  intro s w v met wf
  refine ⟨fun b lt => ?_, fun q other => clearFlags_reg_other other (List.range 64)⟩
  calc bit ((s.clearFlags w v met).regN (o2801.FLAGS + w)) b
      = (bit (s.regN (o2801.FLAGS + w)) b && !(decide (b ∈ List.range 64) && bit v b && !bit met b)) :=
        bit_clearFlags (List.range 64) wf
    _ = (bit (s.regN (o2801.FLAGS + w)) b && !(bit v b && !bit met b)) := by
        rw [decide_eq_true (List.mem_range.2 lt), Bool.true_and]

/-! ### Locks -/

section Locks

variable {t m n l : Nat}

/-- A word of a lock says its owner. -/
theorem lock_word {e : Nat} (h : m < 16) :
    bit (2 ^ 15 + place m 14 11 + place e 10 3) 15 = true ∧ bits (2 ^ 15 + place m 14 11 + place e 10 3) 14 11 = m := by
  simp only [bit, bits, place, Nat.shiftRight_eq_div_pow, Nat.shiftLeft_eq, beq_iff_eq]
  omega

/-- The result of a lock read says its code and the owner of the lock (Table 18-9). -/
theorem lockResult_fields {r : Nat} (h : r < 256) :
    bits (s.lockResult l r) 63 56 = r ∧ bits (s.lockResult l r) 55 52 = bits (s.regN (o7402.LOCK_STATE + l)) 14 11 := by
  simp only [State.lockResult, bits, place, Nat.shiftRight_eq_div_pow, Nat.shiftLeft_eq]
  omega

/-- The owner of a lock is what its word says. -/
theorem lockOwner_eq_some {o : Nat} : s.lockOwner l = some o ↔
    bit (s.regN (o7402.LOCK_STATE + l)) 15 = true ∧ bits (s.regN (o7402.LOCK_STATE + l)) 14 11 = o := by
  unfold State.lockOwner
  simp only [Option.ite_none_right_eq_some, Option.some.injEq]

/-- Locks look at their own word only. -/
theorem lockOwner_congr {u : State} (h : u.reg (o7402.LOCK_STATE + l) = s.reg (o7402.LOCK_STATE + l)) :
    u.lockOwner l = s.lockOwner l := by
  unfold State.lockOwner State.regN
  rw [h]

/-- The state after master m has read the free lock l (R494). -/
def lockTaken (s : State) (m l : Nat) : State :=
  s.setRegN (o7402.LOCK_STATE + l) (2 ^ 15 + place m 14 11 + place (s.epoch m) 10 3)

/-- The reader of a free lock holds it. -/
theorem lockOwner_lockTaken (wf : Cells.wf resetValue s.regs = true) (h : m < 16) : (lockTaken s m l).lockOwner l = some m := by
  rw [lockOwner_eq_some, lockTaken, regN_setRegN wf]
  exact lock_word h

/-- A lock whose word is 0 is free. -/
theorem lockOwner_released (wf : Cells.wf resetValue s.regs = true) :
    (s.setRegN (o7402.LOCK_STATE + l) 0).lockOwner l = none := by
  unfold State.lockOwner
  rw [regN_setRegN wf]
  rfl

/-- A read of a free lock by one master takes it. -/
theorem exec_lockRead_free (alive : Alive s) (h : m ≠ 2) (lt : l < 32) (free : s.lockOwner l = none) :
    exec (.lockRead t m l none) s =
      .next (((lockTaken (s.tick t) m l).answerTo m 0 ((lockTaken (s.tick t) m l).lockResult l 1)).sealed s t) := by
  have free' : (s.tick t).lockOwner l = none := free
  have reads : (s.tick t).readLock m l = ((lockTaken (s.tick t) m l).lockResult l 1, lockTaken (s.tick t) m l) := by
    simp only [State.readLock, free']; rfl
  show execLockRead t m l none s = _
  rw [execLockRead, runOn_alive alive, if_neg (Nat.not_le.2 lt)]
  simp only [State.access, if_neg h, reads]

/-- A read of a held lock by one master tells it who holds it and changes nothing. -/
theorem exec_lockRead_held {o : Nat} (alive : Alive s) (h : m ≠ 2) (lt : l < 32) (held : s.lockOwner l = some o) :
    exec (.lockRead t m l none) s =
      .next (((s.tick t).answerTo m 0 (s.lockResult l (if o = m then 3 else 2))).sealed s t) := by
  have held' : (s.tick t).lockOwner l = some o := held
  have reads : (s.tick t).readLock m l = (s.lockResult l (if o = m then 3 else 2), s.tick t) := by
    simp only [State.readLock, held']; rfl
  show execLockRead t m l none s = _
  rw [execLockRead, runOn_alive alive, if_neg (Nat.not_le.2 lt)]
  simp only [State.access, if_neg h, reads]

/-- The owner's write frees a lock. -/
theorem exec_lockWrite_owner (alive : Alive s) (h : m ≠ 2) (lt : l < 32) (held : s.lockOwner l = some m) :
    exec (.lockWrite t m l false) s =
      .next ((((s.tick t).setRegN (o7402.LOCK_STATE + l) 0).answerTo m 0 0).sealed s t) := by
  have held' : (s.tick t).lockOwner l = some m := held
  show execLockWrite t m l false s = _
  rw [execLockWrite, runOn_alive alive]
  simp [State.access, h, lt, State.writeLock, held']

/-- Any other master's write is refused. -/
theorem exec_lockWrite_other (alive : Alive s) (h : m ≠ 2) (lt : l < 32) (other : s.lockOwner l ≠ some m) :
    exec (.lockWrite t m l false) s = .next (((s.tick t).answerTo m 0x06001303 0).sealed s t) := by
  have other' : (s.tick t).lockOwner l ≠ some m := other
  show execLockWrite t m l false s = _
  rw [execLockWrite, runOn_alive alive]
  simp [State.access, h, lt, State.writeLock, other']

/-- A register other than the mode leaves the chip running. -/
theorem alive_setRegN {k v : Nat} (alive : Alive s) (other : o2001.MODE ≠ k) : Alive (s.setRegN k v) :=
  ⟨alive.1, fun hold => alive.2 ((regN_setRegN_other other).symm.trans hold)⟩

end Locks

/-- An access that is answered has its effect on the registers only by what it did before. -/
theorem reg_answered {u v : State} {m c w t k : Nat} : ((u.answerTo m c w).sealed v t).reg k = u.reg k := rfl

/-- The same of the owner of a lock. -/
theorem lockOwner_answered {u v : State} {m c w t l : Nat} : ((u.answerTo m c w).sealed v t).lockOwner l = u.lockOwner l :=
  lockOwner_congr reg_answered

/-- Settles O53: the word of the lock is the only thing that its reads and writes change. -/
theorem lockIsHeldByOneMaster : Obligations.LockIsHeldByOneMaster := by
  intro s t m l alive wf lt16 not2 lt32 free
  have reads := exec_lockRead_free (t := t) alive not2 lt32 free
  have alive' := alive_setRegN (s := s.tick t) (k := o7402.LOCK_STATE + l)
    (v := 2 ^ 15 + place m 14 11 + place ((s.tick t).epoch m) 10 3) alive (by unfold o2001.MODE o7402.LOCK_STATE; omega)
  generalize taken : ((lockTaken (s.tick t) m l).answerTo m 0 ((lockTaken (s.tick t) m l).lockResult l 1)).sealed s t = s' at reads
  have regs : s'.regs = (lockTaken (s.tick t) m l).regs := by rw [← taken]; rfl
  have alive' : Alive s' := by rw [← taken]; exact alive'
  have wf' : Cells.wf resetValue s'.regs = true := by rw [regs]; exact setReg_wf (s := s.tick t) wf
  have owner : s'.lockOwner l = some m := by rw [← taken, lockOwner_answered]; exact lockOwner_lockTaken wf lt16
  have others (q : Nat) (other : q ≠ o7402.LOCK_STATE + l) : s'.reg q = s.reg q := by
    rw [← taken, reg_answered]; exact reg_setReg_other other
  refine ⟨s', reads, owner, fun n other => lockOwner_congr (others _ (by omega)), others,
    fun u n notOwner notNet => ⟨?_, ?_⟩, fun u => ?_⟩
  · refine ⟨_, _, exec_lockRead_held alive' notNet lt32 owner, rfl, rfl, ?_⟩
    rw [if_neg (Ne.symm notOwner)]
    have fields := lockResult_fields (s := s') (l := l) (r := 2) (by decide)
    exact ⟨fields.1, fields.2.trans (lockOwner_eq_some.1 owner).2⟩
  · have other : s'.lockOwner l ≠ some n := by rw [owner, ne_eq, Option.some.injEq]; exact Ne.symm notOwner
    exact ⟨_, exec_lockWrite_other alive' notNet lt32 other, rfl, rfl⟩
  · refine ⟨_, exec_lockWrite_owner alive' not2 lt32 owner, ?_, fun q other => ?_⟩
    · rw [lockOwner_answered]; exact lockOwner_released wf'
    · rw [reg_answered]; exact reg_setReg_other other

end Sys2Proof
end

section
/-! PROOFS. What raising an event leaves alone, and the mailboxes: a slot hands over exactly the notice that was posted (R483,
R484). -/
namespace Sys2Proof

open Sys2Proof.Machine Sys2Proof.Laws

variable {s : State}

/-! ### What raising an event leaves alone -/

/-- The subindices that an event or a ring may change: those of 2800h to 2803h and the spillway counters of the rings. -/
def EventKey (q : Nat) : Prop :=
  0x2800 ≤ q / 256 ∧ q / 256 ≤ 0x2803 ∨ o7401.RING_SPILLWAY ≤ q ∧ q < o7401.RING_SPILLWAY + 16

/-- Between two states no other subindex has changed, the values keep their canonical form, and the notices in the mailboxes
are the same. -/
structure OnlyEvents (s s' : State) : Prop where
  reg : ∀ q, ¬EventKey q → s'.reg q = s.reg q
  notices : s'.events.notices = s.events.notices
  wf : Cells.wf resetValue s.regs = true → Cells.wf resetValue s'.regs = true

namespace OnlyEvents

theorem refl (s : State) : OnlyEvents s s := ⟨fun _ _ => rfl, rfl, id⟩

theorem trans {a b c : State} (x : OnlyEvents a b) (y : OnlyEvents b c) : OnlyEvents a c :=
  ⟨fun q h => (y.reg q h).trans (x.reg q h), y.notices.trans x.notices, y.wf ∘ x.wf⟩

theorem setReg {k : Nat} (h : EventKey k) (s : State) (v : Int) : OnlyEvents s (s.setReg k v) :=
  ⟨fun _ other => reg_setReg_other fun e => other (e ▸ h), rfl, setReg_wf⟩

theorem ite {s a b : State} {c : Prop} [Decidable c] (x : OnlyEvents s a) (y : OnlyEvents s b) :
    OnlyEvents s (if c then a else b) := by
  split
  · exact x
  · exact y

/-- A change of other data than registers and notices. -/
theorem of_same {s s' : State} (regs : s'.regs = s.regs) (notices : s'.events.notices = s.events.notices) : OnlyEvents s s' :=
  ⟨fun _ _ => by rw [State.reg, regs, State.reg], notices, fun wf => by rw [regs]; exact wf⟩

theorem notice (s : State) (src : Nat) (words : List Nat) : OnlyEvents s (s.notice src words) := of_same rfl rfl

/-- Putting a record on a ring does no more than the event that it raises. -/
theorem ringPutWith {ring : Nat → Nat → State → State} {r : Nat} (lt : r < 16)
    (h : ∀ d s, OnlyEvents s (ring 118 d s) ∧ OnlyEvents s (ring 119 d s)) (words : List Nat) (s : State) :
    OnlyEvents s (State.ringPutWith ring r words s) := by
  have spillway : OnlyEvents s (s.incReg (o7401.RING_SPILLWAY + r)) := setReg (Or.inr (by omega)) s _
  unfold State.ringPutWith
  split
  · exact refl s
  · split
    · dsimp only
      split
      · refine trans ?_ (h r _).2
        exact spillway.trans (of_same rfl rfl)
      · exact spillway
    · dsimp only
      split
      · refine trans ?_ (h r _).1
        exact of_same rfl rfl
      · exact of_same rfl rfl

/-- The counter, the flag and the levels of a raise are subindices of 2800h to 2802h. -/
theorem counted {src : Nat} (lt : src < 128) (s : State) (detail breach : Nat) :
    let flagged := (s.incReg (o2802.COUNT + src)).setRegBit (o2801.FLAGS + src / 64) (src % 64) true
    let worst := flagged.setReg o2800.HIGHEST_BREACH (max (flagged.reg o2800.HIGHEST_BREACH) breach)
    OnlyEvents s (if src = 2 then worst.setRegN o2800.LAST_ESCALATION detail else worst) := by
  intro flagged worst
  have count : EventKey (o2802.COUNT + src) := Or.inl (by unfold o2802.COUNT; omega)
  have flags : EventKey (o2801.FLAGS + src / 64) := Or.inl (by unfold o2801.FLAGS; omega)
  have highest : EventKey o2800.HIGHEST_BREACH := Or.inl (by decide)
  have last : EventKey o2800.LAST_ESCALATION := Or.inl (by decide)
  have upTo : OnlyEvents s worst := ((setReg count s _).trans (setReg flags _ _)).trans (setReg highest _ _)
  exact ite (upTo.trans (setReg last _ _)) upTo

/-- A journal record that finds no room is counted. -/
theorem journalFull (s : State) :
    OnlyEvents s (State.incReg { s with events := { s.events with journal := s.events.journal.dropLast } }
      o2803.JOURNAL_SPILLWAY) := by
  refine trans ?_ (setReg (Or.inl (by decide)) _ _)
  exact of_same rfl rfl

/-- A raise, with the events that it raises itself. -/
theorem raiseFuel (n : Nat) : ∀ {src : Nat}, src < 128 → ∀ (detail breach region : Nat) (alt : Bool) (s : State),
    OnlyEvents s (State.raiseFuel n src detail breach region alt s) := by
  induction n with
  | zero =>
    intro src lt detail breach region alt s
    unfold State.raiseFuel
    extract_lets s1 s2 s3 s4 routed seq r s5 e1 s6 beyond e2 s7
    have h5 : OnlyEvents s s5 := (counted lt s detail breach).trans (notice _ _ _)
    have h6 : OnlyEvents s s6 := h5.trans (of_same rfl rfl)
    have h7 : OnlyEvents s s7 := h6.trans (ite (journalFull s6) (refl s6))
    exact ite h7 h5
  | succ n ih =>
    intro src lt detail breach region alt s
    unfold State.raiseFuel
    extract_lets s1 s2 s3 s4 routed seq r s5 e1 s6 beyond e2 s7
    have h5 : OnlyEvents s s5 := (counted lt s detail breach).trans (notice _ _ _)
    have h6 : OnlyEvents s s6 := h5.trans (of_same rfl rfl)
    have h7 : OnlyEvents s s7 := h6.trans (ite (journalFull s6) (refl s6))
    have h8 := h7.trans (ringPutWith (ring := fun e d s => State.raiseFuel n e d 0 23 false s) (r := 9) (by decide)
      (fun d s => ⟨ih (src := 118) (by decide) d 0 23 false s, ih (src := 119) (by decide) d 0 23 false s⟩) r.words s7)
    exact ite (ite (h8.trans (ih (by decide) _ _ _ _ _)) h8) h5

end OnlyEvents

/-- Raising an event leaves every other subindex and the mailboxes' notices alone. -/
theorem raise_onlyEvents {src : Nat} (lt : src < 128) (s : State) (detail breach region : Nat) (alt : Bool) :
    OnlyEvents s (s.raise src detail breach region alt) :=
  OnlyEvents.raiseFuel 4 lt detail breach region alt s

/-- The doorbell of a receiver leaves every other subindex and the mailboxes' notices alone. -/
theorem ringDoorbell_onlyEvents (s : State) (receiver ch : Nat) : OnlyEvents s (s.ringDoorbell receiver ch) := by
  unfold State.ringDoorbell
  split
  · exact raise_onlyEvents (by decide) s _ _ _ _
  · cases pairOf receiver with
    | none => exact OnlyEvents.of_same rfl rfl
    | some p => cases p <;> exact OnlyEvents.of_same rfl rfl

/-- The doorbell of a receiver leaves a chip out of reset. -/
theorem ringDoorbell_inReset (s : State) (receiver ch : Nat) :
    (s.ringDoorbell receiver ch).sys.inReset = s.sys.inReset := by
  unfold State.ringDoorbell
  split
  · obtain ⟨_, _, _, _, raised, _⟩ := raised_raise s (if false = true then 121 else 120) ch 0 23 false
    rw [raised]
  · cases pairOf receiver with
    | none => rfl
    | some p => cases p <;> rfl

/-! ### Mailboxes -/

section Mailboxes

variable {m t ch c v w n : Nat}

/-- Whether a mailbox is full, and what it holds, is told by its status and the notices. -/
theorem mailbox_congr {u : State} (status : u.reg (o7400.MB_STATUS + c) = s.reg (o7400.MB_STATUS + c))
    (notices : (u.events.notices.find? fun p => p.1 == c) = s.events.notices.find? fun p => p.1 == c) :
    u.mbFull c = s.mbFull c ∧ u.noticeIn c = s.noticeIn c := by
  unfold State.mbFull State.mbStatus State.regN State.noticeIn
  rw [status, notices]
  exact ⟨rfl, rfl⟩

/-- The status that a post gives its mailbox says full. -/
theorem postedStatus_full {m e posts : Nat} (h : posts < 2 ^ 32) : bit (place m 63 60 + place e 59 52 + 2 ^ 51 + posts) 51 = true := by
  simp only [bit, bits, place, Nat.shiftRight_eq_div_pow, Nat.shiftLeft_eq, beq_iff_eq]
  omega

/-- The state after master m has posted notice v to channel ch, before the receiver's doorbell (R483). -/
def noticePosted (s : State) (m ch v : Nat) : State :=
  let posts := (bits (s.mbStatus ch) 31 0 + 1) % 2 ^ 32
  let marked := s.setRegN (o7400.MB_STATUS + ch) (place m 63 60 + place (s.epoch m) 59 52 + 2 ^ 51 + posts)
  { marked with events := { marked.events with notices := (ch, v) :: marked.events.notices.filter fun p => p.1 != ch } }

/-- The notice posted stands in its mailbox. -/
theorem noticePosted_same (wf : Cells.wf resetValue s.regs = true) :
    (noticePosted s m ch v).mbFull ch = true ∧ (noticePosted s m ch v).noticeIn ch = v := by
  have found : ((noticePosted s m ch v).events.notices.find? fun p => p.1 == ch) = some (ch, v) :=
    List.find?_cons_of_pos (beq_self_eq_true ch)
  refine ⟨?_, by simp only [State.noticeIn, found]⟩
  have status : (noticePosted s m ch v).mbStatus ch =
      place m 63 60 + place (s.epoch m) 59 52 + 2 ^ 51 + (bits (s.mbStatus ch) 31 0 + 1) % 2 ^ 32 := regN_setRegN wf
  rw [State.mbFull, status]
  exact postedStatus_full (Nat.mod_lt _ (by decide))

/-- Taking other channels' notices out of the list leaves those of this one. -/
theorem find?_filter_other {l : List (Nat × Nat)} (other : c ≠ ch) :
    (l.filter fun p => p.1 != ch).find? (fun p => p.1 == c) = l.find? fun p => p.1 == c := by
  rw [List.find?_filter]
  congr 1
  funext p
  by_cases same : p.1 = c <;> simp [same, other]

/-- A post leaves every other mailbox alone. -/
theorem noticePosted_other (other : c ≠ ch) :
    (noticePosted s m ch v).mbFull c = s.mbFull c ∧ (noticePosted s m ch v).noticeIn c = s.noticeIn c := by
  refine mailbox_congr (reg_setReg_other (by omega)) ?_
  exact (List.find?_cons_of_neg (by simpa using Ne.symm other)).trans (find?_filter_other other)

/-- The state after the notice of channel ch has been taken, before the interrupt of its receiver ends (R484). -/
def noticeTaken (s : State) (ch : Nat) : State :=
  let counted := if bit (s.mbStatus ch) 50 then s.incReg o7400.ORPHANS else s
  let marked := counted.setRegN (o7400.MB_STATUS + ch) (setBit (setBit (counted.mbStatus ch) 51 false) 50 false)
  { marked with events := { marked.events with notices := marked.events.notices.filter fun p => p.1 != ch } }

/-- A mailbox whose notice has been taken is empty. -/
theorem noticeTaken_same (wf : Cells.wf resetValue s.regs = true) : (noticeTaken s ch).mbFull ch = false := by
  let counted := if bit (s.mbStatus ch) 50 then s.incReg o7400.ORPHANS else s
  have wf' : Cells.wf resetValue counted.regs = true := by
    show Cells.wf resetValue (if bit (s.mbStatus ch) 50 then s.incReg o7400.ORPHANS else s).regs = true
    split
    · exact setReg_wf wf
    · exact wf
  have status : (noticeTaken s ch).mbStatus ch = setBit (setBit (counted.mbStatus ch) 51 false) 50 false := regN_setRegN wf'
  rw [State.mbFull, status, bit_setBit, if_neg (by decide), bit_setBit, if_pos rfl]

/-- Taking a notice leaves every other mailbox alone. -/
theorem noticeTaken_other (other : c ≠ ch) (lt : c < 32) :
    (noticeTaken s ch).mbFull c = s.mbFull c ∧ (noticeTaken s ch).noticeIn c = s.noticeIn c := by
  have notOrphans : o7400.MB_STATUS + c ≠ o7400.ORPHANS := by unfold o7400.MB_STATUS o7400.ORPHANS; omega
  unfold noticeTaken
  refine mailbox_congr ((reg_setReg_other (by omega)).trans ?_) ?_
  · split
    · exact reg_setReg_other notOrphans
    · rfl
  · split <;> exact find?_filter_other other

/-! The commands of a mailbox. -/

/-- A chip keeps running whose reset, mode register and events alone may have changed so. -/
theorem alive_of {s u : State} (alive : Alive s) (inReset : u.sys.inReset = s.sys.inReset)
    (mode : u.reg o2001.MODE = s.reg o2001.MODE) : Alive u :=
  ⟨inReset.trans alive.1, fun hold => alive.2 (by rw [← hold]; unfold State.mode State.regN; rw [mode])⟩

/-- A post by the bound sender into an empty slot, with a pointer in range (R483). -/
theorem exec_mbNoticePost_empty (alive : Alive s) (lt : ch < 32) (sender : m = s.mbSender ch) (not2 : m ≠ 2)
    (low : 0x10000 ≤ bits (v % 2 ^ 64) 63 16) (high : bits (v % 2 ^ 64) 63 16 ≤ 0xFFFFFF8) (empty : s.mbFull ch = false) :
    exec (.mbNoticePost t m ch v) s =
      .next ((((noticePosted (s.tick t) m ch (v % 2 ^ 64)).ringDoorbell (s.mbReceiver ch) ch).answerTo m 0 0).sealed s t) := by
  have posts : (s.tick t).postNotice m ch (v % 2 ^ 64) =
      (0, (noticePosted (s.tick t) m ch (v % 2 ^ 64)).ringDoorbell (s.mbReceiver ch) ch) := by
    have sender' : ¬m ≠ (s.tick t).mbSender ch := not_not_intro sender
    have range : ¬(bits (v % 2 ^ 64) 63 16 < 0x10000 ∨ 0xFFFFFF8 < bits (v % 2 ^ 64) 63 16) := by omega
    have empty' : ¬(s.tick t).mbFull ch = true := by rw [show (s.tick t).mbFull ch = s.mbFull ch from rfl, empty]; decide
    have receiver : (noticePosted (s.tick t) m ch (v % 2 ^ 64)).mbReceiver ch = s.mbReceiver ch := by
      unfold State.mbReceiver State.regN
      rw [show (noticePosted (s.tick t) m ch (v % 2 ^ 64)).reg (o7400.BINDING + ch) = s.reg (o7400.BINDING + ch) from
        reg_setReg_other (by unfold o7400.BINDING o7400.MB_STATUS; omega)]
    rw [State.postNotice]
    simp only [if_neg sender', if_neg range, if_neg empty']
    rw [← receiver]
    rfl
  show execMbNoticePost t m ch v s = _
  rw [execMbNoticePost, runOn_alive alive]
  simp only [State.access, if_neg not2, if_pos lt, posts]

/-- A post into a full slot (R483). -/
theorem exec_mbNoticePost_full (alive : Alive s) (lt : ch < 32) (sender : m = s.mbSender ch) (not2 : m ≠ 2)
    (low : 0x10000 ≤ bits (v % 2 ^ 64) 63 16) (high : bits (v % 2 ^ 64) 63 16 ≤ 0xFFFFFF8) (full : s.mbFull ch = true) :
    exec (.mbNoticePost t m ch v) s =
      .next ((((s.tick t).incReg o7400.FULL_REFUSALS).answerTo m 0x06001301 0).sealed s t) := by
  have posts : (s.tick t).postNotice m ch (v % 2 ^ 64) = (0x06001301, (s.tick t).incReg o7400.FULL_REFUSALS) := by
    have sender' : ¬m ≠ (s.tick t).mbSender ch := not_not_intro sender
    have range : ¬(bits (v % 2 ^ 64) 63 16 < 0x10000 ∨ 0xFFFFFF8 < bits (v % 2 ^ 64) 63 16) := by omega
    have full' : (s.tick t).mbFull ch = true := full
    rw [State.postNotice]
    simp only [if_neg sender', if_neg range, if_pos full']
  show execMbNoticePost t m ch v s = _
  rw [execMbNoticePost, runOn_alive alive]
  simp only [State.access, if_neg not2, if_pos lt, posts]

/-- What the end of a pair's interrupt leaves alone. -/
theorem setPair_frame (s : State) (p : PairId) (x : Pair) :
    (s.setPair p x).regs = s.regs ∧ (s.setPair p x).events = s.events ∧ (s.setPair p x).out = s.out := by
  cases p <;> exact ⟨rfl, rfl, rfl⟩

/-- Taking a notice puts nothing out. -/
theorem noticeTaken_out : (noticeTaken s ch).out = s.out := by
  unfold noticeTaken
  dsimp only
  split <;> rfl

/-- The internal interrupt of a firmware pair ends unless another notice waits for it (log entry 106). -/
def interruptEnds (s : State) (n : Nat) : State :=
  match pairOf n with
  | some p =>
    if (List.range 32).any fun c => s.mbFull c && s.mbReceiver c == n then s
    else s.setPair p { s.pair p with doorbell := false }
  | none => s

/-- The end of an interrupt changes the pair only. -/
theorem interruptEnds_frame : (interruptEnds s n).regs = s.regs ∧ (interruptEnds s n).events = s.events ∧
    (interruptEnds s n).out = s.out := by
  unfold interruptEnds
  cases pairOf n with
  | none => exact ⟨rfl, rfl, rfl⟩
  | some p =>
    dsimp only
    split
    · exact ⟨rfl, rfl, rfl⟩
    · exact setPair_frame s p _

/-- A take by the bound receiver of a full slot. -/
theorem takeNotice_full (receiver : n = s.mbReceiver ch) (full : s.mbFull ch = true) :
    s.takeNotice n ch = (0, s.noticeIn ch, interruptEnds (noticeTaken s ch) n) := by
  have receiver' : ¬n ≠ s.mbReceiver ch := not_not_intro receiver
  have full' : ¬s.mbFull ch = false := by rw [full]; decide
  unfold State.takeNotice
  simp only [if_neg receiver', if_neg full']
  rfl

/-- A take by the bound receiver of a full slot empties it and answers its notice (R484). -/
theorem exec_mbNoticeTake_full (alive : Alive s) (lt : ch < 32) (receiver : n = s.mbReceiver ch) (not2 : n ≠ 2)
    (full : s.mbFull ch = true) :
    exec (.mbNoticeTake t n ch) s =
      .next (((interruptEnds (noticeTaken (s.tick t) ch) n).answerTo n 0 (s.noticeIn ch)).sealed s t) := by
  have takes : (s.tick t).takeNotice n ch = (0, s.noticeIn ch, interruptEnds (noticeTaken (s.tick t) ch) n) :=
    takeNotice_full receiver full
  show execMbNoticeTake t n ch s = _
  rw [execMbNoticeTake, runOn_alive alive]
  simp only [State.access, if_neg not2, if_pos lt, takes]

end Mailboxes

/-- Settles O54: post and take change their own mailbox and, by the doorbell, what events change. -/
theorem mailboxHoldsOneNotice : Obligations.MailboxHoldsOneNotice := by
  intro s t m n ch v alive wf lt sender receiver sendsNot2 takesNot2 v64 low high empty
  have v' : v % 2 ^ 64 = v := Nat.mod_eq_of_lt v64
  have posts := exec_mbNoticePost_empty (t := t) alive lt sender sendsNot2 (by rw [v']; exact low) (by rw [v']; exact high) empty
  rw [v'] at posts
  have bells := ringDoorbell_onlyEvents (noticePosted (s.tick t) m ch v) (s.mbReceiver ch) ch
  have inReset := ringDoorbell_inReset (noticePosted (s.tick t) m ch v) (s.mbReceiver ch) ch
  generalize rung : (noticePosted (s.tick t) m ch v).ringDoorbell (s.mbReceiver ch) ch = r at posts bells inReset
  generalize posted : (r.answerTo m 0 0).sealed s t = s' at posts
  have frame : OnlyEvents (noticePosted (s.tick t) m ch v) s' := by rw [← posted]; exact bells.trans (OnlyEvents.of_same rfl rfl)
  have boxes (c : Nat) (h : c < 32) : s'.mbFull c = (noticePosted (s.tick t) m ch v).mbFull c ∧
      s'.noticeIn c = (noticePosted (s.tick t) m ch v).noticeIn c :=
    mailbox_congr (frame.reg _ (by unfold EventKey o7400.MB_STATUS o7401.RING_SPILLWAY; omega)) (by rw [frame.notices])
  have bound : s'.reg (o7400.BINDING + ch) = s.reg (o7400.BINDING + ch) :=
    (frame.reg _ (by unfold EventKey o7400.BINDING o7401.RING_SPILLWAY; omega)).trans
      (reg_setReg_other (by unfold o7400.BINDING o7400.MB_STATUS; omega))
  obtain ⟨filled, kept⟩ := noticePosted_same (s := s.tick t) (m := m) (ch := ch) (v := v) wf
  have full : s'.mbFull ch = true := (boxes ch lt).1.trans filled
  have holds : s'.noticeIn ch = v := (boxes ch lt).2.trans kept
  have sender' : m = s'.mbSender ch := by rw [sender]; unfold State.mbSender State.regN; rw [bound]
  have receiver' : n = s'.mbReceiver ch := by rw [receiver]; unfold State.mbReceiver State.regN; rw [bound]
  have mode : s'.reg o2001.MODE = s.reg o2001.MODE :=
    (frame.reg _ (by unfold EventKey o2001.MODE o7401.RING_SPILLWAY; omega)).trans
      (reg_setReg_other (by unfold o2001.MODE o7400.MB_STATUS; omega))
  have alive' : Alive s' := alive_of alive (by rw [← posted]; exact inReset) mode
  have wf' : Cells.wf resetValue s'.regs = true := frame.wf (setReg_wf wf)
  refine ⟨s', posts, full, holds, fun c other h => ?_, fun u w lowW highW => ?_, fun u => ?_⟩
  · obtain ⟨fulls, notices⟩ := noticePosted_other (s := s.tick t) (m := m) (v := v) other
    exact ⟨(boxes c h).1.trans fulls, (boxes c h).2.trans notices⟩
  · obtain ⟨fulls, notices⟩ := mailbox_congr (s := s') (u := s'.incReg o7400.FULL_REFUSALS) (c := ch)
      (reg_setReg_other (by unfold o7400.FULL_REFUSALS o7400.MB_STATUS; omega)) rfl
    exact ⟨_, exec_mbNoticePost_full alive' lt sender' sendsNot2 lowW highW full, fulls.trans full, notices.trans holds, rfl⟩
  · obtain ⟨regs, events, out⟩ := interruptEnds_frame (s := noticeTaken (s'.tick u) ch) (n := n)
    have taken (c : Nat) : (interruptEnds (noticeTaken (s'.tick u) ch) n).mbFull c = (noticeTaken (s'.tick u) ch).mbFull c ∧
        (interruptEnds (noticeTaken (s'.tick u) ch) n).noticeIn c = (noticeTaken (s'.tick u) ch).noticeIn c :=
      mailbox_congr (by rw [State.reg, regs, State.reg]) (by rw [events])
    refine ⟨_, exec_mbNoticeTake_full alive' lt receiver' takesNot2 full, ?_, (taken ch).1.trans (noticeTaken_same wf'),
      fun c other h => ?_⟩
    · rw [holds]; exact congrArg (_ :: ·) (out.trans noticeTaken_out)
    · obtain ⟨fulls, notices⟩ := noticePosted_other (s := s.tick t) (m := m) (v := v) other
      obtain ⟨fullsT, noticesT⟩ := noticeTaken_other (s := s'.tick u) other h
      exact ⟨(((taken c).1.trans fullsT).trans (boxes c h).1).trans fulls,
        (((taken c).2.trans noticesT).trans (boxes c h).2).trans notices⟩

end Sys2Proof
end

section
/-! PROOFS. Hearing the lanes of the raster link is no more than sending: it touches no session and no secret. -/
namespace Sys2Proof.Laws

open Sys2Proof.Machine

/-! ### Chains of operations that only send -/

variable {s u : State}

/-- A register is set on the way. -/
theorem Sent.setRegN (h : Sent s u) (k v : Nat) : Sent s (u.setRegN k v) := h.trans (sent_raised (raised_setReg u k v))

/-- A counter counts on the way. -/
theorem Sent.addReg (h : Sent s u) (k n : Nat) : Sent s (u.addReg k n) := h.trans (sent_raised (raised_setReg u k _))

/-- A counter counts by one on the way. -/
theorem Sent.incReg (h : Sent s u) (k : Nat) : Sent s (u.incReg k) := h.addReg k 1

/-- The link changes on the way. -/
theorem Sent.withLink (h : Sent s u) (f : Link → Link) : Sent s (u.withLink f) := h.trans (sent_link u f)

/-- The lanes change on the way. -/
theorem Sent.withLanes (h : Sent s u) (f : Lanes → Lanes) : Sent s (u.withLanes f) := h.withLink _

/-- An event is raised on the way. -/
theorem Sent.raise (h : Sent s u) (src detail breach region : Nat) (alt : Bool) :
    Sent s (u.raise src detail breach region alt) :=
  h.trans (sent_raised (raised_raise u src detail breach region alt))

/-- Something leaves the chip on the way. -/
theorem Sent.emit (h : Sent s u) (o : Out) : Sent s (u.emit o) := h.trans (sent_emit u o)

/-- A list of steps each of which only sends. -/
theorem Sent.foldl {α : Type} {f : State → α → State} (step : ∀ u a, Sent u (f u a)) (l : List α) (h : Sent s u) :
    Sent s (l.foldl f u) := by
  induction l generalizing u with
  | nil => exact h
  | cons a l ih => exact ih (h.trans (step u a))

/-! ### The lanes -/

theorem sent_laneStatus (s : State) (n : Nat) (f : Nat → Nat) : Sent s (s.laneStatus n f) := (Sent.refl s).setRegN _ _

theorem sent_showLanes (s : State) (active standby failed : Nat) : Sent s (s.showLanes active standby failed) :=
  Sent.foldl (fun u _ => sent_laneStatus u _ _) _ ((((Sent.refl s).setRegN _ _).setRegN _ _).setRegN _ _)

theorem sent_startTraining (s : State) : Sent s s.startTraining := sent_link s _

theorem sent_enterDetect (s : State) : Sent s s.enterDetect := by
  unfold State.enterDetect
  extract_lets registers lanes retries
  have h1 : Sent s registers := ((((Sent.refl s).setRegN _ _).setRegN _ _).setRegN _ _).incReg _
  have h2 : Sent s lanes := h1.trans (sent_showLanes _ _ _ _)
  have h3 : Sent s retries := Sent.foldl (fun u _ => sent_laneStatus u _ _) _ h2
  exact (h3.trans (sent_startTraining _)).withLanes _

theorem sent_linkDown (s : State) : Sent s s.linkDown := (sent_enterDetect s).raise _ _ _ _ _

theorem sent_sendLink (s : State) (op mask target : Nat) : Sent s (s.sendLink op mask target) :=
  ((Sent.refl s).withLanes _).emit _

theorem sent_sendOrder (s : State) (mask tries : Nat) : Sent s (s.sendOrder mask tries) :=
  (((Sent.refl s).setRegN _ _).withLink _).trans (sent_sendLink _ _ _ _)

theorem sent_failLanes (s : State) (mask : Nat) : Sent s (s.failLanes mask) := by
  unfold State.failLanes
  extract_lets active standby hit counted shown left new
  have h : Sent s shown := ((Sent.refl s).addReg _ _).trans (sent_showLanes _ _ _ _)
  exact sent_ite (Sent.refl s) (sent_ite (h.trans (sent_linkDown _))
    (sent_ite ((h.trans (sent_sendOrder _ _ _)).raise _ _ _ _ _) (sent_ite (h.trans (sent_sendOrder _ _ _)) h)))

theorem sent_hearLane (s : State) (n : Nat) (r : LaneRun) (l : LaneHeard) : Sent s (s.hearLane n r l) := by
  unfold State.hearLane
  exact (sent_ite ((sent_laneStatus s n _).setRegN _ _) (sent_laneStatus s n _)).withLanes _

theorem sent_elasticRun (cols : List (List (Option LineBlock))) : ∀ (drains : List Nat) (s : State),
    Sent s (State.elasticRun drains cols s) := by
  induction cols with
  | nil => intro drains s; exact Sent.refl s
  | cons c rest ih =>
    intro drains s
    exact ((((Sent.refl s).addReg _ _).addReg _ _).withLanes _).trans (ih _ _)

theorem sent_sendColumn (s : State) (c : List (Option LineBlock)) : Sent s (s.sendColumn c).2 := by
  unfold State.sendColumn
  dsimp only
  exact (Sent.refl s).withLanes _

theorem sent_farEnd (cols : List (List (Option LineBlock))) : ∀ (level : Nat) (drains : List Nat) (s : State),
    Sent s (State.farEnd level drains cols s) := by
  induction cols with
  | nil => intro level drains s; exact Sent.refl s
  | cons c rest ih =>
    intro level drains s
    exact (Sent.foldl (fun u _ => (sent_sendColumn u c).emit _) _ (Sent.refl s)).trans (ih _ _ _)

theorem sent_hearRuns (s : State) (x : Reception) : Sent s (s.hearRuns x) := by
  unfold State.hearRuns
  extract_lets h lost cols level heard elastic looped
  have h1 : Sent s heard := Sent.foldl (fun u _ => sent_hearLane u _ _ _) _ (Sent.refl s)
  have h2 : Sent s elastic := h1.trans (sent_elasticRun _ _ _)
  have h3 : Sent s looped := sent_ite (h2.trans (sent_farEnd _ _ _ _)) h2
  exact h3.trans (sent_failLanes _ _)

/-- Whatever the lanes carry, hearing them only sends. -/
theorem sent_hear (s : State) (x : Reception) : Sent s (s.hear x) := sent_ite (Sent.refl s) (sent_hearRuns s x)

/-! ### The receive side for one packet -/

theorem sent_sendCredit (s : State) : Sent s s.sendCredit := sent_ite (sent_putPacket s _ _ _) (Sent.refl s)

theorem sent_nack (s : State) (reason : Nat) : Sent s (s.nack reason) := ((Sent.refl s).incReg _).trans (sent_putPacket _ _ _ _)

theorem sent_noteReplay (s : State) : Sent s s.noteReplay := sent_raised (raised_raiseLimited s _ _ _ _ _ _ _)

theorem sent_freeCredit (s : State) (poolC : Bool) (c : Nat) : Sent s (s.freeCredit poolC c) := sent_link s _

/-- A packet only sends, but for what is delivered: a sequenced packet in order, once its credit and its number are taken. -/
theorem onPacket_sent_or_deliver (handle deliver : Packet → State → State) (p : Packet) (s : State)
    (seq : sequenced (packetType p) = true) :
    Sent s (State.onPacket handle deliver p s) ∨
      State.onPacket handle deliver p s = (deliver p (inOrder s p)).sendCredit := by
  unfold State.onPacket
  extract_lets d c poolC gaps again
  have known : ¬sequenced (packetType p) = false := by rw [seq]; decide
  have h : Sent s gaps := (Sent.refl s).incReg _
  rw [if_neg known]
  split
  · exact Or.inl (Sent.refl s)
  split
  · exact Or.inl ((((Sent.refl s).incReg _).trans (sent_nack _ _)).trans (sent_noteReplay _))
  split
  · exact Or.inl ((((Sent.refl s).incReg _).trans (sent_nack _ _)).raise _ _ _ _ _)
  split
  · exact Or.inl ((((Sent.refl s).incReg _).trans (sent_nack _ _)).trans (sent_noteReplay _))
  split
  · exact Or.inl (sent_sendCredit s)
  split
  · exact Or.inl (sent_ite (((h.trans (sent_nack _ _)).withLink _).trans (sent_noteReplay _)) h)
  split
  · exact Or.inl ((((Sent.refl s).incReg _).trans (sent_nack _ _)).raise _ _ _ _ _)
  · exact Or.inr rfl

end Sys2Proof.Laws
end

section
/-! PROOFS. Sessions: an AUTH opens only the session whose proof it carries (R407, R409). Everything else that a request meets
on its way leaves the sessions as they are, or ends some. -/
namespace Sys2Proof

open Sys2Proof.Machine Sys2Proof.Laws

variable {s u : State}

/-! ### What opens no session -/

/-- Between two states no session has come or opened, and no secret has changed. -/
structure NoneOpens (s s' : State) : Prop where
  sessions : ∀ y ∈ s'.aqlet.sessions, ∃ x ∈ s.aqlet.sessions, who x = who y
  secrets : s'.flash.secrets = s.flash.secrets

namespace NoneOpens

theorem refl (s : State) : NoneOpens s s := ⟨fun y h => ⟨y, h, rfl⟩, rfl⟩

theorem trans {a b c : State} (x : NoneOpens a b) (y : NoneOpens b c) : NoneOpens a c := by
  refine ⟨fun z hz => ?_, y.secrets.trans x.secrets⟩
  obtain ⟨w, hw, e⟩ := y.sessions z hz
  obtain ⟨v, hv, f⟩ := x.sessions w hw
  exact ⟨v, hv, f.trans e⟩

theorem ite {a b : State} {c : Prop} [Decidable c] (x : NoneOpens s a) (y : NoneOpens s b) :
    NoneOpens s (if c then a else b) := by
  split
  · exact x
  · exact y

/-- The sessions and the secrets alone matter. -/
theorem of_same (sessions : u.aqlet.sessions = s.aqlet.sessions) (secrets : u.flash.secrets = s.flash.secrets) : NoneOpens s u :=
  ⟨fun y h => ⟨y, sessions ▸ h, rfl⟩, secrets⟩

/-- Sending opens no session. -/
theorem of_sent (h : Sent s u) : NoneOpens s u := by
  obtain ⟨regs, mem, events, aqlet, link, net, time, out, rfl, same⟩ := h
  refine ⟨fun y mem => ?_, rfl⟩
  have listed : who y ∈ s.aqlet.sessions.map who := same ▸ List.mem_map_of_mem mem
  exact List.mem_map.1 listed

/-- Raising an event opens no session. -/
theorem of_raised (h : Raised s u) : NoneOpens s u := of_sent (sent_raised h)

/-- A change of sessions that leaves alone who they are and whether they are open. -/
theorem mapSession (s : State) (id : Nat) {f : Session → Session} (h : ∀ x, who (f x) = who x) : NoneOpens s (s.mapSession id f) := by
  refine ⟨fun y mem => ?_, rfl⟩
  obtain ⟨x, hx, rfl⟩ := List.mem_map.1 mem
  refine ⟨x, hx, ?_⟩
  split
  · exact (h x).symm
  · rfl

/-- A list of steps each of which opens no session. -/
theorem foldl {α : Type} {f : State → α → State} (step : ∀ u a, NoneOpens u (f u a)) (l : List α) (s : State) :
    NoneOpens s (l.foldl f s) := by
  induction l generalizing s with
  | nil => exact refl s
  | cons a l ih => exact (step s a).trans (ih _)

end NoneOpens

/-! ### What ends before a request is served -/

/-- Discarding an assembly opens no session. -/
theorem dropAssembly_noneOpens (s : State) (id : Nat) : NoneOpens s (s.dropAssembly id) := by
  unfold State.dropAssembly
  split
  · exact NoneOpens.refl s
  · extract_lets dropped other emptied
    have h : NoneOpens s dropped := NoneOpens.mapSession s id fun _ => rfl
    split
    · exact NoneOpens.ite (h.trans (NoneOpens.of_same rfl rfl)) h
    · exact h

/-- Closing a session opens none. -/
theorem closeSession_noneOpens (s : State) (x : Session) (why : Nat) : NoneOpens s (s.closeSession x why) := by
  unfold State.closeSession
  extract_lets dropped whole left counted
  have filtered : NoneOpens dropped left := ⟨fun y h => ⟨y, List.mem_of_mem_filter h, rfl⟩, rfl⟩
  have h : NoneOpens s counted :=
    ((dropAssembly_noneOpens s x.id).trans filtered).trans (NoneOpens.of_raised (raised_setReg _ _ _))
  exact NoneOpens.ite (h.trans (NoneOpens.of_raised (raised_audit _ _))) h

/-- What has run out by the time of a request ends sessions and transfers and opens none. -/
theorem lapse_noneOpens (s : State) : NoneOpens s s.lapse := by
  unfold State.lapse
  extract_lets whole unlocked ended
  have h1 : NoneOpens s unlocked := NoneOpens.of_same rfl rfl
  have h2 : NoneOpens s ended := h1.trans (NoneOpens.foldl (fun u x =>
    NoneOpens.ite (closeSession_noneOpens u x 0) (NoneOpens.ite (closeSession_noneOpens u x 2) (NoneOpens.refl u))) _ _)
  refine h2.trans (NoneOpens.foldl (fun u x => ?_) _ _)
  have snapshot : NoneOpens u (u.lapseSnapshot x.id) := NoneOpens.mapSession u x.id fun _ => rfl
  refine snapshot.trans ?_
  unfold State.lapseAssembly
  split
  · exact NoneOpens.ite (dropAssembly_noneOpens _ _) (NoneOpens.refl _)
  · exact NoneOpens.refl _

/-- A request that waits for the supervisor opens no session. -/
theorem enqueue_noneOpens (s : State) (image : ImageCheck) (rq : Request) : NoneOpens s (s.enqueue image rq) := by
  unfold State.enqueue
  extract_lets fits put
  have h : NoneOpens s put := NoneOpens.of_raised (raised_ringPut _ _ _)
  exact NoneOpens.ite (h.trans (NoneOpens.of_same rfl rfl)) h

/-- A request that meets a restarting supervisor opens no session. -/
theorem await_noneOpens (s : State) (image : ImageCheck) (rq : Request) : NoneOpens s (s.await image rq) := by
  unfold State.await
  extract_lets r
  split
  · exact enqueue_noneOpens s image rq
  · exact NoneOpens.ite (enqueue_noneOpens s image rq) (NoneOpens.ite (NoneOpens.refl s)
      (NoneOpens.ite (NoneOpens.of_sent (sent_discard _ _ _ _)) (NoneOpens.ite (NoneOpens.of_sent (sent_discard _ _ _ _))
        (enqueue_noneOpens s image rq))))

/-- A failed AUTH opens no session (R410). -/
theorem authFailed_noneOpens (s : State) (rq : Request) (r : Req) (x : Session) : NoneOpens s (s.authFailed rq r x) := by
  unfold State.authFailed
  extract_lets whole audited answered told same recent all aqlet locked
  have h : NoneOpens s told := NoneOpens.of_sent
    (((((Sent.refl s).incReg _).incReg _).trans (sent_raised (raised_audit _ _))).trans (sent_response _ _ _ _ _ _) |>.trans
      (sent_raised (raised_raiseLimited _ _ _ _ _ _ _ _)))
  have lock : NoneOpens told locked := NoneOpens.of_same rfl rfl
  exact NoneOpens.ite ((h.trans lock).trans (NoneOpens.of_sent
    ((((Sent.refl _).incReg _).raise _ _ _ _ _).trans (sent_raised (raised_audit _ _))))) (h.trans (NoneOpens.of_same rfl rfl))

/-! ### What opens only the session of a right proof -/

/-- Between two states no session has opened but half-open ones of the path and source of q whose proof it carries (R407). -/
def OpensByProof (s : State) (q : Request) (s' : State) : Prop :=
  ∀ id, sessionOpen s id = false → sessionOpen s' id = true →
    ∃ x ∈ s.aqlet.sessions, x.id = id ∧ x.isOpen = false ∧ x.path = q.path ∧ x.src = q.src ∧
      (readFrame q.frame).body = hmac (s.secret x.role) (proofMessage 0x48 x)

/-- An identifier is that of an open session. -/
theorem sessionOpen_iff {id : Nat} : sessionOpen s id = true ↔ ∃ x ∈ s.aqlet.sessions, x.id = id ∧ x.isOpen = true := by
  simp [sessionOpen]

/-- Where none opens, an open session was open before. -/
theorem NoneOpens.was_open {id : Nat} (h : NoneOpens s u) (opens : sessionOpen u id = true) : sessionOpen s id = true := by
  obtain ⟨y, mem, same, isOpen⟩ := sessionOpen_iff.1 opens
  obtain ⟨x, hx, e⟩ := h.sessions y mem
  simp only [who, Prod.mk.injEq] at e
  obtain ⟨ids, opens, _⟩ := e
  exact sessionOpen_iff.2 ⟨x, hx, ids.trans same, opens.trans isOpen⟩

namespace OpensByProof

variable {q : Request}

theorem of_none (h : NoneOpens s u) : OpensByProof s q u := by
  intro id closed opens
  rw [h.was_open opens] at closed
  cases closed

theorem then_none {v : State} (x : OpensByProof s q u) (h : NoneOpens u v) : OpensByProof s q v :=
  fun id closed opens => x id closed (h.was_open opens)

theorem after_none {v : State} (h : NoneOpens s u) (x : OpensByProof u q v) : OpensByProof s q v := by
  intro id closed opens
  have closed' : sessionOpen u id = false := by
    rw [← Bool.not_eq_true]
    intro o
    rw [h.was_open o] at closed
    cases closed
  obtain ⟨y, mem, same, half, path, src, proof⟩ := x id closed' opens
  obtain ⟨z, hz, e⟩ := h.sessions y mem
  simp only [who, Prod.mk.injEq] at e
  obtain ⟨ids, opens, roles, paths, srcs, hosts, chips⟩ := e
  refine ⟨z, hz, ids.trans same, opens.trans half, paths.trans path, srcs.trans src, ?_⟩
  unfold State.secret proofMessage
  rw [proof, ids, roles, hosts, chips, ← h.secrets]
  rfl

end OpensByProof

/-- An AUTH opens only the session whose proof it carries. -/
theorem serveAuth_opensByProof (s : State) (q : Request) : OpensByProof s q (s.serveAuth q (readFrame q.frame)) := by
  have sent {v : State} (h : Sent s v) : OpensByProof s q v := OpensByProof.of_none (NoneOpens.of_sent h)
  unfold State.serveAuth
  split
  · exact sent (sent_discard _ _ _ _)
  · next x found =>
    obtain ⟨same, mem⟩ := And.intro (List.find?_some found) (List.mem_of_find?_eq_some found)
    simp only [Bool.and_eq_true, beq_iff_eq] at same
    obtain ⟨⟨ids, path⟩, src⟩ := same
    split
    · exact sent (sent_discard _ _ _ _)
    split
    · split
      · split
        · exact sent (((Sent.refl s).incReg _).trans (sent_response _ _ _ _ _ _))
        · exact sent (sent_discard _ _ _ _)
      · exact sent (sent_discard _ _ _ _)
    split
    · exact sent (sent_discard _ _ _ _)
    next half _ =>
    extract_lets secret body opened audited
    split
    · next proof =>
      refine OpensByProof.then_none (u := opened) ?_ (NoneOpens.of_sent
        ((((Sent.refl opened).setRegN _ _).trans (sent_raised (raised_audit _ _))).trans (sent_response _ _ _ _ _ _)))
      intro id closed opens
      refine ⟨x, mem, ?_, Bool.eq_false_iff.2 half, path, src, proof⟩
      by_contra other
      obtain ⟨y, hy, named, isOpen⟩ := sessionOpen_iff.1 opens
      obtain ⟨z, hz, rfl⟩ := List.mem_map.1 hy
      by_cases this : z.id = x.id
      · simp only [this, beq_self_eq_true, if_true] at named
        exact other (this.symm.trans named)
      · simp only [beq_iff_eq, this, if_false] at named isOpen
        rw [sessionOpen_iff.2 ⟨z, hz, named, isOpen⟩] at closed
        cases closed
    · exact OpensByProof.of_none (authFailed_noneOpens s q _ x)

/-! ### An AUTH on its way to the supervisor -/

/-- A frame that fails check 1, or an AUTH. -/
theorem asksFor_auth {q : Request} (h : asksFor (fun r => r.op == 0x11) q = true) :
    (readFrame q.frame).check1 q ≠ 0 ∨ (readFrame q.frame).op = 0x11 := by
  simpa [asksFor] using h

/-- The supervisor serves an AUTH. -/
theorem serve_opensByProof (s : State) (image : ImageCheck) (timeout : Bool) {q : Request}
    (auth : asksFor (fun r => r.op == 0x11) q = true) : OpensByProof s q (s.serve image timeout q) := by
  unfold State.serve
  extract_lets lapsed r c stamped
  have h : NoneOpens s lapsed := lapse_noneOpens s
  split
  · exact OpensByProof.of_none (h.trans (NoneOpens.of_sent (sent_discard _ _ _ _)))
  next passes =>
  have op : r.op = 0x11 := (asksFor_auth auth).resolve_left (fun fails => passes fails)
  rw [if_neg (by rw [op]; decide), if_pos op]
  exact OpensByProof.after_none (h.trans (NoneOpens.of_sent (sent_stampRequest _ _ _))) (serveAuth_opensByProof _ q)

/-- An AUTH arrives: it is served, or it waits for the supervisor. -/
theorem arrive_opensByProof (s : State) (image : ImageCheck) (timeout : Bool) {q : Request}
    (auth : asksFor (fun r => r.op == 0x11) q = true) : OpensByProof s q (s.arrive image timeout q) := by
  unfold State.arrive State.serveNow
  split
  · split
    · exact serve_opensByProof s image timeout auth
    split
    · exact OpensByProof.after_none
        (NoneOpens.of_raised ((raised_ringPut s 13 _).trans (raised_ringTake _ 13))) (serve_opensByProof _ image timeout auth)
    · exact OpensByProof.of_none (NoneOpens.of_raised (raised_ringPut s 13 _))
  · exact OpensByProof.of_none (await_noneOpens s image q)

/-- Taking a packet's credit and number only sends. -/
theorem sent_inOrder (s : State) (p : Packet) : Sent s (inOrder s p) := by
  unfold inOrder State.hostSpends State.advanceSeq
  exact (sent_link s _).trans (sent_link _ _)

/-- An AUTH comes over the raster link: the packet that the lanes carry is the AUTH that is heard. -/
theorem hearPacket_opensByProof (s : State) (image : ImageCheck) (timeout : Bool) {rq : Request} (path : rq.path = .raster) :
    OpensByProof s (heard s rq)
      (State.hearPacket (fun p => packetType p == 3 && asksFor (fun r => r.op == 0x11) { rq with frame := p.payload, src := 0 })
        (fun p s => (s.arrive image timeout { rq with frame := p.payload, src := 0 }).freeCredit true (packetCost (packetLen p)))
        rq.lanes s) := by
  have hears : NoneOpens s (s.hear rq.lanes) := NoneOpens.of_sent (sent_hear s rq.lanes)
  unfold State.hearPacket
  cases packet : s.packetIn rq.lanes with
  | none => exact OpensByProof.of_none hears
  | some p =>
    have q : heard s rq = { rq with frame := p.payload, src := 0 } := by simp only [heard, path, packet]
    rw [q]
    refine OpensByProof.after_none hears ?_
    dsimp only
    unfold State.receive
    split
    · next kind =>
      simp only [Bool.and_eq_true, beq_iff_eq] at kind
      obtain ⟨type, auth⟩ := kind
      rcases onPacket_sent_or_deliver _ _ p (s.hear rq.lanes) (by rw [type]; decide) with sent | delivered
      · exact OpensByProof.of_none (NoneOpens.of_sent sent)
      · rw [delivered]
        have taken : Sent (s.hear rq.lanes) (inOrder (s.hear rq.lanes) p) := sent_inOrder _ p
        exact ((OpensByProof.after_none (NoneOpens.of_sent taken) (arrive_opensByProof _ image timeout auth)).then_none
          (NoneOpens.of_sent (sent_freeCredit _ _ _))).then_none (NoneOpens.of_sent (sent_sendCredit _))
    · exact OpensByProof.of_none (NoneOpens.refl _)

/-- A request over the network. -/
theorem byPath_network {rq : Request} (path : rq.path = .network) (wants : Request → Bool) (f : Request → State → State)
    (s : State) : State.byPath rq wants f s = if s.netOn = true ∧ wants rq = true then f rq s else s := by
  cases rq
  cases path
  rfl

/-- A request over the raster link. -/
theorem byPath_raster {rq : Request} (path : rq.path = .raster) (wants : Request → Bool) (f : Request → State → State)
    (s : State) : State.byPath rq wants f s =
      if s.mode = 7 ∧ s.power.holding ≠ .afterFault then s
      else
        State.hearPacket (fun p => packetType p == 3 && wants { rq with frame := p.payload, src := 0 })
          (fun p s => (f { rq with frame := p.payload, src := 0 } s).freeCredit true (packetCost (packetLen p))) rq.lanes s := by
  cases rq
  cases path
  rfl

/-- An AUTH comes by its path. -/
theorem byPath_opensByProof (s : State) (rq : Request) :
    OpensByProof s (heard s rq)
      (State.byPath rq (asksFor fun r => r.op == 0x11) (fun q u => u.arrive ImageCheck.none false q) s) := by
  have paths : rq.path = .network ∨ rq.path = .raster := by cases rq.path <;> simp
  rcases paths with path | path
  · have q : heard s rq = rq := by simp only [heard, path]
    rw [q, byPath_network path]
    split
    · next comes => exact arrive_opensByProof s _ _ comes.2
    · exact OpensByProof.of_none (NoneOpens.refl s)
  · rw [byPath_raster path]
    split
    · exact OpensByProof.of_none (NoneOpens.refl s)
    · exact hearPacket_opensByProof s _ _ path

/-- Settles O60: in reset nothing opens; otherwise the AUTH comes by its path at the command's time. -/
theorem onlyTheRightProofOpensASession : Obligations.OnlyTheRightProofOpensASession := by
  intro s s' t rq id runs closed opens
  have next : (if s.sys.inReset then Host.Outcome.next s else .next ((State.byPath rq (asksFor fun r => r.op == 0x11)
      (fun q u => u.arrive ImageCheck.none false q) (s.tick t)).sealed s t)) = (.next s' : Host.Outcome State Fault Refusal) := runs
  split at next
  · cases next
    rw [closed] at opens
    cases opens
  · cases next
    exact byPath_opensByProof (s.tick t) rq id closed opens

end Sys2Proof
end

section
/-! PROOFS. Requests that a session refuses: a wrong TAG (R408, R413), and class Q outside CAPPED, READY and SERVICE (R440). -/
namespace Sys2Proof

open Sys2Proof.Machine Sys2Proof.Laws

/-! ### A wrong TAG -/

section WrongTag

variable {s : State} {t : Nat} {rq : Request} {x : Session} {image : ImageCheck}

/-- A request of an open session whose TAG is wrong is discarded (R408). -/
theorem serve_wrongTag (reaches : Reaches s t rq) (keyed : (readFrame (heard (s.tick t) rq).frame).op ≠ 0x10 ∧
      (readFrame (heard (s.tick t) rq).frame).op ≠ 0x11)
    (found : (looking s t rq).sessionFor (readFrame (heard (s.tick t) rq).frame).session (heard (s.tick t) rq) = some x)
    (isOpen : x.isOpen = true) (wrong : (readFrame (heard (s.tick t) rq).frame).tag ≠
      tagOf x.key (readFrame (heard (s.tick t) rq).frame).signed) :
    (if (onPath (s.tick t) rq).loaderOnly then onPath (s.tick t) rq
        else ((onPath (s.tick t) rq).ringPut 13 (frameWords (heard (s.tick t) rq).frame)).ringTake 13).serve image false
          (heard (s.tick t) rq) =
      (looking s t rq).discard (heard (s.tick t) rq) (readFrame (heard (s.tick t) rq).frame) 0x01000F03 := by
  obtain ⟨_, _, _, check1⟩ := reaches
  unfold looking atServer at found
  unfold State.serve
  simp only []
  rw [if_neg (not_not_intro check1), if_neg keyed.1, if_neg keyed.2]
  simp only [found]
  rw [if_neg (by simp [isOpen]), if_pos wrong]
  rfl

end WrongTag

/-- Settles O58: every operation but OPEN and AUTH looks at the TAG of its session first. -/
theorem wrongTagIsDiscarded : Obligations.WrongTagIsDiscarded := by
  intro s t rq x reaches q r u found isOpen wrong discarded
  have served {ops : Req → Bool} (op : r.op ≠ 0x10 ∧ r.op ≠ 0x11) (o : ops r = true) : s.request ops t rq = discarded := by
    rw [request_reaches reaches o, serve_wrongTag reaches op found isOpen wrong]
    rfl
  refine ⟨fun op => served (by omega) (beq_iff_eq.2 op), fun op => served (by omega) (beq_iff_eq.2 op),
    fun op => served (by omega) (beq_iff_eq.2 op), fun op key => served (by omega) ?_, fun image op key => ?_,
    fun op => served (by omega) (beq_iff_eq.2 op), fun op => served (by omega) (beq_iff_eq.2 op),
    fun op => served (by omega) (beq_iff_eq.2 op), fun op => served (by omega) (beq_iff_eq.2 op),
    fun op => served (by omega) (beq_iff_eq.2 op)⟩
  · simp only [Bool.and_eq_true, beq_iff_eq, bne_iff_ne]
    exact ⟨op, key⟩
  · have wants : ((readFrame (heard (s.tick t) rq).frame).check1 (heard (s.tick t) rq) == 0 &&
        (readFrame (heard (s.tick t) rq).frame).op == 4 && (readFrame (heard (s.tick t) rq).frame).key == o7E01.IMAGE) = true := by
      simp only [Bool.and_eq_true, beq_iff_eq]
      exact ⟨⟨reaches.2.2.2, op⟩, key⟩
    show execImageTransfer t rq image s = discarded
    rw [execImageTransfer, run_awake reaches.1, byPath_comes reaches.2.1 wants, arrive_reaches reaches,
      serve_wrongTag reaches (show r.op ≠ 0x10 ∧ r.op ≠ 0x11 by omega) found isOpen wrong]
    rfl

/-! ### Class Q -/

section ClassQ

variable {s : State} {k code : Nat} {o : Octets} {path : Path} {role : Nat}

/-- The subindices of 2102h, the secrets, are not of class Q. -/
theorem secret_not_q : ∀ j < 256, applyOf (0x2102 * 256 + j) ≠ .q := by decide +kernel

/-- A subindex of class Q is no secret. -/
theorem ne_secret_of_q (classQ : applyOf k = .q) : k / 256 ≠ 0x2102 := by
  intro secret
  have spelled : k = 0x2102 * 256 + k % 256 := by omega
  exact secret_not_q (k % 256) (Nat.mod_lt _ (by decide)) (spelled ▸ classQ)

/-- `REQUEST` and the `COMMAND` of the axes, which show why they refuse, are not of class Q. -/
theorem showing_not_q : applyOf o2000.REQUEST ≠ .q ∧ ∀ n < 4, applyOf (o6000.COMMAND + 256 * n) ≠ .q := by decide +kernel

/-- No object shows the refusal of a write of class Q. -/
theorem showRefusal_q (classQ : applyOf k = .q) : s.showRefusal k o code = s := by
  have notRequest : k ≠ o2000.REQUEST := fun e => showing_not_q.1 (e ▸ classQ)
  have notCommand : ¬ofAxis k o6000.COMMAND = true := by
    intro command
    obtain ⟨n, lt, rfl⟩ : ∃ n < 4, k = o6000.COMMAND + 256 * n := by
      simp only [ofAxis, Bool.and_eq_true, decide_eq_true_eq, beq_iff_eq] at command
      exact ⟨(k - o6000.COMMAND) / 256, by omega, by omega⟩
    exact showing_not_q.2 n lt classQ
  unfold State.showRefusal
  rw [if_neg notRequest, if_neg (fun h => notCommand h.1)]

/-- But for the secrets, a refusal for the present mode is of class 05h. -/
theorem modeCode_class (notSecret : k / 256 ≠ 0x2102) : s.modeCode k o path = 0 ∨ abortClass (s.modeCode k o path) = 5 := by
  unfold State.modeCode
  dsimp only
  rw [if_neg (fun h => notSecret h.1)]
  split_ifs <;> decide

/-- Check 5 refuses a WRITE of class Q outside CAPPED, READY and SERVICE with class 05h, but what a recovery loader takes. -/
theorem check5_q (classQ : applyOf k = .q) (busy : s.quiet = false)
    (loader : s.loaderOnly = true → s.loaderAllows 2 k role path = false) : abortClass (s.check5 2 k o role path) = 5 := by
  unfold State.check5
  split
  · next only =>
    rw [loader only, if_neg (by decide)]
    split_ifs <;> rfl
  · rw [if_pos (Or.inl rfl)]
    dsimp only
    rcases modeCode_class (s := s) (o := o) (path := path) (ne_secret_of_q classQ) with passes | refuses
    · rw [if_neg (not_not_intro passes), if_pos ⟨classQ, busy⟩]
      rfl
    · have nonzero : s.modeCode k o path ≠ 0 := by
        intro zero
        rw [zero] at refuses
        exact absurd refuses (by decide)
      rw [if_pos nonzero]
      exact refuses

end ClassQ

/-- Settles O56: in a quiet mode class Q takes effect as class I does; otherwise check 5 refuses it. -/
theorem classQNeedsAQuietMode : Obligations.ClassQNeedsAQuietMode := by
  intro s t rq x admitted q r u write classQ
  have serves : exec (.write t rq) s = outcome s t rq (served u ImageCheck.none false q x) :=
    request_admitted admitted (beq_iff_eq.2 write)
  refine ⟨fun _ granted => ?_, fun busy allowed loader => ?_⟩
  · rw [serves, served_granted_write (k := r.key) granted rfl (by rw [classQ]; decide) (by rw [classQ]; decide)]
  · have known : check3 r.key = 0 := check3_of_applyOf (by rw [classQ]; decide)
    have class5 := check5_q (o := valueOctetsOf q) (role := x.role) (path := x.path) classQ busy loader
    have nonzero : u.check5 2 r.key (valueOctetsOf q) x.role x.path ≠ 0 := by
      intro zero
      rw [zero] at class5
      exact absurd class5 (by decide)
    refine ⟨_, class5, ?_⟩
    rw [serves, served_write_refused write (firstCode_third known allowed) nonzero, showRefusal_q classQ,
      refuse_audited (by rw [class5]; decide)]

end Sys2Proof
end

section
/-! PROOFS. Chapter 01: islands, firmware pairs, heartbeats and the pace meters. -/
namespace Sys2Proof

open Sys2Proof.Machine Sys2Proof.Laws

/-! ### A command whose effect is known -/

section Effect

variable {s u : State} {t : Nat} {f : State → State}

/-- A command of a running chip answers its effect. -/
theorem run_effect (awake : Awake s) (effect : f (s.tick t) = u) : s.run t f = .next (u.sealed s t) := by
  rw [run_awake awake, effect]

/-- A command of a chip outside SAFE-HOLD answers its effect. -/
theorem runOn_effect (alive : Alive s) (effect : f (s.tick t) = u) : s.runOn t f = .next (u.sealed s t) := by
  rw [runOn_alive alive, effect]

/-- A command of an answering link answers its effect. -/
theorem runLink_effect (linked : Linked s) (effect : f (s.tick t) = u) : s.runLink t f = .next (u.sealed s t) := by
  rw [runLink_linked linked, effect]

end Effect

/-! ### Islands -/

section Islands

variable {s : State} {n : Nat}

/-- Stopping an island changes no register. -/
theorem stopIsland_mode : (s.stopIsland n).mode = s.mode := by
  unfold State.stopIsland
  split <;> rfl

/-- Outside SAFE-HOLD a lost clock fails the block behind its island. -/
theorem clockGone_alive (m : s.mode ≠ 7) : s.clockGone n = s.islandFails 4 n := if_neg fun h => m h.1

end Islands

/-- Settles O1. -/
theorem islandAndRegionFaultsTakeEffect : Obligations.IslandAndRegionFaultsTakeEffect := by
  intro s t alive
  have ⟨awake, mode⟩ := alive
  have running (n : Nat) : ((s.tick t).stopIsland n).mode ≠ 7 := by rw [stopIsland_mode]; exact mode
  refine ⟨?stall, ?stallNetwork, ?pll, ?refclk0, ?refclk1, ?camera, ?cameraIdle, ?tsclk, ?fclk, ?far, ?near, ?polder, ?region, ?root⟩
  case stall =>
    intro island other
    show execCrossingStall t island s = _
    exact runOn_effect alive (by rw [if_neg other])
  case stallNetwork =>
    show execCrossingStall t 9 s = _
    exact runOn_effect alive rfl
  case pll =>
    intro n
    show execIslandClockLost t (.pll n) s = _
    exact run_effect awake (clockGone_alive (running n))
  case refclk0 =>
    show execIslandClockLost t (.refclk 0) s = _
    exact run_effect awake (clockGone_alive mode)
  case refclk1 =>
    show execIslandClockLost t (.refclk 1) s = _
    exact run_effect awake (clockGone_alive mode)
  case camera =>
    intro port lt bound
    have isBound : ¬((s.tick t).portPipeline port).isNone = true := by
      rw [Option.isNone_iff_eq_none]
      exact Option.isSome_iff_ne_none.1 bound
    show execIslandClockLost t (.camera port true) s = _
    refine run_effect awake ?_
    simp only [Nat.mod_eq_of_lt lt]
    exact if_neg fun h => h.elim mode fun h => h.elim (by decide) isBound
  case cameraIdle =>
    intro port high lt idle
    show execIslandClockLost t (.camera port high) s = _
    refine run_effect awake ?_
    simp only [Nat.mod_eq_of_lt lt]
    refine if_pos (Or.inr ?_)
    rcases idle with unbound | slow
    · exact Or.inr (Option.isNone_iff_eq_none.2 unbound)
    · exact Or.inl slow
  case tsclk =>
    show execIslandClockLost t .tsclk s = _
    exact run_effect awake (clockGone_alive (running 10))
  case fclk =>
    show execIslandClockLost t .fclk s = _
    exact run_effect awake rfl
  case far =>
    intro ppm far
    show execClockRatioCheck t ppm s = _
    exact runOn_effect alive (if_pos far)
  case near =>
    intro ppm near
    show execClockRatioCheck t ppm s = _
    exact runOn_effect alive (if_neg (Nat.not_lt.2 near))
  case polder =>
    intro region polder
    show execHeartbeatMissing t region s = _
    exact runOn_effect alive (if_pos polder)
  case region =>
    intro region other
    show execHeartbeatMissing t region s = _
    exact runOn_effect alive (if_neg (Nat.not_le.2 other))
  case root =>
    show execRootWatchMismatch t s = _
    exact runOn_effect alive rfl

/-! ### Firmware pairs and escalations -/

/-- An escalation that no region of its own takes goes one level on. -/
theorem escalateTo_next (s : State) (level region : Nat) : State.escalateTo 1 level (level + 1) region s =
    s.raise 2 (level * 4096 + (level + 1) * 256 + region) (level + 1) region := if_pos (Nat.lt_succ_self level)

/-- Settles O2. -/
theorem firmwarePairsAndEscalationsTakeEffect : Obligations.FirmwarePairsAndEscalationsTakeEffect := by
  intro s t alive
  refine ⟨?mismatch, ?restarted, ?supervisor, ?first, ?root, ?higher, ?codec, ?access⟩
  case mismatch =>
    intro p _
    show execFwPairMismatch t p s = _
    exact runOn_effect alive rfl
  case restarted =>
    intro p _ other
    show execFwPairRestartDone t p s = _
    exact runOn_effect alive (if_neg fun h => other h.1)
  case supervisor =>
    intro restarting
    show execFwPairRestartDone t .supervisor s = _
    exact runOn_effect alive (if_pos ⟨rfl, restarting⟩)
  case first =>
    intro region lt
    show execBreachEscalated t region 0 s = _
    refine runOn_effect alive ?_
    rw [if_neg (by omega), if_neg (by omega), if_neg (by decide), escalateTo_next]
  case root =>
    intro region root level low high
    show execBreachEscalated t region level s = _
    refine runOn_effect alive ?_
    rw [if_neg (by omega), if_pos ⟨low, root⟩]
  case higher =>
    intro region lt notVision notNetwork
    constructor
    · show execBreachEscalated t region 1 s = _
      refine runOn_effect alive ?_
      rw [if_neg (by omega), if_neg (by omega), if_neg (by decide), escalateTo_next]
    · show execBreachEscalated t region 2 s = _
      refine runOn_effect alive ?_
      rw [if_neg (by omega), if_neg (by omega), if_pos rfl, escalateTo_next]
  case codec =>
    show execCodecEngineRestart t s = _
    exact runOn_effect alive rfl
  case access =>
    show execTestAccessReset t s = _
    exact run_effect alive.1 rfl

/-! ### The pace meters -/

/-- Settles O3: with no region below 1,000 nothing is raised, and below 1,024 the flag stands. -/
theorem paceMeterWindowTakesEffect : Obligations.PaceMeterWindowTakesEffect := by
  intro s t figures alive complete shown low kept
  have window : exec (.paceMeterWindow t figures) s = .next ((if 1024 ≤ (lowest figures).1 then
      ((low.filter fun r => !shown.sys.paceLow.contains r).foldl (fun u r => u.raise 6 r 0 r) kept).setRegBit o2801.FLAGS 6 false
      else (low.filter fun r => !shown.sys.paceLow.contains r).foldl (fun u r => u.raise 6 r 0 r) kept).sealed s t) := by
    show execPaceMeterWindow t figures s = _
    exact runOn_effect alive (if_neg (not_not_intro complete))
  have same : shown.sys = s.sys := by
    have setPace (l : List (Nat × Nat)) : ∀ u : State,
        (l.foldl (fun u x => u.setRegN (o7C10.PACE + x.2) (x.1 % 65536)) u).sys = u.sys := by
      induction l with
      | nil => intro u; rfl
      | cons a l ih => intro u; exact ih _
    exact setPace _ (s.tick t)
  refine ⟨fun fallen eq below => ?_, fun none high => ?_⟩
  · rw [window, if_neg (Nat.not_le.2 below), eq, same]
  · rw [window, if_pos high, none]
    rfl

end Sys2Proof
end

section
/-! PROOFS. Chapter 02: position channels and their cross-check. -/
namespace Sys2Proof

open Sys2Proof.Machine Sys2Proof.Laws

/-! ### Levels that a channel takes over -/

section Levels

variable {s : State} {ch : Nat} {x : Levels}

/-- What a channel holds changes no register. -/
theorem setChannel_regs (c : Channel) : (s.setChannel ch c).regs = s.regs := by
  unfold State.setChannel
  split_ifs <;> rfl

/-- What a channel holds changes no time. -/
theorem setChannel_now (c : Channel) : (s.setChannel ch c).now = s.now := by
  unfold State.setChannel
  split_ifs <;> rfl

/-- What a channel holds changes no number that a subindex reads. -/
theorem setChannel_regN (c : Channel) (k : Nat) : (s.setChannel ch c).regN k = s.regN k := by
  unfold State.regN State.reg
  rw [setChannel_regs]

/-- What a channel holds changes no count. -/
theorem setChannel_countOf (c : Channel) (lt : ch < 2) : (s.setChannel ch c).countOf ch = s.countOf ch := by
  unfold State.countOf
  rw [if_neg (by omega), if_neg (by omega), setChannel_regN]

/-- The channel's levels once new ones have been taken over. -/
def levelsTaken (s : State) (ch : Nat) (x : Levels) : State := s.setChannel ch { s.channel ch with a := x.a, b := x.b }

/-- Levels that have not held long enough do nothing (R39). -/
theorem acceptLevels_short (short : x.held < s.regN (o6400.FILTER_NS + 256 * ch)) : State.acceptLevels ch x s = s :=
  if_pos (Or.inr (Or.inr short))

section Held

variable (lt : ch < 2) (island : s.islandLost 11 = false) (held : s.regN (o6400.FILTER_NS + 256 * ch) ≤ x.held)

include lt island held

/-- Levels that have held long enough are taken over. -/
theorem acceptLevels_held : State.acceptLevels ch x s =
    match edgeOf (s.regN (o6400.FORMAT + 256 * ch)) (s.channel ch).a (s.channel ch).b x.a x.b with
    | some down => (levelsTaken s ch x).oneCount ch down
    | none =>
      if s.regN (o6400.FORMAT + 256 * ch) = 0 ∧ (s.channel ch).a ≠ x.a ∧ (s.channel ch).b ≠ x.b then
        (levelsTaken s ch x).quadError ch
      else levelsTaken s ch x := by
  unfold State.acceptLevels
  have takes : ¬(2 ≤ ch ∨ s.islandLost 11 = true ∨ x.held < s.regN (o6400.FILTER_NS + 256 * ch)) := by
    rw [island]
    rintro (beyond | lost | short)
    · omega
    · cases lost
    · omega
  rw [if_neg takes]
  rfl

/-- An edge of Table 02-1 counts. -/
theorem acceptLevels_edge {down : Bool}
    (edge : edgeOf (s.regN (o6400.FORMAT + 256 * ch)) (s.channel ch).a (s.channel ch).b x.a x.b = some down) :
    State.acceptLevels ch x s = (levelsTaken s ch x).oneCount ch down := by
  rw [acceptLevels_held lt island held, edge]

/-- Levels without an edge and without an error count nothing. -/
theorem acceptLevels_noEdge
    (noEdge : edgeOf (s.regN (o6400.FORMAT + 256 * ch)) (s.channel ch).a (s.channel ch).b x.a x.b = none)
    (noError : ¬(s.regN (o6400.FORMAT + 256 * ch) = 0 ∧ (s.channel ch).a ≠ x.a ∧ (s.channel ch).b ≠ x.b)) :
    State.acceptLevels ch x s = levelsTaken s ch x := by
  rw [acceptLevels_held lt island held, noEdge]
  exact if_neg noError

/-- Both levels at once are a quadrature error. -/
theorem acceptLevels_both (format : s.regN (o6400.FORMAT + 256 * ch) = 0) (a : (s.channel ch).a ≠ x.a)
    (b : (s.channel ch).b ≠ x.b) : State.acceptLevels ch x s = (levelsTaken s ch x).quadError ch := by
  have noEdge : edgeOf (s.regN (o6400.FORMAT + 256 * ch)) (s.channel ch).a (s.channel ch).b x.a x.b = none := by
    rw [format]
    simp [edgeOf, a, b]
  rw [acceptLevels_held lt island held, noEdge]
  exact if_pos ⟨format, a, b⟩

end Held

/-- Outside SAFE-HOLD an edge counts and moves what follows the channel. -/
theorem oneCount_alive {down : Bool} (mode : s.mode ≠ 7) :
    s.oneCount ch down = s.countEdge ch (down != (s.regN (o6400.INVERT + 256 * ch) == 1)) s.now := if_neg mode

/-- In SAFE-HOLD an edge counts and does no more. -/
theorem oneCount_safeHold {down : Bool} (mode : s.mode = 7) : s.oneCount ch down =
    s.setCount ch (if down != (s.regN (o6400.INVERT + 256 * ch) == 1) then s.countOf ch + (2 ^ 48 - 1) else s.countOf ch + 1) :=
  if_pos mode

/-- Levels change no mode. -/
theorem levelsTaken_mode : (levelsTaken s ch x).mode = s.mode := setChannel_regN _ _

end Levels

/-! ### Index and standstill -/

section IndexAndStandstill

variable {s : State} {ch : Nat}

/-- An index that is not seen within one and a half nominal distances is missing (R49). -/
theorem indexMissing_missing {l : Latch} (lt : ch < 2) (index : (s.channel ch).index = some l)
    (first : (s.channel ch).missing = false) (nominal : s.regN (o6400.INDEX_NOMINAL + 256 * ch) ≠ 0)
    (far : (3 * s.regN (o6400.INDEX_NOMINAL + 256 * ch) : Int) < 2 * signed 48 (s.countOf ch + (2 ^ 48 - l.count))) :
    State.indexMissing ch s =
      (((((s.setChannel ch { s.channel ch with missing := true }).setStatus ch 4 true).noteIndicator ch).noteBad ch).incReg
        (o6400.INDEX_FAULTS + 256 * ch)).raise 81 ch 0 20 true := by
  simp only [State.indexMissing, index]
  exact if_pos ⟨lt, nominal, first, far⟩

end IndexAndStandstill

/-- Settles O4: each clause names the branch of `State.acceptLevels`, or of its own operation, that it takes. -/
theorem positionEventsTakeEffect : Obligations.PositionEventsTakeEffect := by
  intro s t ch lt c format filter inverted taken
  refine ⟨?edge, ?edgeInSafeHold, ?noEdge, ?short, ?error, ?upDown, ?index, ?indexWithEdge, ?missing, ?standstill⟩
  case edge =>
    intro x down alive island held edge
    show execPositionEdge t ch x s = _
    refine run_effect alive.1 ?_
    have mode : (levelsTaken (s.tick t) ch x).mode ≠ 7 := by rw [levelsTaken_mode]; exact alive.2
    rw [acceptLevels_edge (s := s.tick t) lt island held edge, oneCount_alive mode]
    unfold levelsTaken
    rw [setChannel_regN, setChannel_now]
    rfl
  case edgeInSafeHold =>
    intro x down awake safeHold island held edge
    show execPositionEdge t ch x s = _
    refine run_effect awake ?_
    have mode : (levelsTaken (s.tick t) ch x).mode = 7 := by rw [levelsTaken_mode]; exact safeHold
    rw [acceptLevels_edge (s := s.tick t) lt island held edge, oneCount_safeHold mode]
    unfold levelsTaken
    rw [setChannel_regN, setChannel_countOf _ lt]
    rfl
  case noEdge =>
    intro x awake island held noEdge noError
    show execPositionEdge t ch x s = _
    exact run_effect awake (acceptLevels_noEdge (s := s.tick t) lt island held noEdge noError)
  case short =>
    intro x awake short
    show execPositionEdge t ch x s = _
    exact run_effect awake (acceptLevels_short (s := s.tick t) short)
  case error =>
    intro held awake island long quadrature
    show execEncQuadError t ch held s = _
    exact run_effect awake ((if_neg (not_not_intro quadrature)).trans
      (acceptLevels_both (s := s.tick t) lt island long quadrature (by simp) (by simp)))
  case upDown =>
    intro held awake island long counts a b
    show execUpDownSameSample t ch held s = _
    refine run_effect awake ((if_neg (not_not_intro counts)).trans
      (acceptLevels_noEdge (s := s.tick t) lt island long ?_ fun both => ?_))
    · show edgeOf format c.a c.b true true = none
      rw [show format = 2 from counts, a, b]
      decide
    · exact absurd (both.1.symm.trans counts) (by decide)
  case index =>
    intro held alive long
    constructor
    · intro own
      show execIndexEvent t ch held none s = _
      exact run_effect alive.1 (if_pos ⟨alive.2, lt, long, own⟩)
    · show execWheelEdge t ch held none s = _
      exact run_effect alive.1 (if_pos ⟨alive.2, lt, long⟩)
  case indexWithEdge =>
    intro held x u awake mode long
    constructor
    · intro own
      show execIndexEvent t ch held (some x) s = _
      exact run_effect awake (if_pos ⟨mode, lt, long, own⟩)
    · show execWheelEdge t ch held (some x) s = _
      exact run_effect awake (if_pos ⟨mode, lt, long⟩)
  case missing =>
    intro l alive index first nominal far
    show execIndexMissing t ch s = _
    exact runOn_effect alive (indexMissing_missing (s := s.tick t) lt index first nominal far)
  case standstill =>
    intro alive moving since
    show execWebStandstill t ch s = _
    exact runOn_effect alive (if_pos ⟨lt, moving, since⟩)

/-! ### The cross-check -/

section CrossCheck

variable {s : State} {a c : Nat} (active : s.pacer = some a) (checking : s.pos.checking = some c)

include active checking

/-- Before the active source has gone its window's lines, nothing is judged (R67). -/
theorem windowEnd_early (early : (s.netLines a s.pos.window.active).1.natAbs <
    s.regN o3101.XCHECK_WINDOW * (s.netLines a s.pos.window.active).2) : s.windowEnd = s := by
  simp only [State.windowEnd, active, checking]
  exact if_neg (Nat.not_le.2 early)

/-- The active source runs while the checking one stands still. -/
theorem earlyDisagree_checking (far : 64 * (s.netLines a s.pos.window.active).2 ≤ (s.netLines a s.pos.window.active).1.natAbs)
    (still : s.still c = true) : s.earlyDisagree = s.disagree (some c) := by
  simp only [State.earlyDisagree, active, checking]
  exact if_pos ⟨far, still⟩

/-- The checking source runs while the active one stands still. -/
theorem earlyDisagree_active (far : 64 * (s.netLines c s.pos.window.checking).2 ≤ (s.netLines c s.pos.window.checking).1.natAbs)
    (still : s.still a = true) (moves : s.still c = false) : s.earlyDisagree = s.disagree (some a) := by
  simp only [State.earlyDisagree, active, checking]
  rw [if_neg (by simp [moves]), if_pos ⟨far, still⟩]

end CrossCheck

/-- Settles O5. -/
theorem crossCheckTakesEffect : Obligations.CrossCheckTakesEffect := by
  intro s t a c alive active checking
  refine ⟨fun _ => ?_, fun early => ?_, fun far still => ?_, fun far still moves => ?_⟩
  · show execXcheckWindowEnd t s = _
    exact runOn_effect alive rfl
  · show execXcheckWindowEnd t s = _
    exact runOn_effect alive (windowEnd_early (s := s.tick t) active checking early)
  · show execXcheckEarlyDisagree t s = _
    exact runOn_effect alive (earlyDisagree_checking (s := s.tick t) active checking far still)
  · show execXcheckEarlyDisagree t s = _
    exact runOn_effect alive (earlyDisagree_active (s := s.tick t) active checking far still moves)

end Sys2Proof
end

section
/-! PROOFS. Chapter 03: the packets of the raster link, the LINK blocks, the timers and the ends of training steps. -/
namespace Sys2Proof

open Sys2Proof.Machine Sys2Proof.Laws

/-! ### One packet -/

section OnePacket

variable {u : State} {p : Packet} {handle deliver : Packet → State → State}

/-- A packet with a bad HCRC (R93, R94). -/
theorem onPacket_hcrc (up : u.linkUp = true) (hcrc : hcrcOk p = false) :
    State.onPacket handle deliver p u = ((u.incReg o4002.HCRC_ERRORS).nack 2).noteReplay := by
  simp only [State.onPacket, up, hcrc, Bool.true_eq_false, if_false, if_true]

/-- A packet with a malformed layout. -/
theorem onPacket_malformed (up : u.linkUp = true) (hcrc : hcrcOk p = true) (bad : malformed p = true) :
    State.onPacket handle deliver p u = ((u.incReg o4002.PROTOCOL_ERRORS).nack 5).raise 18 5 0 17 := by
  simp only [State.onPacket, up, hcrc, bad, Bool.true_eq_false, if_false, if_true]

/-- A packet with a bad LCRC. -/
theorem onPacket_lcrc (up : u.linkUp = true) (hcrc : hcrcOk p = true) (wellFormed : malformed p = false)
    (lcrc : lcrcOk p = false) : State.onPacket handle deliver p u = ((u.incReg o4002.LCRC_ERRORS).nack 1).noteReplay := by
  simp only [State.onPacket, up, hcrc, wellFormed, lcrc, Bool.true_eq_false, Bool.false_eq_true, if_false, if_true]

/-- A good unsequenced packet is handled at once. -/
theorem onPacket_unsequenced (good : GoodPacket u p) (seq : sequenced (packetType p) = false) :
    State.onPacket handle deliver p u = handle p u := by
  obtain ⟨up, hcrc, wellFormed, lcrc⟩ := good
  simp only [State.onPacket, up, hcrc, wellFormed, lcrc, seq, Bool.true_eq_false, Bool.false_eq_true, if_false, if_true]

/-- A packet before its turn is acknowledged again. -/
theorem onPacket_again (good : GoodPacket u p) (seq : sequenced (packetType p) = true)
    (before : signed16 (packetSeq p) u.link.expectSeq < 0) : State.onPacket handle deliver p u = u.sendCredit := by
  obtain ⟨up, hcrc, wellFormed, lcrc⟩ := good
  simp only [State.onPacket, up, hcrc, wellFormed, lcrc, seq, Bool.true_eq_false, Bool.false_eq_true, if_false]
  exact if_pos before

/-- The first packet after its turn asks for those that are missing. -/
theorem onPacket_gap (good : GoodPacket u p) (seq : sequenced (packetType p) = true)
    (after : 0 < signed16 (packetSeq p) u.link.expectSeq) (first : u.link.gapNack = none) :
    State.onPacket handle deliver p u =
      (((u.incReg o4002.SEQ_GAPS).nack 3).withLink fun l => { l with gapNack := some (l.expectSeq, u.now) }).noteReplay := by
  obtain ⟨up, hcrc, wellFormed, lcrc⟩ := good
  have unasked : (u.incReg o4002.SEQ_GAPS).link.gapNack = none := first
  simp only [State.onPacket, up, hcrc, wellFormed, lcrc, seq, Bool.true_eq_false, Bool.false_eq_true, if_false, unasked, if_true]
  rw [if_neg (by omega), if_pos after]
  rfl

/-- A packet in its turn that needs more credit than the host has. -/
theorem onPacket_overrun (good : GoodPacket u p) (seq : sequenced (packetType p) = true)
    (turn : signed16 (packetSeq p) u.link.expectSeq = 0) (credit : u.freeUnits (packetType p == 3) < packetCost (packetLen p)) :
    State.onPacket handle deliver p u = ((u.incReg o4002.PROTOCOL_ERRORS).nack 4).raise 18 4 0 17 := by
  obtain ⟨up, hcrc, wellFormed, lcrc⟩ := good
  simp only [State.onPacket, up, hcrc, wellFormed, lcrc, seq, Bool.true_eq_false, Bool.false_eq_true, if_false]
  rw [if_neg (by omega), if_neg (by omega), if_pos credit]

/-- The next packet in order is delivered once its credit and its number are taken (R89, R93). -/
theorem onPacket_next (next : NextInOrder u p) :
    State.onPacket handle deliver p u = (deliver p (inOrder u p)).sendCredit := by
  obtain ⟨⟨up, hcrc, wellFormed, lcrc⟩, seq, turn, credit⟩ := next
  simp only [State.onPacket, up, hcrc, wellFormed, lcrc, seq, Bool.true_eq_false, Bool.false_eq_true, if_false]
  rw [if_neg (by omega), if_neg (by omega), if_neg (by omega)]
  rfl

end OnePacket

section Hearing

variable {s v : State} {x : Reception} {p : Packet} {kind : Packet → Bool} {deliver : Packet → State → State}

/-- A packet of the command's kind passes the receive side. -/
theorem hearPacket_kind (packet : s.packetIn x = some p) (isKind : kind p = true) :
    State.hearPacket kind deliver x s = State.onPacket deliver deliver p (s.hear x) := by
  simp only [State.hearPacket, packet, State.receive]
  exact if_pos isKind

end Hearing

/-- Settles O6: each clause is one branch of the receive side, for the packet that the lanes carry. -/
theorem packetsTakeEffect : Obligations.PacketsTakeEffect := by
  intro s t x p linked packet u
  have hears {kind : Packet → Bool} {deliver : Packet → State → State} {v : State} (isKind : kind p = true)
      (effect : State.onPacket deliver deliver p u = v) :
      s.runLink t (State.hearPacket kind deliver x) = .next (v.sealed s t) :=
    runLink_effect linked ((hearPacket_kind packet isKind).trans effect)
  have bad {v : State} (isBad : u.isBad p = true) (effect : State.onPacket (fun _ u => u) (fun _ u => u) p u = v) :
      exec (.rxPacketBad t x) s = .next (v.sealed s t) := by
    show execRxPacketBad t x s = _
    exact runLink_effect linked ((hearPacket_kind packet isBad).trans effect)
  refine ⟨?block, ?opens, ?commits, ?aborts, ?invalid, ?write, ?read, ?credit, ?nack, ?echo, ?reply, ?hcrc, ?layout, ?lcrc,
    ?overrun, ?again, ?gap⟩
  case block =>
    intro next type
    show execRxBlockPacket t x s = _
    exact hears (by simp [type]) (onPacket_next next)
  case opens =>
    intro next type op
    show execPageOpen t x s = _
    exact hears (by simp [isPageOp, type, op]) (onPacket_next next)
  case commits =>
    intro next type op
    show execPageCommit t x s = _
    exact hears (by simp [isPageOp, type, op]) (onPacket_next next)
  case aborts =>
    intro next type op
    show execPageAbort t x s = _
    exact hears (by simp [isPageOp, type, op]) (onPacket_next next)
  case invalid =>
    intro next type op
    have none : (¬bits (packetWord p 0) 31 24 = 1 ∧ ¬bits (packetWord p 0) 31 24 = 2) ∧ ¬bits (packetWord p 0) 31 24 = 3 := by
      omega
    show execPageOpInvalid t x s = _
    exact hears (by simpa [isPageOp, type] using none) (onPacket_next next)
  case write =>
    intro next type op
    show execMemWrite t x s = _
    exact hears (by simp [type, op]) (onPacket_next next)
  case read =>
    intro next type op
    show execMemRead t x s = _
    exact hears (by simp [type, op]) (onPacket_next next)
  case credit =>
    intro good type
    show execRxCredit t x s = _
    exact hears (by simp [type]) (onPacket_unsequenced good (by rw [type]; decide))
  case nack =>
    intro good type
    show execRxNack t x s = _
    exact hears (by simp [type]) (onPacket_unsequenced good (by rw [type]; decide))
  case echo =>
    intro good type request
    show execRxEchoRequest t x s = _
    exact hears (by simp [isEcho, type, request]) (onPacket_unsequenced good (by rw [type]; decide))
  case reply =>
    intro sentAt good type reply sent
    have answers : State.echoReply p u =
        (u.setRegN o4002.ECHO_RTT_NS ((u.now - sentAt) % 2 ^ 32)).withLink fun l => { l with echoSent := none } := by
      simp only [State.echoReply, sent]
      exact if_pos trivial
    show execRxEchoReply t x s = _
    exact hears (by simp [isEcho, type, reply]) ((onPacket_unsequenced good (by rw [type]; decide)).trans answers)
  case hcrc =>
    intro up hcrc
    exact bad (by simp [State.isBad, hcrc]) (onPacket_hcrc up hcrc)
  case layout =>
    intro up hcrc layout
    exact bad (by simp [State.isBad, layout]) (onPacket_malformed up hcrc layout)
  case lcrc =>
    intro up hcrc layout lcrc
    exact bad (by simp [State.isBad, lcrc]) (onPacket_lcrc up hcrc layout lcrc)
  case overrun =>
    intro good seq turn zero credit
    exact bad (by simp [State.isBad, seq, turn, credit]) (onPacket_overrun good seq zero credit)
  case again =>
    intro good type before
    show execRxBlockPacket t x s = _
    exact hears (by simp [type]) (onPacket_again good (by rw [type]; decide) before)
  case gap =>
    intro good type after first
    show execRxBlockPacket t x s = _
    exact hears (by simp [type]) (onPacket_gap good (by rw [type]; decide) after first)

/-! ### LINK blocks, timers and training -/

section LinkBlocks

variable {s : State} {x : Reception} {v op : Nat} {f : Nat → State → State}

/-- A LINK block of the command's operation acts while the link is up (R102). -/
theorem onLink_heard (heard : s.linkIn x = some v) (isOp : bits v 55 48 = op) (up : s.linkUp = true) :
    State.onLink op f x s = f v (s.hear x) := by
  simp only [State.onLink, heard]
  exact if_pos ⟨isOp, up⟩

/-- An acknowledgement of the order that stands (R102). -/
theorem linkAck_order {o : WidthOrder} (order : s.link.lanes.order = some o) (mask : bits v 47 40 = o.mask)
    (target : bits v 39 24 = o.target) : State.linkAck v s =
      s.withLink fun l => { l with lanes := { l.lanes with order := some { o with acked := true } } } := by
  simp only [State.linkAck, order]
  exact if_pos ⟨mask.symm, target.symm⟩

end LinkBlocks

section Training

variable {u : State} {h : List LaneHeard} {tests : List LaneTest} {lane : Nat} {test : LaneTest}

/-- A retrain that no lane passes takes the link down (R99). -/
theorem retrainEnds_none (state : u.regN o4000.STATE = 6)
    (none : (State.testLanes h tests (without u.laneLimit u.link.lanes.marked) u).1 = 0) :
    u.retrainEnds h tests = (State.testLanes h tests (without u.laneLimit u.link.lanes.marked) u).2.linkDown := by
  unfold State.retrainEnds
  rw [if_neg (not_not_intro state)]
  exact if_pos none

/-- A retrain that some lanes pass takes the link up on them. -/
theorem retrainEnds_some (state : u.regN o4000.STATE = 6)
    (some : (State.testLanes h tests (without u.laneLimit u.link.lanes.marked) u).1 ≠ 0) :
    u.retrainEnds h tests =
      let r := State.testLanes h tests (without u.laneLimit u.link.lanes.marked) u
      r.2.enterUp (r.2.regN o4000.RATE) (widthFor (lanesOf r.1).length) r.1 false := by
  unfold State.retrainEnds
  rw [if_neg (not_not_intro state)]
  exact if_neg some

variable (up : u.linkUp = true) (lt : lane < 8) (failed : bit (u.regN o4000.FAILED_LANES) lane = true)

include up lt failed

/-- A retest of a failed lane that fails leaves its figures and no more (R104). -/
theorem retest_fails (fails : u.testOk lane test = false) : u.retest h lane test = u.tested lane test := by
  unfold State.retest
  rw [if_neg (by simp [up, lt, failed])]
  exact if_pos (by simp [fails])

/-- A failed lane that passes its retest stands by (R104). -/
theorem retest_passes {f : Nat} (passes : u.testOk lane test = true) (trn : lastOf h blockTRN lane = some f)
    (farOk : bit f 28 = true) : u.retest h lane test =
      let measured := u.tested lane test
      let standby := (measured.showLanes (measured.regN o4000.ACTIVE_LANES) (setBit (measured.regN o4000.STANDBY_LANES) lane true)
        (setBit (measured.regN o4000.FAILED_LANES) lane false)).withUnit lane fun y => { y with bip := [], badAms := 0 }
      (standby.raise 21 (256 * lane + standby.regN o4000.ACTIVE_LANES) 0 17 true).widen := by
  unfold State.retest
  rw [if_neg (by simp [up, lt, failed])]
  exact if_neg (by simp [passes, trn, farOk])

end Training

/-- Settles O7. -/
theorem linkEventsTakeEffect : Obligations.LinkEventsTakeEffect := by
  intro s t linked
  refine ⟨?fail, ?am, ?resize, ?link, ?acknowledged, ?echo, ?credit, ?replay, ?locked, ?detect, ?align, ?rate, ?test, ?retrain,
    ?retest⟩
  case fail =>
    intro x
    show execLaneFail t x s = _
    exact runLink_effect linked rfl
  case am =>
    intro x lanes
    show execRxAmColumn t x lanes s = _
    exact runLink_effect linked rfl
  case resize =>
    intro o _ _
    show execResizeSwitch t s = _
    exact runLink_effect linked rfl
  case link =>
    intro x v up heard
    refine ⟨fun ack => ?_, fun report => ?_, fun retrain state => ?_⟩
    · show execRxLinkAck t x s = _
      exact runLink_effect linked (onLink_heard heard ack up)
    · show execRxLinkReport t x s = _
      exact runLink_effect linked (onLink_heard heard report up)
    · show execRxLinkRetrain t x s = _
      exact runLink_effect linked ((onLink_heard heard retrain up).trans (if_pos state))
  case acknowledged => exact fun o v order mask target => linkAck_order order mask target
  case echo =>
    intro state
    show execEchoTimer t s = _
    exact runLink_effect linked (if_pos state)
  case credit =>
    intro state
    show execCreditTimer t s = _
    exact runLink_effect linked (if_pos state)
  case replay =>
    intro up late
    show execReplayTimeout t s = _
    exact runLink_effect linked (if_pos ⟨up, late⟩)
  case locked =>
    intro x n l state lt lane locked trn
    have found : ((List.range 8).any fun n => heardTrn ((s.tick t).hearAll x) n && match ((s.tick t).hearAll x)[n]? with
        | some l => l.after.locked
        | none => false) = true := by
      refine List.any_eq_true.2 ⟨n, List.mem_range.2 lt, ?_⟩
      simp only [trn, lane, locked, Bool.and_self]
    show execDetectLocked t x s = _
    exact runLink_effect linked (if_pos ⟨state, found⟩)
  case detect =>
    intro state
    show execDetectTimeout t s = _
    exact runLink_effect linked (if_pos state)
  case align =>
    intro state
    show execAlignTimeout t s = _
    exact runLink_effect linked (if_pos state)
  case rate =>
    intro k next state
    refine ⟨?_, rfl, rfl⟩
    have proposed : (s.tick t).link.lanes.nextRate = some k := next
    show execRateSwitch t s = _
    refine runLink_effect linked ?_
    simp only [proposed]
    exact if_pos state
  case test =>
    intro x tests
    show execLaneTestEnd t x tests s = _
    exact runLink_effect linked rfl
  case retrain =>
    intro x tests u h r state
    refine ⟨fun none => ?_, fun some => ?_⟩
    · show execRetrainEnd t x tests s = _
      exact runLink_effect linked (retrainEnds_none state none)
    · show execRetrainEnd t x tests s = _
      exact runLink_effect linked (retrainEnds_some state some)
  case retest =>
    intro x lane test u h up lt failed measured
    refine ⟨fun fails => ?_, fun f passes trn farOk => ?_⟩
    · show execLaneRetest t lane x test s = _
      exact runLink_effect linked (retest_fails up lt failed fails)
    · show execLaneRetest t lane x test s = _
      exact runLink_effect linked (retest_passes up lt failed passes trn farOk)

end Sys2Proof
end

section
/-! PROOFS. Chapters 04 and 05: the page store, the DRAM, the verifier and the codec engine. -/
namespace Sys2Proof

open Sys2Proof.Machine Sys2Proof.Laws

/-! ### The page store -/

section Pages

variable {s : State} {stream tag : Nat} {p : Page}

/-- A band behind the firing line comes free (R122). -/
theorem freeBand_behind (found : s.pageOf stream tag = some p) (printing : s.printing = true) (free : p.held = false)
    (left : p.freed < p.bands)
    (behind : ((min (p.start + 64 * p.freed + 63) (p.endLine - 1) : Nat) : Int) + s.largestDelay < s.firingLine) :
    State.freeBand stream tag s =
      let ofBand := p.blocks.filter fun x => x.index / p.columns == p.freed
      (((s.sourceGone p p.freed p.freed).mapPage stream tag fun q =>
        { q with freed := p.freed + 1, lacking := q.lacking || !decide (p.columns ≤ ofBand.length),
                 blocks := q.blocks.filter fun x => !(x.index / p.columns == p.freed),
                 resend := q.resend.filter fun i => i / q.columns != p.freed,
                 reserved := if q.committed then q.reserved - heldGranules ofBand else q.reserved }).withDram
                   fun d => { d with fullAt := none }) := by
  simp only [State.freeBand, found]
  refine if_neg ?_
  rintro (still | held | all | ahead)
  · rw [printing] at still
    cases still
  · rw [free] at held
    cases held
  · omega
  · omega

end Pages

/-- Settles O8. -/
theorem pageStoreEventsTakeEffect : Obligations.PageStoreEventsTakeEffect := by
  intro s t stream tag alive
  refine ⟨?release, ?band, ?freeboard, ?mirror⟩
  case release =>
    intro p found printing free behind
    show execPageRelease t stream tag s = _
    refine runOn_effect alive ?_
    simp only [found]
    exact if_pos ⟨printing, free, behind⟩
  case band =>
    intro p found printing free left behind ofBand
    show execBandFree t stream tag s = _
    exact runOn_effect alive (freeBand_behind found printing free left behind)
  case freeboard =>
    show execFreeboardUpdate t s = _
    exact runOn_effect alive rfl
  case mirror =>
    intro p band _ _ _ _
    show execMirrorBand t stream tag band s = _
    exact runOn_effect alive rfl

/-! ### The DRAM -/

section Refresh

variable {u : State} {channel sub rank : Nat} (up : u.channelUp channel = true) (fitted : rank < u.regN o4400.RANKS)
  (due : heldFor u.dram.dueAt (dramRank channel sub rank) u.now ≤ u.now)

include up fitted due

/-- A refresh that is due is owed, issued, postponed or forced (R128 to R131). -/
theorem refreshDue_due : State.refreshDue channel sub rank u =
    let key := dramRank channel sub rank
    let timed := u.withDram fun d => { d with dueAt := replaceKey d.dueAt key (heldFor u.dram.dueAt key u.now + u.refreshInterval) }
    let later := timed.withDram fun d => { d with owed := replaceKey d.owed key (heldFor u.dram.owed key 0 + 1) }
    if timed.otherRankRefreshed channel sub rank then later
    else if timed.refreshWaits key = false then timed.issueRefresh channel sub rank
    else if heldFor u.dram.owed key 0 < 4 then later.incReg o4403.REFRESH_POSTPONED
    else (timed.issueRefresh channel sub rank).incReg o4403.REFRESH_FORCED := by
  refine if_neg ?_
  rintro (down | unfitted | early)
  · rw [up] at down
    cases down
  · omega
  · omega

end Refresh

section Errors

variable {s : State} {channel sub rank bank row : Nat}

/-- A row that has been activated too often is managed, and its port held back (R132 to R134). -/
theorem rowThrottle_over {x : RowCount} {port : Nat}
    (found : s.dram.rows.find? (fun y => y.bank == dramRank channel sub rank * 32 + bank && y.row == row) = some x)
    (worn : s.regN o4400.ROW_ACT_LIMIT ≤ x.count) (first : x.handled = false)
    (best : bestBy (fun p : Nat => (x.ports.getD p 0 : Int)) (List.range 10) = some port) :
    State.rowThrottle channel sub rank bank row s =
      let managed := (s.withDram fun d =>
        { d with rows := d.rows.map fun y => if y = x then { x with handled := true } else y }).refreshManage
          (dramRank channel sub rank * 32 + bank)
      if port = 0 then managed
      else
        ((managed.withDram fun d =>
          { d with throttles := (port, (dramRank channel sub rank * 32 + bank) * 2 ^ 20 + row, managed.now) :: d.throttles }).incReg
            o4403.THROTTLES).raise 26 port 0 18 := by
  simp only [State.rowThrottle, found, best, Option.getD_some]
  exact if_neg (by simp [first, worn])

end Errors

/-- Settles O9. -/
theorem dramEventsTakeEffect : Obligations.DramEventsTakeEffect := by
  intro s t channel sub rank alive key
  refine ⟨?refresh, ?poll, ?throttle, ?window, ?rfm, ?corrected, ?uncorrected, ?crc, ?scrub⟩
  case refresh =>
    intro traffic u due owed timed later up fitted isDue
    have effect {v : State} (h : State.refreshDue channel sub rank u = v) :
        exec (.dramRefresh t channel sub rank traffic) s = .next (v.sealed s t) := by
      show execDramRefresh t channel sub rank traffic s = _
      exact runOn_effect alive h
    have refreshes : State.refreshDue channel sub rank u =
        if timed.otherRankRefreshed channel sub rank then later
        else if timed.refreshWaits key = false then timed.issueRefresh channel sub rank
        else if owed < 4 then later.incReg o4403.REFRESH_POSTPONED
        else (timed.issueRefresh channel sub rank).incReg o4403.REFRESH_FORCED := refreshDue_due up fitted isDue
    refine ⟨fun other => ?_, fun alone quiet => ?_, fun alone waits few => ?_, fun alone waits many => ?_⟩
    · exact effect (refreshes.trans (if_pos other))
    · refine effect (refreshes.trans ?_)
      rw [if_neg (Bool.eq_false_iff.1 alone), if_pos quiet]
    · refine effect (refreshes.trans ?_)
      rw [if_neg (Bool.eq_false_iff.1 alone), if_neg (by rw [waits]; decide), if_pos few]
    · refine effect (refreshes.trans ?_)
      rw [if_neg (Bool.eq_false_iff.1 alone), if_neg (by rw [waits]; decide), if_neg (Nat.not_lt.2 many)]
  case poll =>
    intro hot
    show execDramTempPoll t hot s = _
    exact runOn_effect alive rfl
  case throttle =>
    intro bank row x port found worn first best managed
    have throttles := rowThrottle_over (s := s.tick t) found worn first best
    refine ⟨fun host => ?_, fun other => ?_⟩
    · show execDramRowThrottle t channel sub rank bank row s = _
      exact runOn_effect alive (throttles.trans (if_pos host))
    · show execDramRowThrottle t channel sub rank bank row s = _
      exact runOn_effect alive (throttles.trans (if_neg other))
  case window =>
    show execDramRowWindowEnd t s = _
    exact runOn_effect alive rfl
  case rfm =>
    intro bank first most threshold reached
    have set : (s.tick t).dram.rfm = some (first, most) := threshold
    show execDramRfmThreshold t channel sub rank bank s = _
    refine runOn_effect alive ?_
    simp only [State.rfmThreshold, set]
    exact if_pos reached
  case corrected =>
    intro address flips _ _
    show execDramCe t channel address flips s = _
    exact runOn_effect alive rfl
  case uncorrected =>
    intro port address flips mirrorOk _
    show execDramUe t channel port address flips mirrorOk s = _
    exact runOn_effect alive rfl
  case crc =>
    intro retries on few
    show execDramWriteCrcError t channel retries s = _
    refine runOn_effect alive ?_
    have enabled : ¬(s.tick t).flag o4400.WRITE_CRC = false := by
      show ¬s.flag o4400.WRITE_CRC = false
      rw [on]
      decide
    rw [State.writeCrc, if_neg enabled, Nat.min_eq_left few]
    exact if_pos few
  case scrub =>
    intro due eq reached
    subst eq
    show execScrubPass t s = _
    exact runOn_effect alive (if_neg (Nat.not_lt.2 reached))

/-! ### Channels -/

/-- Settles O10. -/
theorem channelEventsTakeEffect : Obligations.ChannelEventsTakeEffect := by
  intro s t channel alive
  refine ⟨fun _ _ => ?_, fun eyes restoring => ?_, fun drift eye narrow => ?_, fun drift eye wide far => ?_,
    fun drift eye wide near => ?_⟩
  · show execDramChannelLost t channel s = _
    exact runOn_effect alive rfl
  · show execDramChannelRestored t channel eyes s = _
    exact runOn_effect alive (if_pos restoring)
  · show execDqsDriftCheck t channel drift eye s = _
    exact runOn_effect alive (if_pos narrow)
  · show execDqsDriftCheck t channel drift eye s = _
    exact runOn_effect alive ((if_neg (Nat.not_lt.2 wide)).trans (if_pos far))
  · show execDqsDriftCheck t channel drift eye s = _
    exact runOn_effect alive ((if_neg (Nat.not_lt.2 wide)).trans (if_neg (Nat.not_lt.2 near)))

/-! ### The verifier and the codec engine -/

section Codec

variable {s next : State} {words mismatches : List Nat} {ofKind : Nat → Bool}

/-- A descriptor of the engine's kind begins a job while fewer than 64 are in flight (R165 to R168). -/
theorem startJob_taken (few : s.pageStore.jobs.length < 64) (taken : State.takeSlot 256 3 8 s = (some words, next))
    (isKind : ofKind (bits (words.getD 0 0) 47 40) = true) : State.startJob ofKind mismatches s =
      let j := next.makeJob words mismatches
      let joined := next.withPages fun q => { q with jobs := q.jobs ++ [j] }
      let taken := if j.status = 4 ∧ joined.jobAllowed j = 1 then joined.auditRefusal 1 0x05000401 else joined
      let coded := if j.kind = 1 then taken.addReg o4800.BLOCKS_CODED j.done else taken
      let told := (List.range j.verBack).foldl (fun (u : State) _ => u.raise 34 0 0 17)
        ((coded.addReg o4800.RAW_FALLBACKS j.rawBack).addReg o4800.VERIFY_FALLBACKS j.verBack)
      told.setRegN o4800.JOBS_IN_FLIGHT told.pageStore.jobs.length := by
  unfold State.startJob
  rw [if_neg (Nat.not_le.2 few), taken]
  exact if_neg (by rw [isKind]; decide)

end Codec

/-- Settles O11. -/
theorem verifierAndCodecTakeEffect : Obligations.VerifierAndCodecTakeEffect := by
  intro s t alive
  refine ⟨?verify, ?start, ?ends⟩
  case verify =>
    intro stream o channel at_ gone rest lt queue reason judged
    have arrived : (s.tick t).queueOf stream = .block o channel at_ gone :: rest := queue
    show execBlockVerify t stream s = _
    refine runOn_effect alive ((if_pos lt).trans ?_)
    simp only [State.verifyNext, arrived]
    rfl
  case start =>
    intro words next j mismatches few taken isJob joined audited told shown
    subst isJob
    refine ⟨fun kind isCode => ?_, fun kind isCode none => ?_, fun kind isCode none => ?_⟩
    · show execCodecCompress t mismatches s = _
      refine runOn_effect alive ((startJob_taken (s := s.tick t) few taken (by rw [kind]; decide)).trans ?_)
      dsimp only
      rw [if_pos isCode]
    · subst none
      show execCodecDecompress t s = _
      refine runOn_effect alive ((startJob_taken (s := s.tick t) few taken (by rw [kind]; decide)).trans ?_)
      dsimp only
      rw [if_neg (by rw [isCode]; decide)]
    · subst none
      show execCodecCopy t s = _
      refine runOn_effect alive ((startJob_taken (s := s.tick t) few taken (by rw [kind]; decide)).trans ?_)
      dsimp only
      rw [if_neg (by rw [isCode]; decide)]
  case ends =>
    intro j elapsed _
    show execCodecJobEnd t j.id elapsed s = _
    exact runOn_effect alive rfl

end Sys2Proof
end

section
/-! PROOFS. Chapters 06 and 07: the sluice, the polders, composing and nozzle health. -/
namespace Sys2Proof

open Sys2Proof.Machine Sys2Proof.Laws

/-! ### The sluice and composing -/

section Streams

variable {s : State} {p k : Nat} {faults : List (Nat × Bool)} (polder : p < 16) (stream : k < 2) (composes : s.composes p = true)

include polder stream composes

/-- A composing polder's stream takes in the next band for which it has room once the band is ready (R173). -/
theorem admitBand_ready {at_ base last : Int} {b : Nat} {page : Page} (next : s.admitNext p k = some at_)
    (band : s.bandAt at_ = some (page, b, base, last)) (room : (s.streamOf p k).hasRoom base = true)
    (ready : s.bandReady p k page b = true) :
    State.admitBand p k faults s = s.admitLines p k page b base at_ last faults := by
  have takes : ¬(16 ≤ p ∨ 2 ≤ k ∨ s.composes p = false) := by simp [polder, stream, composes]
  unfold State.admitBand
  rw [if_neg takes]
  simp only [next, band]
  exact if_pos ⟨room, ready⟩

/-- A line whose band is not ready starves its stream (R175). -/
theorem starve_unready {base last : Int} {b : Nat} {page : Page}
    (band : s.bandAt (s.streamNext p k) = some (page, b, base, last)) (empty : (s.streamOf p k).chunkAt (s.streamNext p k) = none)
    (unready : s.bandReady p k page b = false) (low : s.fifoLevel p k ≤ 32) (room : (s.streamOf p k).hasRoom base = true) :
    State.starve p k faults s =
      if page.committed then (s.starveLine (s.streamNext p k)).admitLines p k page b base (s.streamNext p k) (s.streamNext p k) faults
      else ((s.starveLine (s.streamNext p k)).excuseStream p k (s.streamNext p k)).mapStream p k fun y =>
        { y with bufs := y.bufs ++ [{ base := base, first := s.streamNext p k, last := s.streamNext p k, tiles := [] }] } := by
  have takes : ¬(16 ≤ p ∨ 2 ≤ k ∨ s.composes p = false) := by simp [polder, stream, composes]
  unfold State.starve
  rw [if_neg takes]
  simp only [band]
  exact if_neg (by simp [empty, unready, low, room])

/-- A stream composes the next line of the dies that wait for it, from the chunk that holds it or, outside the bands, blank
(R188, R214). -/
theorem composeNext_waiting {traceLost : Bool} (waits : ((s.streamDies p k).filter fun d => decide (s.dieLevel d < 256)) ≠ []) :
    State.composeNext p k traceLost s =
      let open_ := (s.streamDies p k).filter fun d => decide (s.dieLevel d < 256)
      let line := smallest 0 (open_.map s.dieNext)
      let lanes := open_.filter fun d => s.dieNext d == line
      match (s.streamOf p k).chunkAt line with
      | some c => s.composeLine p k line lanes (c.pixel line) traceLost
      | none => if (s.bandAt line).isNone then s.composeLine p k line lanes (fun _ => 0) traceLost else s := by
  refine if_neg ?_
  rintro (beyond | beyond | idle | none)
  · omega
  · omega
  · rw [composes] at idle
    cases idle
  · exact waits (List.isEmpty_iff.1 none)

end Streams

/-! ### Takeover, shadow compare and return -/

section Spare

variable {s : State} {p next : Nat}

/-- The spare polder goes on to the next polder that it shadows once it has shadowed one long enough (R190). -/
theorem shadowNext_next (idle : s.polders.spare.state = 8 ∨ s.polders.spare.state = 9) (enabled : s.flag o3020.SHADOW_ENABLE = true)
    (printing : s.printing = true) (done : s.shadowOver = true)
    (found : s.nextShadow (match s.polders.shadowed with
      | some q => some q
      | none => s.polders.resume) = some next) :
    s.shadowNext = ((s.setPolder 16 9).withPolders fun q =>
      { q with shadowed := some next, resume := none, joined := (s.streamNext next 0, s.streamNext next 1) }) := by
  unfold State.shadowNext
  rw [if_neg (by omega), if_neg (by simp [enabled, printing]), if_neg (by simp [done])]
  cases shadowed : s.polders.shadowed with
  | some q =>
    simp only [shadowed] at found
    simp only [found]
  | none =>
    simp only [shadowed] at found
    simp only [found]

/-- The spare polder shadows nothing while shadowing is off or the chip does not print. -/
theorem shadowNext_off (idle : s.polders.spare.state = 8 ∨ s.polders.spare.state = 9)
    (off : s.flag o3020.SHADOW_ENABLE = false ∨ s.printing = false) :
    s.shadowNext = (s.setPolder 16 8).withPolders fun q => { q with shadowed := none } := by
  unfold State.shadowNext
  rw [if_neg (by omega), if_pos off]

/-- Polder S connects once it composes for the polder that it has taken over (R192). -/
theorem connectSpare_serving (serving : s.polders.serving = some p) (first : s.polders.connected = false)
    (composing : s.polders.spare.state = 10) : s.connectSpare =
      (((s.withPolders fun q => { q with connected := true }).incReg o3020.TAKEOVERS).setRegN o3020.LAST_TAKEOVER_US
        ((s.now - s.polders.takenAt) / 1000 % 2 ^ 32)).raise 38 (s.polders.takeCause * 256 + p) 2 p := by
  simp only [State.connectSpare, serving]
  exact if_neg (by simp [first, composing])

end Spare

/-- Settles O12. -/
theorem polderEventsTakeEffect : Obligations.PolderEventsTakeEffect := by
  intro s t p alive
  refine ⟨?takesBand, ?starve, ?compose, ?fault, ?stall, ?connect, ?shadow, ?mismatch, ?passed, ?failed, ?returned⟩
  case takesBand =>
    intro stream faults at_ page b base last polder two composes next band room ready
    show execSluiceAdmitBand t p stream faults s = _
    exact runOn_effect alive (admitBand_ready polder two composes next band room ready)
  case starve =>
    intro stream faults page b base last polder two composes at_ band empty unready low room counted
    have starves := starve_unready (faults := faults) polder two composes band empty unready low room
    refine ⟨fun committed => ?_, fun uncommitted => ?_⟩
    · show execSluiceStarveLine t p stream faults s = _
      exact runOn_effect alive (starves.trans (if_pos committed))
    · show execSluiceStarveLine t p stream faults s = _
      exact runOn_effect alive (starves.trans (if_neg (by rw [uncommitted]; decide)))
  case compose =>
    intro stream traceLost polder composes lanes line two waits
    have composed := composeNext_waiting (traceLost := traceLost) polder two composes waits
    refine ⟨fun c chunk => ?_, fun empty outside => ?_⟩
    · show execPolderComposeLine t p stream traceLost s = _
      refine runOn_effect alive (composed.trans ?_)
      have chunk' : ((s.tick t).streamOf p stream).chunkAt line = some c := chunk
      dsimp only
      rw [chunk']
    · show execPolderComposeLine t p stream traceLost s = _
      refine runOn_effect alive (composed.trans ?_)
      have empty' : ((s.tick t).streamOf p stream).chunkAt line = none := empty
      dsimp only
      rw [empty']
      exact if_pos (by rw [outside]; rfl)
  case fault =>
    intro cause le known
    show execPolderFault t p cause s = _
    exact runOn_effect alive (if_neg fun h => h.elim (Nat.not_lt.2 le) fun unknown => unknown known)
  case stall =>
    intro le handshakes
    have shakes : ¬(16 < p ∨ (s.tick t).handshakes p = false) := by
      rintro (beyond | idle)
      · omega
      · exact absurd (handshakes.symm.trans idle) (by decide)
    show execPolderStall t p s = _
    exact runOn_effect alive (if_neg shakes)
  case connect =>
    intro serving first composing
    show execTakeoverConnect t s = _
    exact runOn_effect alive (connectSpare_serving (s := s.tick t) serving first composing)
  case shadow =>
    intro idle
    refine ⟨fun off => ?_, fun next enabled printing done found => ?_⟩
    · show execShadowNext t s = _
      exact runOn_effect alive (shadowNext_off (s := s.tick t) idle off)
    · show execShadowNext t s = _
      exact runOn_effect alive (shadowNext_next (s := s.tick t) idle enabled printing done found)
  case mismatch =>
    intro same _ _
    show execShadowMismatch t same s = _
    exact runOn_effect alive rfl
  case passed =>
    intro le testing few
    show execPolderSelfTestDone t p true s = _
    refine runOn_effect alive ((if_neg ?_).trans (if_pos ⟨rfl, few⟩))
    exact fun h => h.elim (Nat.not_lt.2 le) fun other => other testing
  case failed =>
    intro le testing
    show execPolderSelfTestDone t p false s = _
    refine runOn_effect alive ((if_neg ?_).trans (if_neg fun h => absurd h.1 (by decide)))
    exact fun h => h.elim (Nat.not_lt.2 le) fun other => other testing
  case returned =>
    intro l lt line returning past0 past1
    have line' : (s.tick t).polders.returnAt = some l := line
    show execPolderReturned t p s = _
    refine runOn_effect alive ?_
    simp only [State.polderBack, line']
    exact if_pos ⟨lt, returning, past0, past1⟩

/-! ### Nozzle health -/

section Probe

variable {s : State} {p : Probe} {at_ : Int}

/-- A probe that has run is handed back (R222). -/
theorem probeDone_beyond (armed : s.health.probe = some p) (start : p.start = some at_) (runs : s.regN o3404.PROBE_STATE = 2)
    (beyond : (if s.printing then (s.probeStreams p).all fun k => s.streamPast k.1 k.2 (at_ + p.lines)
      else decide (at_ + p.lines ≤ s.firingLine)) = true) : s.probeDone =
      ((s.setRegN o3404.PROBE_STATE 0).withHealth fun h =>
        { h with probe := none,
                 probed := p :: h.probed.filter fun q =>
                   decide (s.firingLine ≤ q.start.getD s.firingLine + q.lines + s.regN o3000.LARGEST_DELAY) }).probeFree.raise
                     51 0 0 23 := by
  simp only [State.probeDone, armed, start]
  exact if_pos ⟨runs, beyond⟩

end Probe

/-- Settles O13. -/
theorem healthEventsTakeEffect : Obligations.HealthEventsTakeEffect := by
  intro s t alive
  have window {v : State} (effect : (s.tick t).seepWindow = v) : exec (.seepWindow t) s = .next (v.sealed s t) := by
    show execSeepWindow t s = _
    exact runOn_effect alive effect
  have seeps : (s.tick t).seepWindow =
      let u := (s.tick t).withHealth fun h => { h with seeped := 0, lost := 0 }
      let v := if s.regN o3402.SEEP_RATE_LIMIT < s.health.seeped then u.raise 49 0 0 23 else u
      if 0 < s.health.lost then v.raise 50 0 1 23 else v := rfl
  refine ⟨fun none few => ?_, fun none many => ?_, fun lost many => ?_, fun lost few => ?_, fun mode due => ?_,
    fun island => ?_, fun p at_ armed start runs beyond => ?_⟩
  · exact window (by rw [seeps]; dsimp only; rw [if_neg (Nat.not_lt.2 few), if_neg (by omega)])
  · exact window (by rw [seeps]; dsimp only; rw [if_pos many, if_neg (by omega)])
  · exact window (by rw [seeps]; dsimp only; rw [if_pos many, if_pos lost])
  · exact window (by rw [seeps]; dsimp only; rw [if_neg (Nat.not_lt.2 few), if_pos lost])
  · show execHealthCommitStage t s = _
    exact runOn_effect alive (if_pos ⟨mode, due⟩)
  · have runs : ¬(s.tick t).islandLost 11 = true := by
      show ¬s.islandLost 11 = true
      rw [island]
      decide
    show execHealthMapSave t s = _
    exact runOn_effect alive (if_neg runs)
  · show execProbeDone t s = _
    exact runOn_effect alive (probeDone_beyond (s := s.tick t) armed start runs beyond)

end Sys2Proof
end

section
/-! PROOFS. Chapter 09: head polls, replies, FIRE frames, training ends and the resistance meter. -/
namespace Sys2Proof

open Sys2Proof.Machine Sys2Proof.Laws

/-! ### Polls and replies -/

section Polls

variable {s : State} {lane : Nat}

/-- A lane whose die is being identified asks for the next block of its memory (R264). -/
theorem pollLane_block {i : Nat} (lt : lane < 512) (next : (s.die (lane / 8)).nextBlock = some i) :
    State.pollLane lane s = s.poll lane 3 (16 * i) := by
  unfold State.pollLane
  dsimp only
  rw [if_neg (by omega), next]

/-- A lane of a die that carries polls is polled when its poll is due (R255). -/
theorem pollLane_due (lt : lane < 512) (next : (s.die (lane / 8)).nextBlock = none) (carries : s.carries (lane / 8) = true)
    (due : s.pollDue lane = true) : State.pollLane lane s = s.poll lane 1 0 := by
  unfold State.pollLane
  dsimp only
  rw [if_neg (by omega), next]
  exact if_pos (by rw [carries, due]; rfl)

/-- The sensors of a die are read over its next lane that is not bad and carries no poll of its own (R263). -/
theorem sensorPoll_next {die i : Nat} (lt : die < 64) (carries : s.carries die = true)
    (next : (((List.range 8).map fun i => ((s.die die).polled + 1 + i) % 8).find? fun i =>
      !bit (s.die die).lanesBad i && !(s.printing && (s.laneUse (8 * die + i)).polled)) = some i) :
    State.sensorPoll die s = (s.mapDie die fun x => { x with polled := i }).poll (8 * die + i) 2 0 := by
  have takes : ¬(64 ≤ die ∨ s.carries die = false) := by
    rw [carries]
    simpa using lt
  unfold State.sensorPoll
  dsimp only
  rw [if_neg takes, next]

/-- Whether a reply has the length of its operation and the right CRC (R259). -/
def replyGood (q : HeadPoll) (o : Octets) : Bool :=
  o.length == replyLength q.op && o.drop (o.length - 2) == crc16 (o.take (o.length - 2))

section Replies

variable {q : HeadPoll} {groups : List Nat} (lt : lane < 512) (asked : s.pollOf lane = some q)

include lt asked

/-- A bad reply is discarded (R260). -/
theorem headReply_bad (bad : (replyContent groups).filter (replyGood q) = none) :
    State.headReply lane groups s = s.discardReply lane (codeErrorsIn groups) := by
  have bad' : ((replyContent groups).filter fun o =>
    o.length == replyLength q.op && o.drop (o.length - 2) == crc16 (o.take (o.length - 2))) = none := bad
  unfold State.headReply
  dsimp only
  rw [if_neg (by omega), asked]
  dsimp only
  rw [bad']

/-- A good reply is read by the state of its die (R261, R262). -/
theorem headReply_good {o : Octets} (good : (replyContent groups).filter (replyGood q) = some o) :
    State.headReply lane groups s =
      let heard := (s.pollOver lane).mapDie (lane / 8) fun x => { x with again := x.again.filter fun l => l != lane % 8 }
      if heard.carries (lane / 8) = false then
        heard.mapDie (lane / 8) fun x => { x with reading := Cells.put (fun _ => []) x.reading (q.arg / 16) (memAt o 8 16) }
      else if bit (memNum o 0 8) 16 then heard.dieRetrain (lane / 8)
      else
        let written := if bit (memNum o 0 8) 18 = true ∨ q.fresh = false then heard else heard.sendIdWrite (lane / 8)
        let sensed := if q.op = 2 then written.takeSensors (lane / 8) (sensorsOf o) (bits (memNum o 16 8) 63 60) else written
        let sent := ((List.range 4).filter (frameAbsent (memNum o 0 8) q.tags)).foldl (State.resendFrame lane false) sensed
        let judged := (List.range 4).foldl (State.judgeCount lane (memNum o 0 8) q.counts) sent
        if bit (memNum o 0 8) 19 = true ∧ (judged.die (lane / 8)).up = true then judged.resync lane else judged := by
  have good' : ((replyContent groups).filter fun o =>
    o.length == replyLength q.op && o.drop (o.length - 2) == crc16 (o.take (o.length - 2))) = some o := good
  unfold State.headReply
  dsimp only
  rw [if_neg (by omega), asked]
  dsimp only
  rw [good']

end Replies

/-- A FIRE frame that the lines allow goes out in time, or its line is missed (R256, R258). -/
theorem fireFrameSend_allowed {die row : Nat} {kw : Bool} {fire : List Bool} (fitted : die < s.regN o3000.DIES) (lt : row < 4)
    (printing : s.printing = true) (carries : s.carries die = true)
    (near : (s.row die row).sendLine ≤ s.lineOnDie die row + 1)
    (turn : (s.row die row).replace = false ∨ (s.row die row).sendLine ≤ s.lineOnDie die row)
    (line : s.lineBits die row (s.row die row).sendLine = some (kw, fire)) :
    State.fireFrameSend die row s =
      let x := s.row die row
      let now := s.lineOnDie die row
      let inTime : Bool := if x.replace then x.sendLine == now && s.currentInTime die row
        else x.sendLine == now + 1 && s.nextInTime die row
      let sent := if inTime then s.sendFire die row x.replace kw x.tag fire (List.range 8)
        else (List.range 8).foldl (State.lineMissed die row x.sendLine) s
      State.flushOrders die (sent.die die).orders (sent.setRow die row { sent.row die row with
        sendLine := x.sendLine + 1, replace := false, tag := if inTime then (x.tag + 1) % 16 else x.tag,
        warmSent := if inTime ∧ kw = true then some x.sendLine else (sent.row die row).warmSent }) := by
  have sends : ¬(s.regN o3000.DIES ≤ die ∨ 4 ≤ row ∨ s.printing = false ∨ s.carries die = false ∨
      s.lineOnDie die row + 1 < (s.row die row).sendLine ∨
      ((s.row die row).replace = true ∧ s.lineOnDie die row < (s.row die row).sendLine)) := by
    rw [printing, carries]
    rintro (unfitted | beyond | still | mute | early | ⟨replaces, early⟩)
    · omega
    · omega
    · cases still
    · cases mute
    · omega
    · rcases turn with fresh | reached
      · exact absurd (replaces.symm.trans fresh) (by decide)
      · omega
  unfold State.fireFrameSend
  dsimp only
  rw [if_neg sends, line]

end Polls

/-- Settles O15. -/
theorem headPollsTakeEffect : Obligations.HeadPollsTakeEffect := by
  intro s t die row lane alive
  refine ⟨?block, ?due, ?none, ?sensor, ?reply, ?fire, ?missed, ?lifetime⟩
  case block =>
    intro i lt next
    show execHeadPoll t lane s = _
    exact runOn_effect alive (pollLane_block (s := s.tick t) lt next)
  case due =>
    intro lt next carries due
    show execHeadPoll t lane s = _
    exact runOn_effect alive (pollLane_due lt next carries due)
  case none =>
    intro q lt asked
    have open_ : ¬(512 ≤ lane ∨ ((s.tick t).pollOf lane).isNone = true) := by
      show ¬(512 ≤ lane ∨ (s.pollOf lane).isNone = true)
      simp [asked, lt]
    show execHeadNoReply t lane s = _
    exact runOn_effect alive (if_neg open_)
  case sensor =>
    intro i lt carries next
    show execHeadSensorPoll t die s = _
    exact runOn_effect alive (sensorPoll_next (s := s.tick t) lt carries next)
  case reply =>
    intro q groups lt asked good
    have replies {v : State} (effect : State.headReply lane groups (s.tick t) = v) :
        exec (.headReply t lane groups) s = .next (v.sealed s t) := by
      show execHeadReply t lane groups s = _
      exact runOn_effect alive effect
    refine ⟨fun bad => replies (headReply_bad (s := s.tick t) lt asked bad), fun o heardGood => ?_⟩
    intro heard
    have reads := headReply_good (s := s.tick t) lt asked heardGood
    refine ⟨fun mute => ?_, fun carries asksRetrain => ?_, fun carries goesOn => ?_⟩
    · exact replies (reads.trans (if_pos mute))
    · exact replies (reads.trans ((if_neg (by rw [carries]; decide)).trans (if_pos asksRetrain)))
    · intro written sensed sent judged
      exact replies (reads.trans ((if_neg (by rw [carries]; decide)).trans (if_neg (by rw [goesOn]; decide))))
  case fire =>
    intro kw fire fitted lt printing carries x now near turn line inTime sent
    show execHeadFireFrameSend t die row s = _
    exact runOn_effect alive (fireFrameSend_allowed (s := s.tick t) fitted lt printing carries near turn line)
  case missed =>
    intro lane8 fitted lt printing
    have fires : ¬((s.tick t).regN o3000.DIES ≤ die ∨ 4 ≤ row ∨ (s.tick t).printing = false) := by
      rintro (unfitted | beyond | still)
      · exact Nat.not_le.2 fitted unfitted
      · omega
      · exact absurd (printing.symm.trans still) (by decide)
    show execHeadFrameMissed t die row lane s = _
    exact runOn_effect alive ((if_neg (Nat.not_le.2 lane8)).trans (if_neg fires))
  case lifetime =>
    intro mode fitted due
    have writes : ¬((s.tick t).mode = 0 ∨ (s.tick t).regN o3000.DIES ≤ die ∨ (s.tick t).lifetimeDue die = false) := by
      rintro (boot | unfitted | early)
      · exact mode boot
      · exact Nat.not_le.2 fitted unfitted
      · exact absurd (due.symm.trans early) (by decide)
    show execLifetimeWrite t die s = _
    exact runOn_effect alive (if_neg writes)

/-! ### Ends of training -/

section TrainingEnds

variable {s : State} {die locks : Nat} {scans : List Nat} {memory : Octets} (lt : die < 64)

include lt

section Train

variable (link : (s.die die).link = 1)

include link

/-- TRAIN of a die whose identity is bad fails (R264). -/
theorem trainEnd_badIdentity (read : (s.die die).readBlocks 512 = some memory) (bad : identityGood memory = false) :
    State.trainEnd die locks scans s =
      ((((s.setLanes die locks scans).mapDie die fun y => { y with idOk := identityGood memory, memory := memory }).raise
        59 die 1 19 true).dieFails die) := by
  unfold State.trainEnd
  dsimp only
  rw [if_neg (by omega), read]
  exact if_pos bad

/-- TRAIN that ends in time with every lane good takes the die up (R264 to R267). -/
theorem trainEnd_up (read : (s.die die).readBlocks 512 = some memory) (good : identityGood memory = true)
    (lanes : s.badLanes locks scans = 0) (inTime : s.now ≤ (s.die die).enteredAt + 50000000) :
    State.trainEnd die locks scans s =
      let put := (s.setLanes die locks scans).mapDie die fun y => { y with idOk := identityGood memory, memory := memory }
      let known := (put.loadRanks die memory).mapDie die fun y =>
        { y with life := s.lifeFrom memory, copy := match lifeOf memory with
                                                  | some c => c.1
                                                  | none => 1 }
      (if known.mode = 0 then known.loadMap die memory else known).dieUp die := by
  unfold State.trainEnd
  dsimp only
  rw [if_neg (by omega), read]
  exact (if_neg (by rw [good]; decide)).trans (if_pos ⟨lanes, decide_eq_false (Nat.not_lt.2 inTime)⟩)

/-- TRAIN that ends with a bad lane at its time limit fails (R265). -/
theorem trainEnd_badLanes (read : (s.die die).readBlocks 512 = some memory) (good : identityGood memory = true)
    (lanes : s.badLanes locks scans ≠ 0) (over_ : (s.die die).enteredAt + 50000000 ≤ s.now) :
    State.trainEnd die locks scans s =
      ((s.setLanes die locks scans).mapDie die fun y => { y with idOk := identityGood memory, memory := memory }).dieFails die := by
  unfold State.trainEnd
  dsimp only
  rw [if_neg (by omega), read]
  dsimp only
  rw [if_neg (by rw [good]; decide), if_neg fun h => lanes h.1, if_pos (decide_eq_true over_)]

/-- TRAIN that has not read the identity by its time limit fails. -/
theorem trainEnd_unread (unread : (s.die die).readBlocks 512 = none) (over_ : (s.die die).enteredAt + 50000000 ≤ s.now) :
    State.trainEnd die locks scans s = (s.setLanes die locks scans).dieFails die := by
  unfold State.trainEnd
  dsimp only
  rw [if_neg (by omega), unread]
  exact if_pos (decide_eq_true over_)

end Train

section Retrain

variable (link : (s.die die).link = 4) (read : (s.die die).readBlocks 320 = some memory) (good : identityGood memory = true)

include link read good

/-- RETRAIN of the same die that ends in time with every lane good takes it up again (R269). -/
theorem headRetrained_up (same : identityKey memory = identityKey (s.die die).memory) (lanes : s.badLanes locks scans = 0)
    (inTime : s.now ≤ (s.die die).enteredAt + 2000000) :
    State.headRetrained die locks scans s = (s.setLanes die locks scans).dieUp die := by
  unfold State.headRetrained
  dsimp only
  rw [if_neg (by omega), read]
  dsimp only
  rw [if_neg (by simp [good, same]), if_pos ⟨lanes, decide_eq_false (Nat.not_lt.2 inTime)⟩]

/-- RETRAIN that ends with a bad lane at its time limit fails (R270). -/
theorem headRetrained_badLanes (same : identityKey memory = identityKey (s.die die).memory) (lanes : s.badLanes locks scans ≠ 0)
    (over_ : (s.die die).enteredAt + 2000000 ≤ s.now) :
    State.headRetrained die locks scans s = (s.setLanes die locks scans).dieFails die := by
  unfold State.headRetrained
  dsimp only
  rw [if_neg (by omega), read]
  dsimp only
  rw [if_neg (by simp [good, same]), if_neg fun h => lanes h.1, if_pos (decide_eq_true over_)]

/-- RETRAIN that finds another die fails. -/
theorem headRetrained_other (other : identityKey memory ≠ identityKey (s.die die).memory) :
    State.headRetrained die locks scans s = ((s.setLanes die locks scans).raise 59 die 1 19).dieFails die := by
  have differs : (identityKey memory == identityKey (s.die die).memory) = false := beq_eq_false_iff_ne.2 other
  unfold State.headRetrained
  dsimp only
  rw [if_neg (by omega), read]
  dsimp only
  rw [if_pos (Or.inr differs), if_pos good, if_neg (by rw [differs]; decide)]

end Retrain

/-! ### The resistance meter -/

/-- A die that is idle long enough lets its partner's heaters be measured (R273, R274). -/
theorem dieIdle_quiet (up : (s.die die).up = true) (on : s.meterOn = true) (sense : bit (s.regN o3805.SENSE_FAULTS) die = false)
    (quiet : ∀ b, (s.die die).lastBurst = some b → b + 200000 ≤ s.now) : State.dieIdle die s =
      if (s.die die).meter.idle then s.nextMeasure (partnerOf die)
      else (s.mapDie die fun x => { x with meter := { x.meter with idle := true, since := 64 } }).nextMeasure (partnerOf die) := by
  unfold State.dieIdle
  dsimp only
  cases burst : (s.die die).lastBurst with
  | none => exact if_neg (by simp [lt, up, on, sense])
  | some b => exact if_neg (by simp [lt, up, on, sense, quiet b burst])

end TrainingEnds

/-- Settles O16. -/
theorem headLinksAndMeterTakeEffect : Obligations.HeadLinksAndMeterTakeEffect := by
  intro s t die alive lt x now
  refine ⟨?train, ?unread, ?resync, ?retrain, ?quarantine, ?idle, ?measure⟩
  case train =>
    intro locks scans memory link read put
    refine ⟨fun bad => ?_, fun good lanes inTime => ?_, fun good lanes over_ => ?_⟩
    · show execDieTrainEnd t die locks scans s = _
      exact runOn_effect alive (trainEnd_badIdentity (s := s.tick t) lt link read bad)
    · show execDieTrainEnd t die locks scans s = _
      exact runOn_effect alive (trainEnd_up (s := s.tick t) lt link read good lanes inTime)
    · show execDieTrainEnd t die locks scans s = _
      exact runOn_effect alive (trainEnd_badLanes (s := s.tick t) lt link read good lanes over_)
  case unread =>
    intro locks scans link unread over_
    show execDieTrainEnd t die locks scans s = _
    exact runOn_effect alive (trainEnd_unread (s := s.tick t) lt link unread over_)
  case resync =>
    intro link
    have resyncing : ¬(64 ≤ die ∨ ((s.tick t).die die).link ≠ 3) := by
      rintro (beyond | other)
      · omega
      · exact other link
    refine ⟨fun inTime => ?_, fun over_ => ?_⟩
    · show execDieResyncEnd t die true s = _
      exact runOn_effect alive ((if_neg resyncing).trans (if_pos ⟨rfl, inTime⟩))
    · show execDieResyncEnd t die false s = _
      exact runOn_effect alive ((if_neg resyncing).trans ((if_neg fun h => absurd h.1 (by decide)).trans (if_pos over_)))
  case retrain =>
    intro locks scans memory link read put
    refine ⟨fun good same lanes inTime => ?_, fun good same lanes over_ => ?_, fun good other => ?_⟩
    · show execDieRetrainEnd t die locks scans s = _
      exact runOn_effect alive (headRetrained_up (s := s.tick t) lt link read good same lanes inTime)
    · show execDieRetrainEnd t die locks scans s = _
      exact runOn_effect alive (headRetrained_badLanes (s := s.tick t) lt link read good same lanes over_)
    · show execDieRetrainEnd t die locks scans s = _
      exact runOn_effect alive (headRetrained_other (s := s.tick t) lt link read good other)
  case quarantine =>
    intro due
    show execQuarantineStage t s = _
    exact runOn_effect alive (if_pos due)
  case idle =>
    intro up on sense quiet
    have idles := dieIdle_quiet (s := s.tick t) lt up on sense quiet
    refine ⟨fun first => ?_, fun again => ?_⟩
    · show execDieIdle t die s = _
      exact runOn_effect alive (idles.trans (if_neg (Bool.eq_false_iff.1 first)))
    · show execDieIdle t die s = _
      exact runOn_effect alive (idles.trans (if_pos again))
  case measure =>
    intro n reading task over_ taken
    have measuring : ((s.tick t).die die).meter.task = some n := task
    show execResistMeasureDone t die reading s = _
    refine runOn_effect alive ((if_neg (Nat.not_le.2 lt)).trans ?_)
    unfold State.measureDone
    rw [measuring]

end Sys2Proof
end

section
/-! PROOFS. Chapter 10: what a camera sends, line triggers, frame ends, settings and restarts. -/
namespace Sys2Proof

open Sys2Proof.Machine Sys2Proof.Laws

/-! ### Packets of a bound and running pipeline -/

section Packets

variable {s : State} {port p header : Nat} (bound : s.portPipeline port = some p)

include bound

/-- A packet that is no part of the subset is counted (R284). -/
theorem packetIgnored_bound (readable : header ≠ 2) :
    State.packetIgnored port header s = (s.headerFix p header).incReg (o5004.IGNORED_PACKETS + p) := by
  simp only [State.packetIgnored, bound]
  exact if_neg readable

variable (runs : s.cameraState p = 2)

include runs

section Line

variable {vc dataType i : Nat} {crcOk : Bool} {codes : List Nat}
  (tile : ((s.headerFix p header).tiles p).find? (fun i => tileVc ((s.headerFix p header).tileWord p i) == vc) = some i)

include tile

/-- A good line feeds its tile (R284). -/
theorem linePacket_good {l : List Nat} (readable : header ≠ 2)
    (type : dataType = tileType ((s.headerFix p header).tileWord p i))
    (pixels : tilePixels ((s.headerFix p header).tileWord p i) codes = some l) :
    State.linePacket port header vc dataType true codes s = (s.headerFix p header).feedLine p i (some l) := by
  have line : (if header = 2 ∨ true = false ∨ dataType ≠ tileType ((s.headerFix p header).tileWord p i) then none
      else tilePixels ((s.headerFix p header).tileWord p i) codes) = some l := by
    rw [if_neg (by simp [readable, type]), pixels]
  unfold State.linePacket
  rw [bound]
  dsimp only
  rw [if_neg (not_not_intro runs), tile]
  dsimp only
  rw [line]
  split <;> rfl

/-- A bad line that is not late counts as bad, and more than 16 in a frame restart the pipeline (R299, R300). -/
theorem linePacket_bad {f : Frame}
    (bad : header = 2 ∨ crcOk = false ∨ dataType ≠ tileType ((s.headerFix p header).tileWord p i))
    (frame : ((s.headerFix p header).pipeline p).receiving = some f)
    (inTime : dueSlots (f.slots.take f.lines.length) ≤
      (((s.headerFix p header).pipeline p).feeds.getD i { got := 0, held := [] }).got) :
    State.linePacket port header vc dataType crcOk codes s =
      let v := ((s.headerFix p header).badLine p).feedLine p i none
      if (v.pipeline p).frames.any (fun f => decide (16 < f.bad)) then v.restartPort p else v := by
  unfold State.linePacket
  rw [bound]
  dsimp only
  rw [if_neg (not_not_intro runs), tile]
  dsimp only
  rw [if_pos bad, frame]
  dsimp only
  rw [if_pos ⟨rfl, decide_eq_false (Nat.not_lt.2 inTime)⟩]
  cases over_ : (((((s.headerFix p header).badLine p).feedLine p i none).pipeline p).frames.find? fun f => decide (16 < f.bad)) with
  | some g => exact (if_pos rfl).trans (if_pos (List.any_eq_true.2 ⟨g, List.mem_of_find?_eq_some over_, List.find?_some over_⟩)).symm
  | none =>
    refine (if_neg fun any => ?_).symm
    obtain ⟨g, mem, bad⟩ := List.any_eq_true.1 any
    exact List.find?_eq_none.1 over_ g mem bad

end Line

/-- An embedded line joins the frame that is received (R290). -/
theorem embeddedPacket_known {vc : Nat} {data : Octets} {f : Frame} (readable : header ≠ 2)
    (known : ((s.headerFix p header).tiles p).any (fun i => tileVc ((s.headerFix p header).tileWord p i) == vc) = true)
    (frame : ((s.headerFix p header).pipeline p).receiving = some f) (few : f.embedded.length < 2) :
    State.embeddedPacket port header vc true data s =
      (s.headerFix p header).setFrame p { f with embedded := f.embedded ++ [data.take 4096] } := by
  unfold State.embeddedPacket
  rw [bound]
  dsimp only
  rw [if_neg (not_not_intro runs), frame]
  exact if_neg (by simp [readable, known, few])

/-- A frame start begins the next triggered frame (R290). -/
theorem frameStart_first {number : Nat} {f : Frame} (readable : header ≠ 2)
    (none : ((s.headerFix p header).pipeline p).receiving = none)
    (next : (((s.headerFix p header).pipeline p).frames.find? fun f => !f.begun) = some f) :
    State.frameStart port header number s = (s.headerFix p header).setFrame p { f with begun := true, csi := number % 65536 } := by
  unfold State.frameStart
  rw [bound]
  dsimp only
  rw [if_neg (not_not_intro runs), if_neg readable, none]
  dsimp only
  rw [next]

/-- A frame start ends the frame that is received and begins the next. -/
theorem frameStart_next {number : Nat} {f g : Frame} (readable : header ≠ 2)
    (frame : ((s.headerFix p header).pipeline p).receiving = some f)
    (next : ((((s.headerFix p header).endCsi p f).pipeline p).frames.find? fun f => !f.begun) = some g) :
    State.frameStart port header number s =
      ((s.headerFix p header).endCsi p f).setFrame p { g with begun := true, csi := number % 65536 } := by
  unfold State.frameStart
  rw [bound]
  dsimp only
  rw [if_neg (not_not_intro runs), if_neg readable, frame]
  dsimp only
  rw [next]

/-- A frame end ends the frame that is received. -/
theorem frameEndPacket_received {f : Frame} (readable : header ≠ 2)
    (frame : ((s.headerFix p header).pipeline p).receiving = some f) :
    State.frameEndPacket port header s = (s.headerFix p header).endCsi p f := by
  unfold State.frameEndPacket
  rw [bound]
  dsimp only
  rw [if_neg (not_not_intro runs), frame]
  exact if_neg readable

/-- Lane synchronisation errors are counted over 1 ms; the fourth restarts the pipeline (R300). -/
theorem laneSyncError_running : State.laneSyncError port s =
    let times := s.now :: (s.pipeline p).syncTimes.filter fun u => decide (s.now < u + 1000000)
    let v := s.mapPipeline p fun x => { x with syncTimes := times }
    if 4 ≤ times.length then v.restartPort p else v := by
  unfold State.laneSyncError
  rw [bound]
  exact if_neg (not_not_intro runs)

end Packets

/-- Settles O17. -/
theorem cameraPacketsTakeEffect : Obligations.CameraPacketsTakeEffect := by
  intro s t port p header alive bound
  have bound' : (s.tick t).portPipeline port = some p := bound
  refine ⟨fun readable => ?_, fun runs => ?_⟩
  · show execCsiPacketIgnored t port header s = _
    exact runOn_effect alive (packetIgnored_bound bound' readable)
  have runs' : (s.tick t).cameraState p = 2 := runs
  intro u
  refine ⟨?good, ?bad, ?embedded, ?start, ?next, ?ends, ?ulps, ?sync⟩
  case good =>
    intro vc dataType codes i l tile readable type pixels
    show execCsiLinePacket t port header vc dataType true codes s = _
    exact runOn_effect alive (linePacket_good bound' runs' tile readable type pixels)
  case bad =>
    intro vc dataType crcOk codes i f tile bad frame inTime v
    show execCsiLinePacket t port header vc dataType crcOk codes s = _
    exact runOn_effect alive (linePacket_bad bound' runs' tile bad frame inTime)
  case embedded =>
    intro vc data f readable known frame few
    show execCsiEmbeddedPacket t port header vc true data s = _
    exact runOn_effect alive (embeddedPacket_known bound' runs' readable known frame few)
  case start =>
    intro number f readable none next
    show execCsiFrameStart t port header number s = _
    exact runOn_effect alive (frameStart_first bound' runs' readable none next)
  case next =>
    intro number f g readable frame next
    show execCsiFrameStart t port header number s = _
    exact runOn_effect alive (frameStart_next bound' runs' readable frame next)
  case ends =>
    intro f readable frame
    show execCsiFrameEnd t port header s = _
    exact runOn_effect alive (frameEndPacket_received bound' runs' readable frame)
  case ulps =>
    show execCsiLanesUlps t port s = _
    refine runOn_effect alive ?_
    simp only [State.cameraPortLost, bound']
  case sync =>
    intro times v
    show execCsiLaneSyncError t port s = _
    exact runOn_effect alive (laneSyncError_running bound' runs')

/-! ### Line triggers, frame ends, settings and restarts -/

section Pipeline

variable {s : State} {p : Nat} (lt : p < 2)

include lt

/-- A line trigger that is due and not skipped goes out (R286 to R289). -/
theorem lineTrigger_due {d : Nat} {port : Nat} :
    let c := State.commitTrigger false s p
    let v := c.extrapolate c.now
    let x := v.pipeline p
    v.triggers p = true → x.due = some d → d ≤ fireTime v.now → v.boundPort p = some port →
    let sync := v.frameStarts p x.nextLine
    let next := v.setPipeline p { x with nextLine := x.nextLine + 1, due := none,
                                          period := some (v.localTime v.now / (v.regN (o5003.FRAME_PERIOD_US + p) * 1000)) }
    let w := if sync then next.startFrame p x.nextLine else next
    let sent := w.emit (.trigger port (w.regN (o5003.TRIG_WIDTH_NS + p)) sync)
    (w.pipeline p).triggered.isSome = false ∨ (w.pipeline p).pendingLines < w.regN (o5003.MAX_PENDING + p) →
    (sync && w.diagLineDue p) = false →
    State.lineTrigger p s = ((sent.openWindow p (sent.settingsNow p).exposure false).addLine p .due).closeFull p := by
  intro c v x triggers due reached bound sync next w sent room noDiag
  have takes : ¬(2 ≤ p ∨ v.triggers p = false ∨ x.due.all (fun d => decide (fireTime v.now < d)) = true) := by
    rw [triggers, due]
    simp [lt, reached]
  have sends : ¬((w.pipeline p).triggered.isSome = true ∧ w.regN (o5003.MAX_PENDING + p) ≤ (w.pipeline p).pendingLines) := by
    rintro ⟨inFrame, full⟩
    rcases room with none | few
    · exact absurd (inFrame.symm.trans none) (by decide)
    · omega
  unfold State.lineTrigger
  refine (if_neg takes).trans ?_
  rw [bound]
  refine (if_neg sends).trans ?_
  refine (if_neg (Bool.eq_false_iff.1 noDiag)).trans ?_
  rw [noDiag]

/-- Pending settings are written when the next sync is far enough, or has come (R292 to R294). -/
theorem startWrite_ready {g : Settings} {port : Nat} (pending : (s.pipeline p).pending = some g)
    (free : (s.pipeline p).write = none) (bound : s.boundPort p = some port) (sees : s.cameraState p ≠ 4)
    (ready : (s.pipeline p).syncCame = true ∨ (s.pipeline p).waitSync = false ∧ (∀ u, s.timeToSync p = some u →
      s.writeTime p (s.settingsWrites p g) + s.regN o5002.WRITE_GUARD_US * 1000 ≤ u)) :
    State.startWrite p s =
      let tr := s.settingsWrites p g
      let v := s.setPipeline p { s.pipeline p with pending := none, syncCame := false, write := some tr }
      if tr.writes.isEmpty then v.settingsWritten p tr
      else v.emit (.i2c port (s.regN (o5000.I2C_ADDR + port)) tr.writes) := by
  have waits (unsynced : (s.pipeline p).syncCame = false) := ready.resolve_left (by rw [unsynced]; decide)
  have writes (far : Bool) (isFar : (s.pipeline p).syncCame = false → far = true) :
      ¬(2 ≤ p ∨ s.cameraState p = 4 ∨ ((s.pipeline p).syncCame = false ∧ ((s.pipeline p).waitSync = true ∨ far = false))) := by
    rintro (beyond | blind | ⟨unsynced, waiting | near⟩)
    · omega
    · exact sees blind
    · exact absurd (waiting.symm.trans (waits unsynced).1) (by decide)
    · exact absurd ((isFar unsynced).symm.trans near) (by decide)
  unfold State.startWrite
  dsimp only
  rw [pending, free, bound]
  dsimp only
  cases sync : s.timeToSync p with
  | none => exact if_neg (writes true fun _ => rfl)
  | some u => exact if_neg (writes _ fun unsynced => decide_eq_true ((waits unsynced).2 u sync))

/-- The end of a settings transaction (R294, R297, R298). -/
theorem writeDone_writing {tr : Transaction} (writing : (s.pipeline p).write = some tr) (acknowledged : Bool) :
    State.writeDone p acknowledged s =
      let x := s.pipeline p
      let u := s.setPipeline p { x with failures := x.failures + 1, write := some { tr with tries := tr.tries + 1 } }
      if acknowledged then s.settingsWritten p tr
      else if 10 ≤ x.failures + 1 ∧ s.cameraState p = 2 then u.restartPort p
      else if tr.tries + 1 < 3 then
        match s.boundPort p with
        | some port => u.emit (.i2c port (s.regN (o5000.I2C_ADDR + port)) tr.writes)
        | none => u
      else
        (((u.mapPipeline p fun x =>
          { x with write := none, waitSync := true, pending := (match x.pending with | some g => some g | none => some tr.settings),
                   frames := x.frames.map fun f => if f.closed then f else f.flag 6 }).incReg
            (o5004.CONTROL_FAULTS + p)).raise 68 p 0 21) := by
  unfold State.writeDone
  dsimp only
  rw [writing]
  exact if_neg (Nat.not_le.2 lt)

/-- A closed frame that has all its lines leaves the pipeline with its record, and its buffer by its ring (R290). -/
theorem endFrame_closed {f : Frame} {rest : List Frame} (first : (s.pipeline p).frames = f :: rest) (closed : f.closed = true)
    (complete : f.slots.length ≤ f.lines.length) :
    State.endFrame p s =
      let g := (s.pipeline p).settingsOf f.number
      let told := if (s.pipeline p).uncertain.contains (f.number : Int) then f.flag 7 else f
      let u := ((s.setPipeline p { s.pipeline p with frames := rest }).incReg (o5004.FRAMES + p)).setRegN
        (o5002.APPLIED_GEN + p) g.number
      let kept := u.mapPipeline p fun x =>
        { x with held := (x.held.filter u.isHeld) ++ [{ inspected := decide (ringSlots (5 + p) ≤ u.ringEntries (5 + p)),
                                                         released := false, frame := told, settings := g }] }
      let v := match told.buffer with
        | none => u
        | some b => kept.ringPut (5 + p) (kept.frameDescriptor p told g b)
      v.ringPut 7 (v.frameRecord p told g) := by
  have ends : ¬(2 ≤ p ∨ f.closed = false ∨ f.lines.length < f.slots.length) := by
    rintro (beyond | open_ | short)
    · omega
    · exact absurd (closed.symm.trans open_) (by decide)
    · omega
  unfold State.endFrame
  dsimp only
  rw [first]
  exact if_neg ends

end Pipeline

/-- Settles O18. -/
theorem cameraPipelineEventsTakeEffect : Obligations.CameraPipelineEventsTakeEffect := by
  intro s t p alive lt
  refine ⟨?trigger, ?frame, ?start, ?done, ?lanes, ?ready, ?late⟩
  case trigger =>
    intro d port c v x triggers due reached bound sync next w sent room noDiag
    show execCameraLineTrigger t p s = _
    exact runOn_effect alive (lineTrigger_due (s := s.tick t) lt triggers due reached bound room noDiag)
  case frame =>
    intro f rest first closed complete g told u held v
    show execFrameEnd t p s = _
    exact runOn_effect alive (endFrame_closed (s := s.tick t) lt first closed complete)
  case start =>
    intro g port pending free bound sees tr ready v
    show execCameraI2cStart t p s = _
    exact runOn_effect alive (startWrite_ready (s := s.tick t) lt pending free bound sees ready)
  case done =>
    intro tr writing
    have ends {acknowledged : Bool} {v : State} (effect : State.writeDone p acknowledged (s.tick t) = v) :
        exec (.cameraI2cDone t p acknowledged) s = .next (v.sealed s t) := by
      show execCameraI2cDone t p acknowledged s = _
      exact runOn_effect alive effect
    have done (acknowledged : Bool) := writeDone_writing (s := s.tick t) lt writing acknowledged
    refine ⟨ends ((done true).trans (if_pos rfl)), ?_⟩
    intro x u
    have failed := (done false).trans (if_neg (by decide))
    refine ⟨fun many runs => ?_, fun port few again bound => ?_, fun few last => ?_⟩
    · exact ends (failed.trans (if_pos ⟨many, runs⟩))
    · have bound' : (s.tick t).boundPort p = some port := bound
      refine ends (failed.trans ((if_neg fun h => Nat.not_le.2 few h.1).trans ((if_pos again).trans ?_)))
      rw [bound']
      rfl
    · exact ends (failed.trans ((if_neg fun h => Nat.not_le.2 few h.1).trans (if_neg (Nat.not_lt.2 last))))
  case lanes =>
    intro mbps waits
    have startsUp : ¬(2 ≤ p ∨ (s.tick t).cameraState p ≠ 1) := by
      rintro (beyond | other)
      · omega
      · exact other waits
    show execCameraLanesReady t p mbps s = _
    exact runOn_effect alive (if_neg startsUp)
  case ready =>
    intro mbps restarts inTime
    have restarting : ¬(2 ≤ p ∨ (s.tick t).cameraState p ≠ 3) := by
      rintro (beyond | other)
      · omega
      · exact other restarts
    show execCameraRestartEnd t p true mbps s = _
    exact runOn_effect alive ((if_neg restarting).trans ((if_pos rfl).trans (if_pos (decide_eq_true inTime))))
  case late =>
    intro ready mbps restarts late
    have restarting : ¬(2 ≤ p ∨ (s.tick t).cameraState p ≠ 3) := by
      rintro (beyond | other)
      · omega
      · exact other restarts
    have over_ : ¬decide ((s.tick t).now ≤ ((s.tick t).pipeline p).restarts.headD 0 + 20000000) = true := by
      rw [decide_eq_true_iff]
      exact Nat.not_le.2 late
    show execCameraRestartEnd t p ready mbps s = _
    refine runOn_effect alive ((if_neg restarting).trans ?_)
    cases ready with
    | true => exact (if_pos rfl).trans (if_neg over_)
    | false => exact (if_neg (by decide)).trans (if_neg over_)

end Sys2Proof
end

section
/-! PROOFS. Chapters 11 and 12: inspection and the light. -/
namespace Sys2Proof

open Sys2Proof.Machine Sys2Proof.Laws

/-! ### Inspection -/

section Inspection

variable {s : State} {p : Nat} (lt : p < 2) (running : s.sys.inspection.state = .running)

include lt running

/-- Inspection takes the next frame of its ring, and analyses it if it can be used (R306, R307). -/
theorem frameAnalysis_taken {ws : List Nat} {u : State} {h : HeldFrame} (island : s.regionLost 21 = false)
    (taken : State.takeSlot 64 (5 + p) 4 s = (some ws, u))
    (held : ((u.pipeline p).held.find? fun x => x.frame.number == bits (ws.getD 0 0) 63 32 && !x.inspected) = some h) :
    State.frameAnalysis p s =
      let free (q : HeldFrame) : HeldFrame :=
        if q.frame.number = bits (ws.getD 0 0) 63 32 then { q with inspected := true } else q
      let v := u.mapPipeline p fun x => { x with held := (x.held.map free).filter u.isHeld }
      if (v.inspecting p).blind ≠ 0 ∨ bit h.frame.flags 7 = true ∨ bit h.frame.flags 0 = true then v
      else v.analyse p h.frame h.settings := by
  have inspects : ¬(2 ≤ p ∨ s.sys.inspection.state ≠ .running ∨ s.regionLost 21 = true) := by
    rintro (beyond | stopped | lost)
    · omega
    · exact stopped running
    · exact absurd (lost.symm.trans island) (by decide)
  unfold State.frameAnalysis
  rw [if_neg inspects, taken]
  dsimp only
  rw [held]

variable (sees : (s.inspecting p).blind = 0)

include sees

omit lt running in
/-- A pipeline that sees is not blind. -/
theorem notBlind (lt : p < 2) (running : s.sys.inspection.state = .running) :
    ¬(2 ≤ p ∨ s.sys.inspection.state ≠ .running ∨ (s.inspecting p).blind ≠ 0) := by
  rintro (beyond | stopped | blind)
  · omega
  · exact stopped running
  · exact blind sees

/-- A confirmed streak with enough samples is named (R312). -/
theorem nameEval_confirmed {x : Nat} {k : Streak} {ms : List Sample}
    (streak : ((s.inspecting p).streaks.find? fun k => k.pixel == x && !k.excess && k.confirmed && !k.settled) = some k)
    (tracked : k.tracked.window ≠ none) (samples : s.namingSamples p k = some ms) :
    State.nameEval p x s = s.judgeName p k ms := by
  unfold State.nameEval
  rw [if_neg (notBlind sees lt running), streak]
  dsimp only
  rw [if_neg (fun none => tracked (Option.isNone_iff_eq_none.1 none)), samples]

/-- A recheck whose probe has been seen to its end is judged (R317). -/
theorem recheckProbation_seen {r : Recheck} {a b : Int} (due : s.inspect.recheck = some r) (mine : r.pipeline = p)
    (probe : r.probe = some (a, b)) (seen : b ≤ s.webLine (s.inspecting p).seenTo) :
    State.recheckProbation p r.nozzle s = s.judgeRecheck r a b := by
  unfold State.recheckProbation
  rw [if_neg (notBlind sees lt running), due]
  dsimp only
  rw [if_neg (by simp [mine]), probe]
  exact if_pos seen

/-- A nozzle out for its own fault is checked again once its time has come (R317). -/
theorem recheckProbation_due {n : Nat} (idle : s.inspect.recheck = none) (out : stateIn s.health.inForce n = 2)
    (cause : causeIn s.health.inForce n = 3) (fitted : s.nozzleFitted n = true) (column : s.seesColumn p (namedOf n).column = true)
    (probeIdle : s.probeIdle = true)
    (late : (match s.inspect.checked.find? fun c => c.1 == n with
      | some c => c.2
      | none => s.sys.releasedAt) + s.regN o5201.RECHECK_MIN * 60000000000 ≤ s.now) :
    State.recheckProbation p n s = s.startRecheck p n := by
  unfold State.recheckProbation
  rw [if_neg (notBlind sees lt running), idle]
  exact if_pos ⟨out, cause, fitted, column, probeIdle, late⟩

end Inspection

/-- Settles O19. -/
theorem inspectionEventsTakeEffect : Obligations.InspectionEventsTakeEffect := by
  intro s t p alive lt running
  refine ⟨?frame, ?name, ?judge, ?again⟩
  case frame =>
    intro ws u h island taken held free v
    show execFrameAnalysis t p s = _
    exact runOn_effect alive (frameAnalysis_taken (s := s.tick t) lt running island taken held)
  case name =>
    intro x k ms sees streak tracked samples
    show execNameEval t p x s = _
    exact runOn_effect alive (nameEval_confirmed (s := s.tick t) lt running sees streak tracked samples)
  case judge =>
    intro r a b sees due mine probe seen
    show execProbationRecheck t p r.nozzle s = _
    exact runOn_effect alive (recheckProbation_seen (s := s.tick t) lt running sees due mine probe seen)
  case again =>
    intro n sees idle out cause fitted column probeIdle late
    show execProbationRecheck t p n s = _
    exact runOn_effect alive (recheckProbation_due (s := s.tick t) lt running sees idle out cause fitted column probeIdle late)

/-! ### The light -/

section Light

variable {s : State} {p : Nat} (lt : p < 2)

/-- The row that the window of a frame opens next is pulsed (R325 to R328). -/
theorem lightPulse_granted {w : Exposure} {row ns : Nat} {rest : List (Nat × Nat)} (rows : row < 8) (mine : row / 4 = p)
    (granted : s.granted = some p) (free : s.columnsFree = true) (triggers : s.triggers p = true)
    (window : (s.lamp p).window = some w) (next : w.rows = (row, ns) :: rest) :
    State.lightPulse row s = (s.setLamp p { s.lamp p with window := some { w with rows := rest } }).startPulse row ns := by
  subst mine
  have pulses : ¬(8 ≤ row ∨ s.granted ≠ some (row / 4) ∨ s.columnsFree = false ∨ s.triggers (row / 4) = false) := by
    simp [rows, granted, free, triggers]
  unfold State.lightPulse
  dsimp only
  rw [if_neg pulses, window]
  dsimp only
  rw [next]
  exact if_neg (not_not_intro rfl)

include lt

/-- The next row of a restore test is pulsed in a gap (R338). -/
theorem diagPulse_testing {row : Nat} {rest : List Nat} {seen : List (Nat × Nat)} (free : s.columnsFree = true)
    (state : s.lampState p = 4) (testing : (s.lamp p).testing = some (row :: rest, seen))
    (gap : (if s.triggers p then s.gapNow p else decide ((s.lamp p).testedAt = 0 ∨ (s.lamp p).testedAt + 10000 ≤ s.now)) = true) :
    State.diagPulse p s =
      (s.setLamp p { s.lamp p with testing := some (rest, seen), testedAt := s.now }).startPulse row 500 := by
  unfold State.diagPulse
  dsimp only
  rw [if_neg (by simp [lt, free]), if_pos state, testing]
  exact if_pos gap

/-- The next row in turn is diagnosed once enough lines have passed (R332). -/
theorem diagPulse_due {row : Nat} (free : s.columnsFree = true) (state : s.lampState p = 1) (triggers : s.triggers p = true)
    (lines : s.regN o5400.DIAG_PERIOD_LINES ≤ (s.lamp p).lines) (gap : s.gapNow p = true)
    (next : nextInTurn (s.diagRows p) (s.lamp p).lastRow = some row) :
    State.diagPulse p s = (s.setLamp p { s.lamp p with lines := 0, gapless := 0, lastRow := row }).startPulse row 500 := by
  unfold State.diagPulse
  dsimp only
  rw [if_neg (by simp [lt, free]), if_neg (by omega), if_pos ⟨state, triggers, lines, gap⟩, next]

omit lt in
/-- A segment is measured late enough in its pulse; a finding counts when it comes again (R333 to R335). -/
theorem measureSegment_inPulse {column current drain : Nat} {q : Pulse} (pulse : s.light.pulse = some q) (long : 500 ≤ q.span)
    (settled : q.start + 400 ≤ s.now) (ends : s.now ≤ q.start + 500) (fitted : s.lampColumns.contains column = true)
    (testing : (s.lamp (q.row / 4)).testing = none) :
    State.measureSegment column current drain s =
      let seg := 16 * q.row + column
      let found := s.segmentFinding column (s.lamp (q.row / 4)).current current drain
      let before_ := s.light.suspect.find? fun e => e.1 == seg
      let rest := s.light.suspect.filter fun e => e.1 != seg
      let put := fun (l : List (Nat × Nat)) => { s.incReg o5403.DIAG_DONE with light := { s.light with suspect := l } }
      if found = 0 then put rest
      else if before_ = some (seg, found) then (put rest).segmentFailed seg
      else (put ((seg, found) :: rest)).incReg o5403.DIAG_SUSPECT := by
  have measures : ¬(q.span < 500 ∨ s.now < q.start + 400 ∨ q.start + 500 < s.now ∨ s.lampColumns.contains column = false) := by
    rw [fitted]
    rintro (short | early | late | unfitted)
    · omega
    · omega
    · omega
    · cases unfitted
  unfold State.measureSegment
  rw [pulse]
  dsimp only
  rw [if_neg measures, testing]
  rfl

omit lt in
/-- A column whose current is beyond its bound turns the whole light off (R337). -/
theorem columnFault_bad {column current : Nat} (fitted : s.lampColumns.contains column = true)
    (bad : (match s.light.pulse with
      | some q => if s.now < q.start + q.span
        then decide (125 * s.regN (o5401.COL_CURRENT_MA + column) * (s.lamp (q.row / 4)).current < 1600 * current)
        else decide (s.regN (o5401.COL_CURRENT_MA + column) < 10 * current)
      | none => decide (s.regN (o5401.COL_CURRENT_MA + column) < 10 * current)) = true) :
    State.columnFault column current s =
      ((((((s.lampOff 0).lampOff 1).emit (.lightOff 2)).setRegBit o5403.FAILED_COLUMNS column true).setLampState
        0 2).setLampState 1 2).raise 76 (0xFF00 + column) 1 20 true := by
  have faults {bad : Bool} (isBad : bad = true) : ¬(s.lampColumns.contains column = false ∨ bad = false) := by
    rw [fitted, isBad]
    decide
  unfold State.columnFault
  dsimp only
  cases pulse : s.light.pulse with
  | none =>
    rw [pulse] at bad
    exact if_neg (faults bad)
  | some q =>
    rw [pulse] at bad
    refine if_neg (faults ?_)
    by_cases on : s.now < q.start + q.span
    · dsimp only at bad ⊢
      rw [if_pos on] at bad ⊢
      exact bad
    · dsimp only at bad ⊢
      rw [if_neg on] at bad ⊢
      exact bad

omit lt in
/-- The end of a restore test that has seen every segment twice (R338, R340). -/
theorem testDone_seen {seen : List (Nat × Nat)} (testing : (s.lamp p).testing = some ([], seen)) (state : s.lampState p = 4)
    (twice : (((s.lampRows p).flatMap fun i => s.lampColumns.map fun j => 16 * i + j).any fun g =>
      decide (((seen.filter fun e => e.1 == g).map fun e => e.2).length < 2)) = false) :
    State.testDone p s =
      let segs := (s.lampRows p).flatMap fun i => s.lampColumns.map fun j => 16 * i + j
      let failed := segs.filter fun g => failsTwice ((seen.filter fun e => e.1 == g).map fun e => e.2)
      let shown := (s.setLamp p { s.lamp p with testing := none }).setRegN (o5403.FAILED_SEGMENTS + p)
        (failed.foldl (fun w g => setBit w (g % 64) true) 0)
      let clear := shown.setRegN o5403.FAILED_COLUMNS 0
      if failed.isEmpty then (clear.setLampState p (if clear.flag (o5400.ENABLE + p) = false then 0
        else if (s.lamp p).hot then 3 else 1)).raise 77 p 0 20
      else shown.setLampState p 2 := by
  unfold State.testDone
  dsimp only
  rw [testing]
  exact if_neg (by rw [twice]; simp [state])

/-- A thermistor reading within its range derates the light by its temperature (R340 to R342). -/
theorem readNtc_valid {reading : Int} (low : -400 ≤ reading) (high : reading ≤ 1500) :
    State.readNtc p reading s =
      let shown := (s.setReg (o5402.LIGHT_TEMP + p) reading).setLamp p { s.lamp p with invalidAt := none }
      let k := shown.derateFrom (shown.regN (o5402.DERATE + p)) reading
      if shown.derateOk p k then
        (if k ≠ shown.regN (o5402.DERATE + p) ∨ (shown.lamp p).hot = true then shown.derate p k else shown).lampCool p
      else (shown.setRegN (o5402.DERATE + p) k).lampHot p :=
  (if_neg (Nat.not_le.2 lt)).trans (if_neg (by omega))

/-- A thermistor reading outside its range turns the light off after 100 ms (R342). -/
theorem readNtc_invalid {reading : Int} (invalid : reading < -400 ∨ 1500 < reading) :
    State.readNtc p reading s =
      let since := (s.lamp p).invalidAt.getD s.now
      let shown := (s.setReg (o5402.LIGHT_TEMP + p) (-32768)).setLamp p { s.lamp p with invalidAt := some since }
      if since + 100000000 ≤ s.now then shown.lampHot p else shown :=
  (if_neg (Nat.not_le.2 lt)).trans (if_pos invalid)

end Light

/-- Settles O20. -/
theorem lightEventsTakeEffect : Obligations.LightEventsTakeEffect := by
  intro s t p alive lt
  refine ⟨?pulse, ?test, ?diag, ?measure, ?column, ?done, ?valid, ?invalid⟩
  case pulse =>
    intro w row ns rest rows mine granted free triggers window next
    show execLightPulse t row s = _
    exact runOn_effect alive (lightPulse_granted (s := s.tick t) rows mine granted free triggers window next)
  case test =>
    intro row rest seen free state testing gap
    show execDiagPulse t p s = _
    exact runOn_effect alive (diagPulse_testing (s := s.tick t) lt free state testing gap)
  case diag =>
    intro row free state triggers lines gap next
    show execDiagPulse t p s = _
    exact runOn_effect alive (diagPulse_due (s := s.tick t) lt free state triggers lines gap next)
  case measure =>
    intro column current drain q pulse long settled ends fitted seg found before_ rest put testing
    show execSegmentMeasure t column current drain s = _
    exact runOn_effect alive (measureSegment_inPulse (s := s.tick t) pulse long settled ends fitted testing)
  case column =>
    intro column current fitted bad
    show execLightColumnFault t column current s = _
    exact runOn_effect alive (columnFault_bad (s := s.tick t) fitted bad)
  case done =>
    intro seen testing state segs seenOf failed twice shown clear
    show execLightTestDone t p s = _
    exact runOn_effect alive (testDone_seen (s := s.tick t) testing state twice)
  case valid =>
    intro reading low high shown k
    show execNtcRead t p reading s = _
    exact runOn_effect alive (readNtc_valid (s := s.tick t) lt low high)
  case invalid =>
    intro reading invalid since shown
    show execNtcRead t p reading s = _
    exact runOn_effect alive (readNtc_invalid (s := s.tick t) lt invalid)

end Sys2Proof
end

section
/-! PROOFS. Chapter 13: motion descriptors and the events of an axis. -/
namespace Sys2Proof

open Sys2Proof.Machine Sys2Proof.Laws

/-! ### Motion descriptors -/

section RingMotion

variable {s u : State} {t n op : Nat} {ws : List Nat}

/-- The next descriptor of ring 12 is carried out when nothing of Table 13-3 refuses it (R350). -/
theorem motionCommand_ring (alive : Alive s) (lt : n < 4) (running : s.sys.motion.state = .running)
    (taken : State.takeSlot 256 12 4 (s.tick t) = (some ws, u)) (mine : (readMotion (octetsOfWords ws)).axis = n)
    (allowed : u.ringRefusal (readMotion (octetsOfWords ws)) (motionReserved (octetsOfWords ws)) = 0)
    (isOp : (readMotion (octetsOfWords ws)).op = op) :
    State.motionCommand op t n .ring s = .next ((u.runMotion n (readMotion (octetsOfWords ws))).sealed s t) := by
  refine runOn_effect alive ((if_pos lt).trans ?_)
  have running' : ¬(s.tick t).sys.motion.state ≠ .running := not_not_intro running
  unfold State.ringMotion
  rw [if_neg running', taken]
  refine (if_pos ⟨mine, ?_⟩).trans (if_neg (not_not_intro allowed))
  simp [isOp]

end RingMotion

/-- Settles O21. -/
theorem ringMotionCommandsTakeEffect : Obligations.RingMotionCommandsTakeEffect := by
  intro s t n ws u alive lt running taken m mine allowed
  refine ⟨fun op => ?_, fun op => ?_, fun op => ?_, fun op => ?_, fun op => ?_, fun op => ?_, fun op => ?_⟩
  · show execMoveAbs t n .ring s = _
    exact motionCommand_ring alive lt running taken mine allowed op
  · show execMoveRel t n .ring s = _
    exact motionCommand_ring alive lt running taken mine allowed op
  · show execVelocity t n .ring s = _
    exact motionCommand_ring alive lt running taken mine allowed op
  · show execStop t n .ring s = _
    exact motionCommand_ring alive lt running taken mine allowed op
  · show execHome t n .ring s = _
    exact motionCommand_ring alive lt running taken mine allowed op
  · show execEnable t n .ring s = _
    exact motionCommand_ring alive lt running taken mine allowed op
  · show execDisable t n .ring s = _
    exact motionCommand_ring alive lt running taken mine allowed op

/-! ### Events of an axis -/

section AxisEvents

variable {s : State} {n : Nat} (lt : n < 4)

/-- The step within the electrical cycle, and whether it is a whole one; a drive outside the chip has none. -/
def microstepOf (u : State) (n : Nat) : State × Bool := if u.axisExternal n then (u, false) else u.microstep n

/-- A whole step sets the current, and may find a stall. -/
def fullStepOf (v : State) (n duty : Nat) (whole : Bool) : State × Bool := if whole then v.fullStep n duty else (v, false)

/-- The state of a conditional pair. -/
theorem microstepOf_fst (u : State) : (microstepOf u n).1 = if u.axisExternal n then u else (u.microstep n).1 := by
  unfold microstepOf
  split <;> rfl

/-- The flag of a conditional pair. -/
theorem microstepOf_snd (u : State) : (microstepOf u n).2 = if u.axisExternal n then false else (u.microstep n).2 := by
  unfold microstepOf
  split <;> rfl

theorem fullStepOf_fst (v : State) (duty : Nat) (whole : Bool) :
    (fullStepOf v n duty whole).1 = if whole then (v.fullStep n duty).1 else v := by
  unfold fullStepOf
  split <;> rfl

theorem fullStepOf_snd (v : State) (duty : Nat) (whole : Bool) :
    (fullStepOf v n duty whole).2 = if whole then (v.fullStep n duty).2 else false := by
  unfold fullStepOf
  split <;> rfl

include lt

/-- A step that is due, outside LEARN and the last phase of homing (R347 to R349, R363, R364). -/
theorem axisStep_due {duty : Nat} (moving : (s.axis n).moving = true) (due : (s.axis n).due ≤ s.now)
    (island : s.islandLost 11 = false) :
    let v := (microstepOf (s.stepPulse n) n).1
    let whole := (microstepOf (s.stepPulse n) n).2
    (v.axis n).learning = none → (v.axis n).homing ≠ 3 →
    let w := (fullStepOf v n duty whole).1
    let x := if (fullStepOf v n duty whole).2 = true ∧ (w.axis n).stop ≠ 7 then w.axisStall n else w
    State.axisStep n duty s =
      if (v.axis n).arrived then v.standStill n
      else if (x.axis n).moving = false then x
      else (x.setAxis n ((x.axis n).afterStep (x.startSpeed n)
        (if (x.axis n).accel ≠ 0 then (x.axis n).accel else x.axisReg n o6000.ACCEL))).showAxis n := by
  intro v whole idle homing w x
  have steps : ¬(4 ≤ n ∨ (s.axis n).moving = false ∨ s.now < (s.axis n).due ∨ s.islandLost 11 = true) := by
    rw [moving, island]
    rintro (beyond | still | early | lost)
    · omega
    · cases still
    · omega
    · cases lost
  have notLearning : v.learnStep n duty whole = v := by
    simp only [State.learnStep, idle]
  have notHoming : (if (v.axis n).homing = 3 ∧ (v.axis n).final = false ∧ v.axisReg n o6000.HOME_MAX_STEPS ≤ (v.axis n).travelled then
      (v.beginStop n (v.axis n).decel 0 (.finish 5)).homeFailed n else v) = v := if_neg fun h => homing h.1
  refine (if_neg steps).trans ?_
  show (let r := v.learnStep n duty whole
    let r := if (r.axis n).homing = 3 ∧ (r.axis n).final = false ∧ r.axisReg n o6000.HOME_MAX_STEPS ≤ (r.axis n).travelled then
        (r.beginStop n (r.axis n).decel 0 (.finish 5)).homeFailed n else r
    if (r.axis n).arrived then r.standStill n
    else
      let y := fullStepOf r n duty whole
      let r := if y.2 = true ∧ (y.1.axis n).stop ≠ 7 then y.1.axisStall n else y.1
      if (r.axis n).moving = false then r
      else (r.setAxis n ((r.axis n).afterStep (r.startSpeed n)
        (if (r.axis n).accel ≠ 0 then (r.axis n).accel else r.axisReg n o6000.ACCEL))).showAxis n) = _
  rw [notLearning]
  dsimp only
  rw [notHoming]

/-- A chop cycle in its on time ends once the current is above its bound (R360). -/
theorem chop_on {phase current mean : Nat} (two : phase < 2) (inside : s.axisExternal n = false)
    (mode : ((s.axis n).chopper phase).mode = 1)
    (blank : ((s.axis n).chopper phase).since + s.regN (o6011.CHOP_BLANK_NS + 256 * n) ≤ s.now)
    (above : 2 * (((s.setpoint n phase (s.axis n).entry).natAbs : Int) + s.reg (o6011.OFFSET_MA + 256 * n)) +
      s.reg (o6011.HYST_MA + 256 * n) < 2 * (current : Int)) :
    State.chop n phase current mean s = s.setBridge n phase 2 := by
  unfold State.chop
  dsimp only
  rw [if_neg (by simp [lt, two, inside]), mode]
  exact if_pos ⟨blank, above⟩

/-- A chop cycle in its off time begins anew once the current is below its bound (R361). -/
theorem chop_off {phase current mean : Nat} (two : phase < 2) (inside : s.axisExternal n = false)
    (mode : ((s.axis n).chopper phase).mode = 2 ∧
      ((s.axis n).chopper phase).since + s.regN (o6011.OFF_MIN_NS + 256 * n) ≤ s.now ∨ ((s.axis n).chopper phase).mode = 3)
    (below : 2 * (current : Int) < 2 * (((s.setpoint n phase (s.axis n).entry).natAbs : Int) + s.reg (o6011.OFFSET_MA + 256 * n)) -
      s.reg (o6011.HYST_MA + 256 * n)) :
    State.chop n phase current mean s = (s.chopDone n phase mean).setBridge n phase 1 := by
  unfold State.chop
  dsimp only
  rw [if_neg (by simp [lt, two, inside])]
  rcases mode with ⟨mode, off⟩ | mode
  · rw [mode]
    exact if_pos ⟨off, below⟩
  · rw [mode]
    exact if_pos below

/-- The current falls to its hold value once the axis has stood long enough (R362). -/
theorem holdCurrent_still (still : (s.axis n).moving = false) (first : (s.axis n).held = false)
    (inside : s.axisExternal n = false) (on : bit (s.axisReg n o6000.STATUS) 0 = true)
    (long : (s.axis n).lastStep + s.regN (o6011.HOLD_DELAY_MS + 256 * n) * 1000000 ≤ s.now) :
    State.holdCurrent n s = (s.setAxis n { s.axis n with held := true }).setRegN (o6011.CURRENT_MA + 256 * n)
      (s.regN (o6011.I_HOLD_MA + 256 * n)) :=
  if_neg (by simp [lt, still, first, inside, on, long])

/-- LEARN that has run through its speeds keeps its table (R366). -/
theorem learnDone_learnt (learnt : (s.axis n).learning = some 17) (still : (s.axis n).moving = false)
    (island : s.islandLost 11 = false) :
    State.learnDone n s = { s.setAxis n { s.axis n with learning := none, duties := [] } with
      flash := { s.flash with duty := (n, (s.axis n).duties.map (meanOpen 3651)) :: s.flash.duty.filter fun e => e.1 != n } } := by
  have lost : ¬(s.setAxis n { s.axis n with learning := none, duties := [] }).islandLost 11 = true := by
    show ¬s.islandLost 11 = true
    rw [island]
    decide
  unfold State.learnDone
  dsimp only
  rw [if_neg (by simp [lt, learnt, still]), if_neg lost]
  rfl

/-- A drive fault turns the drive off and loses the position (R367). -/
theorem driveFault_beyond {figures : List Nat} (on : bit (s.axisReg n o6000.STATUS) 0 = true)
    (beyond : (if s.axisExternal n then figures.any fun x => decide (10000 ≤ x)
      else decide (2 ≤ figures.length) && figures.all fun i => decide (3 * s.regN (o6011.I_MAX_MA + 256 * n) < 2 * i)) = true) :
    State.driveFault n figures s =
      let u := (((s.driveOff n).endCommand n 6).setHomed n false).raise 93 n 1 20
      if u.axisPaces n then u.pacingLost else u := by
  refine if_neg ?_
  rintro (beyondTable | off | within)
  · omega
  · exact absurd (on.symm.trans off) (by decide)
  · exact absurd (beyond.symm.trans within) (by decide)

end AxisEvents

section LimitInputs

variable {s : State} {n i first : Nat} {high : Bool} (lt : i < 8)

include lt

section Edges

variable (mapped : bit (s.regN (o6010.LIM_MAP + i)) 7 = true) (held : first + s.regN o6010.LIM_FILTER_NS ≤ s.now)

include mapped held

omit mapped held in
/-- A mapped input whose level has held is looked at. -/
theorem limitHeld (mapped : bit (s.regN (o6010.LIM_MAP + i)) 7 = true) (held : first + s.regN o6010.LIM_FILTER_NS ≤ s.now) :
    ¬(8 ≤ i ∨ bit (s.regN (o6010.LIM_MAP + i)) 7 = false ∨ s.now < first + s.regN o6010.LIM_FILTER_NS) := by
  rw [mapped]
  rintro (beyond | unmapped | early)
  · omega
  · cases unmapped
  · omega

/-- A limit input that becomes active trips its axis (R358, R359). -/
theorem limitEdge_trips (rest : bit (s.regN o6010.LIM_STATE) i = false) (mine : bits (s.regN (o6010.LIM_MAP + i)) 3 2 = n)
    (active : (high != bit (s.regN (o6010.LIM_MAP + i)) 6) = true) :
    State.limitEdge i first high s =
      let limits := s.axes.limits.set i { first := first, idle := none }
      let tripped := ({ s with axes := { s.axes with limits := limits } }).setRegBit o6010.LIM_STATE i true
      let latched := tripped.setRegN (o6010.LATCH + i) (place (unsigned 32 (tripped.positionAt n first)) 63 32 + first % 2 ^ 32)
      (latched.tripAxis n i (bit (s.regN (o6010.LIM_MAP + i)) 1) (tripped.positionAt n first)).showAxis n := by
  subst mine
  unfold State.limitEdge
  exact (if_neg (limitHeld lt mapped held)).trans ((if_neg (Bool.eq_false_iff.1 rest)).trans (if_pos active))

/-- An edge while the input is active only moves its rest, and counts as chatter soon after the first. -/
theorem limitEdge_again {l : LimitInput} (state : bit (s.regN o6010.LIM_STATE) i = true) (input : s.axes.limits[i]? = some l) :
    State.limitEdge i first high s =
      let u := { s with axes := { s.axes with limits := s.axes.limits.set i { l with
        idle := if high != bit (s.regN (o6010.LIM_MAP + i)) 6 then none else some first } } }
      if first < l.first + s.regN o6010.DEBOUNCE_US * 1000 then u.incReg o6010.CHATTER_EDGES else u := by
  have found : s.axes.limits.getD i { first := 0, idle := none } = l := by
    rw [List.getD_eq_getElem?_getD, input]
    rfl
  unfold State.limitEdge
  rw [found]
  exact (if_neg (limitHeld lt mapped held)).trans (if_pos state)

end Edges

/-- An input that has rested long enough is released, and homing may then seek it (R359, R365). -/
theorem limitRelease_rested {l : LimitInput} {since : Nat} (input : s.axes.limits[i]? = some l) (rests : l.idle = some since)
    (state : bit (s.regN o6010.LIM_STATE) i = true) (long : since + s.regN o6010.DEBOUNCE_US * 1000 ≤ s.now)
    (mine : bits (s.regN (o6010.LIM_MAP + i)) 3 2 = n) :
    State.limitRelease i s =
      let up := bit (s.regN (o6010.LIM_MAP + i)) 1
      let u := s.setRegBit o6010.LIM_STATE i false
      let seek := u.beginStop n (u.axis n).decel 0 .seek
      if (u.axis n).homing = 1 ∧ (u.axisReg n o6000.HOME_DIR == 1) = up ∧ u.limitTripped n up = false
        then (seek.setAxis n { seek.axis n with homing := 2 }).settleAxis n else u.showAxis n := by
  subst mine
  have released : ¬(8 ≤ i ∨ bit (s.regN o6010.LIM_STATE) i = false ∨ s.now < since + s.regN o6010.DEBOUNCE_US * 1000) := by
    rw [state]
    rintro (beyond | idle | early)
    · omega
    · cases idle
    · omega
  have found : s.axes.limits.getD i { first := 0, idle := none } = l := by
    rw [List.getD_eq_getElem?_getD, input]
    rfl
  unfold State.limitRelease
  dsimp only
  rw [found, rests]
  refine (if_neg released).trans ?_
  simp only [beq_iff_eq]

end LimitInputs

/-- Settles O22. -/
theorem axisEventsTakeEffect : Obligations.AxisEventsTakeEffect := by
  intro s t n alive lt
  refine ⟨?step, ?trip, ?again, ?release, ?chop, ?hold, ?learn, ?fault⟩
  case step =>
    intro duty moving due island u v whole idle homing w stalled x
    have pair : v = (microstepOf u n).1 := (microstepOf_fst u).symm
    have flag : whole = (microstepOf u n).2 := (microstepOf_snd u).symm
    show execAxisStep t n duty s = _
    refine runOn_effect alive ?_
    have steps := axisStep_due (s := s.tick t) (duty := duty) lt moving due island (pair ▸ idle) (pair ▸ homing)
    rw [steps, ← pair, ← flag, fullStepOf_fst, fullStepOf_snd]
  case trip =>
    intro i first high lt8 mapped held rest mine active limits tripped latched
    show execLimitEdge t i first high s = _
    exact runOn_effect alive (limitEdge_trips (s := s.tick t) lt8 mapped held rest mine active)
  case again =>
    intro i first high l lt8 mapped held state input u
    show execLimitEdge t i first high s = _
    exact runOn_effect alive (limitEdge_again (s := s.tick t) lt8 mapped held state input)
  case release =>
    intro i l since lt8 input rests state long mine up u seek
    show execLimitRelease t i s = _
    exact runOn_effect alive (limitRelease_rested (s := s.tick t) lt8 input rests state long mine)
  case chop =>
    intro phase current mean two inside c mid h
    refine ⟨fun mode blank above => ?_, fun mode below => ?_⟩
    · show execChopCycle t n phase current mean s = _
      exact runOn_effect alive (chop_on (s := s.tick t) lt two inside mode blank above)
    · show execChopCycle t n phase current mean s = _
      exact runOn_effect alive (chop_off (s := s.tick t) lt two inside mode below)
  case hold =>
    intro still first inside on long
    show execAxisHoldCurrent t n s = _
    exact runOn_effect alive (holdCurrent_still (s := s.tick t) lt still first inside on long)
  case learn =>
    intro learnt still island
    show execLearnDone t n s = _
    exact runOn_effect alive (learnDone_learnt (s := s.tick t) lt learnt still island)
  case fault =>
    intro figures on beyond u
    show execAxisDriveFault t n figures s = _
    exact runOn_effect alive (driveFault_beyond (s := s.tick t) lt on beyond)

end Sys2Proof
end

section
/-! PROOFS. Chapter 14: the switch and the ring, PTP messages and the clock. -/
namespace Sys2Proof

open Sys2Proof.Machine Sys2Proof.Laws

/-! ### The switch and the ring -/

section Switch

variable {s : State} {f : NetFrame} (on : s.netOn = true) (up : s.portUp f.port = true)

include on up

/-- A frame with a bad FCS is counted and no more (R375). -/
theorem switchFrame_badFcs (bad : f.fcsOk = false) : (s.switchFrame f).2 =
    (s.incReg (o7201.FRAMES_IN + (f.port - 1))).incReg (o7201.FCS_ERRORS + (f.port - 1)) := by
  unfold State.switchFrame
  dsimp only
  rw [if_neg (by simp [on, up]), if_pos bad]

/-- A frame that is neither of PTP nor of the ring is learnt and, unless it is the chip's own, forwarded (R375). -/
theorem switchFrame_plain (good : f.fcsOk = true) (notPtp : isPtp f.data = false) (notRing : isRing f.data = false)
    (long : 14 ≤ f.data.length) (short : f.data.length ≤ 1518) (flows : ¬(s.net.blocked = true ∧ f.port = 2)) :
    (s.switchFrame f).2 =
      let learned := (s.incReg (o7201.FRAMES_IN + (f.port - 1))).learn (frameSrc f.data) f.port
      if frameDst f.data = Config.mac % 2 ^ 48 then learned
      else (learned.egress (frameDst f.data) f.port false).foldl (State.forward f false f.data) learned := by
  have passes : ¬((s.incReg (o7201.FRAMES_IN + (f.port - 1))).net.blocked = true ∧ f.port = 2 ∧
      (isRing f.data && decide (s.regN o7200.RING_ROLE ≠ 0)) = false ∧
      (isPtp f.data && decide (ptpType f.data = 2 ∨ ptpType f.data = 3 ∨ ptpType f.data = 10)) = false) :=
    fun h => flows ⟨h.1, h.2.1⟩
  unfold State.switchFrame
  dsimp only
  rw [if_neg (by simp [on, up]), if_neg (by simp [good]), if_neg (by omega)]
  simp only [notRing, notPtp, Bool.false_and, State.correct, if_true, Bool.or_false, Bool.false_eq_true, if_false]
  rw [if_neg fun h => flows ⟨h.1, h.2.1⟩]
  by_cases mine : frameDst f.data = Config.mac % 2 ^ 48
  · rw [if_pos (beq_iff_eq.2 mine), if_pos mine]
  · rw [if_neg (fun h => mine (beq_iff_eq.1 h)), if_neg mine]

end Switch

/-- Settles O23. -/
theorem switchAndRingEventsTakeEffect : Obligations.SwitchAndRingEventsTakeEffect := by
  intro s t f alive
  refine ⟨?poll, ?bad, ?plain, ?ageing, ?send, ?timeout, ?ring⟩
  case poll =>
    intro p autoNeg phyLink full isPort polled up
    show execPhyPoll t p autoNeg phyLink full s = _
    exact runOn_effect alive (if_pos isPort)
  case bad =>
    intro on up bad
    have switched : ¬(f.fcsOk && (s.tick t).ownRow f) = true := by simp [bad]
    show execSwitchFrameRx t f s = _
    exact runOn_effect alive ((if_neg switched).trans (switchFrame_badFcs (s := s.tick t) on up bad))
  case plain =>
    intro on up good notPtp notRing long short flows learned
    have switched : ¬(f.fcsOk && (s.tick t).ownRow f) = true := by simp [State.ownRow, notPtp, notRing]
    show execSwitchFrameRx t f s = _
    exact runOn_effect alive ((if_neg switched).trans
      (switchFrame_plain (s := s.tick t) on up good notPtp notRing long short flows))
  case ageing =>
    intro mac a _ _ _
    show execAddressAgeing t mac s = _
    exact runOn_effect alive rfl
  case send =>
    intro role on
    show execRingCheckSend t s = _
    exact runOn_effect alive (if_pos ⟨role, on⟩)
  case timeout =>
    intro role on state late
    show execRingCheckTimeout t s = _
    exact runOn_effect alive (if_pos ⟨role, on, state, late⟩)
  case ring =>
    intro on up good ring seen
    have comes (kind : Nat) (isKind : bodyField f.data 0 1 = kind) :
        ¬((s.tick t).netOn = false ∨ (s.tick t).portUp f.port = false ∨ f.fcsOk = false ∨ isRing f.data = false ∨
          bodyField f.data 0 1 ≠ kind) := by
      rintro (off | down | bad | other | other)
      · exact absurd (on.symm.trans off) (by decide)
      · exact absurd (up.symm.trans down) (by decide)
      · exact absurd (good.symm.trans bad) (by decide)
      · exact absurd (ring.symm.trans other) (by decide)
      · exact other isKind
    refine ⟨fun kind role id => ⟨fun own state => ?_, fun other state => ?_⟩, fun kind id => ?_⟩
    · have opened : ¬(({ seen with net := { seen.net with lastCheck := seen.now } }).regN o7200.RING_STATE = 2 ∨
          ({ seen with net := { seen.net with lastCheck := seen.now } }).regN o7200.RING_STATE = 3) := by
        show ¬(seen.regN o7200.RING_STATE = 2 ∨ seen.regN o7200.RING_STATE = 3)
        omega
      show execRingCheckRx t f s = _
      exact runOn_effect alive ((if_neg (comes 1 kind)).trans ((if_pos ⟨role, id⟩).trans ((if_pos own).trans (if_neg opened))))
    · show execRingCheckRx t f s = _
      exact runOn_effect alive ((if_neg (comes 1 kind)).trans ((if_pos ⟨role, id⟩).trans ((if_neg other).trans (if_neg state))))
    · show execTopologyChangeRx t f s = _
      exact runOn_effect alive ((if_neg (comes 2 kind)).trans (if_pos id))

/-! ### PTP messages -/

section Ptp

variable {s : State} {f : NetFrame} {type : Nat}

/-- The state in which a PTP message is used: it has gone through the switch and, if it is an event message, has its receive
timestamp (R381). -/
def ptpEntered (f : NetFrame) (type : Nat) (s : State) : State :=
  if type < 4 then (s.switchFrame f).2.stampReceive ((s.switchFrame f).2.receivedAt (s.switchFrame f).2.now f.port) 1 f.port
    (ptpSeq f.data) type
  else (s.switchFrame f).2

/-- A PTP message of the command's type and of the chip's domain is used. -/
theorem ptpTake_used {use : State → State} (taken : s.ptpTaken f type = true)
    (uses : (ptpEntered f type s).usesPtp f.data = true) : s.ptpTake f type use = use (ptpEntered f type s) := by
  unfold State.ptpTake
  dsimp only
  rw [if_neg (by rw [taken]; decide)]
  exact if_pos uses

/-- A message that a command takes is of its type. -/
theorem type_of_ptpTaken (taken : s.ptpTaken f type = true) : ptpType f.data = type := by
  simp only [State.ptpTaken, Bool.and_eq_true, beq_iff_eq] at taken
  exact taken.2

/-- A Follow_Up of the master that matches a Sync gives the offset (R385). -/
theorem followUp_master {w : TwoStep} (found : (s.time.twoStep.find? fun w =>
      w.source == ptpSource f.data && w.seq == ptpSeq f.data && w.port == f.port) = some w)
    (master : s.fromMaster f.data = true) :
    State.followUp f s = s.syncOffset f.port (ptpSource f.data / 65536) (w.received - ptpTime f.data 34 - ptpCorrection f.data) := by
  unfold State.followUp
  dsimp only
  rw [found]
  exact if_pos master

end Ptp

/-- Settles O24. -/
theorem ptpMessagesTakeEffect : Obligations.PtpMessagesTakeEffect := by
  intro s t f alive entered
  have takes {type : Nat} {use : State → State} {v : State} (taken : s.ptpTaken f type = true)
      (uses : (entered type).usesPtp f.data = true) (effect : use (entered type) = v) :
      State.ptpIn t f type use s = .next (v.sealed s t) :=
    runOn_effect alive ((ptpTake_used (s := s.tick t) taken uses).trans effect)
  refine ⟨?sync, ?followUp, ?delay, ?request, ?peer, ?peerTwoStep, ?peerFollowUp, ?announce⟩
  case sync =>
    intro taken uses master logged
    have fromMaster : ¬(entered 0).fromMaster f.data = false := by rw [master]; decide
    refine ⟨fun oneStep => ?_, fun twoStep => ?_⟩
    · show execSyncRx t f s = _
      exact takes taken uses ((if_neg fromMaster).trans (if_neg (by rw [oneStep]; decide)))
    · show execSyncRx t f s = _
      exact takes taken uses ((if_neg fromMaster).trans (if_pos twoStep))
  case followUp =>
    intro w taken uses master found
    show execFollowUpRx t f s = _
    refine runOn_effect alive ((if_pos taken).trans ?_)
    have used := ptpTake_used (s := s.tick t) (use := State.followUp f) taken uses
    rw [used]
    exact congrArg (State.followed f.data) (followUp_master found master)
  case delay =>
    intro r t3 fwd taken uses own sent forward ended averaged
    show execDelayRespRx t f s = _
    refine takes taken uses ?_
    have forward' : ((entered 9).endRequest r.seq).time.forward = some fwd := forward
    simp only [own, sent, forward', averaged, ended]
  case request =>
    intro taken uses mechanism answer
    show execPdelayReqRx t f s = _
    exact takes taken uses (if_pos mechanism)
  case peer =>
    intro r t1 taken uses own sent first oneStep
    have type := type_of_ptpTaken taken
    show execPdelayRespRx t f s = _
    unfold execPdelayRespRx
    dsimp only
    rw [if_neg (by omega)]
    refine takes taken uses ?_
    simp only [own, sent, first]
    exact (if_neg (not_not_intro type)).trans (if_neg (by rw [oneStep]; decide))
  case peerTwoStep =>
    intro r t1 taken uses own sent first twoStep back
    have type := type_of_ptpTaken taken
    show execPdelayRespRx t f s = _
    unfold execPdelayRespRx
    dsimp only
    rw [if_neg (by omega)]
    refine takes taken uses ?_
    simp only [own, sent, first]
    exact (if_neg (not_not_intro type)).trans (if_pos twoStep)
  case peerFollowUp =>
    intro r t1 t2 t4 taken uses own sent second
    have type := type_of_ptpTaken taken
    show execPdelayRespRx t f s = _
    unfold execPdelayRespRx
    dsimp only
    rw [if_pos type]
    refine takes taken uses ?_
    simp only [own, sent, second]
    exact if_pos type
  case announce =>
    intro taken uses heard noted
    show execAnnounceRx t f s = _
    exact takes taken uses rfl

/-! ### The clock -/

/-- Of the numbers up to n, only n is picked when n is and none below it. -/
theorem filter_range_succ_last {pick : Nat → Bool} {n : Nat} (last : pick n = true) (none : ∀ m < n, pick m = false) :
    (List.range (n + 1)).filter pick = [n] := by
  have below : (List.range n).filter pick = [] :=
    List.filter_eq_nil_iff.2 fun m mem => by rw [none m (List.mem_range.1 mem)]; decide
  rw [List.range_succ, List.filter_append, below, List.nil_append, List.filter_cons_of_pos last, List.filter_nil]

/-- A trigger that is due fires (R399, R400). -/
theorem fireTrigger_due {s : State} {n : Nat} (due : s.triggerDue n = true) : s.fireTrigger n =
    let ctrl := s.regN (o7003.TRIGGER_CTRL + n)
    let counted := if s.time.late.contains n then s.incReg o7003.LATE_TRIGGERS else s
    let unlated : State := { counted with time := { counted.time with late := counted.time.late.filter fun m => m != n } }
    let armed := if bits ctrl 27 0 * 1000 = 0 then unlated.setRegN (o7003.TRIGGER_CTRL + n) (setBit ctrl 31 false)
      else unlated.setRegN (o7003.TRIGGER_TIME + n)
        ((unlated.regN (o7003.TRIGGER_TIME + n) + bits ctrl 27 0 * 1000) % 2 ^ 64)
    if n = 6 then armed.commitTime else if n = 7 then armed
      else (if bits ctrl 30 28 = 1 then armed.capture (4 + n) armed.now else armed).raise 105 n 0 22 :=
  if_neg (by rw [due]; decide)

/-- Settles O25. -/
theorem clockEventsTakeEffect : Obligations.ClockEventsTakeEffect := by
  intro s t alive
  refine ⟨?delayReq, ?peerReq, ?sync, ?holdover, ?restored, ?capture, ?fire, ?edge, ?ppsOut, ?ppsIn⟩
  case delayReq =>
    intro mechanism role valid up
    show execDelayReqSend t s = _
    exact runOn_effect alive (if_pos ⟨mechanism, role, valid, up⟩)
  case peerReq =>
    intro mechanism valid _ ask
    show execPdelayReqSend t s = _
    exact runOn_effect alive (if_pos ⟨mechanism, valid⟩)
  case sync =>
    intro role valid _ seq send
    show execSyncSend t s = _
    exact runOn_effect alive (if_pos ⟨role, valid⟩)
  case holdover =>
    intro state late
    show execTimeHoldover t s = _
    exact runOn_effect alive (if_pos ⟨state, late⟩)
  case restored =>
    intro tau state carried
    show execTsclkRestored t tau s = _
    exact runOn_effect alive (if_pos state)
  case capture =>
    intro tau clock core
    have runs : ¬((s.tick t).islandLost 10 || (s.tick t).islandLost 11) = true := by
      show ¬(s.islandLost 10 || s.islandLost 11) = true
      rw [clock, core]
      decide
    show execTsclkCapture t tau s = _
    exact run_effect alive.1 (if_neg runs)
  case fire =>
    intro n lt due first ctrl counted unlated armed
    have fires : ¬(8 ≤ n ∨ (s.tick t).triggerDue n = false) := by
      rw [due]
      rintro (beyond | early)
      · omega
      · cases early
    have alone : (List.range (n + 1)).filter (fun m => m == n || ((s.tick t).triggerDue m &&
        (s.tick t).regN (o7003.TRIGGER_TIME + m) == (s.tick t).regN (o7003.TRIGGER_TIME + n))) = [n] := by
      refine filter_range_succ_last (by simp) fun m below => ?_
      have other : (m == n) = false := beq_eq_false_iff_ne.2 (Nat.ne_of_lt below)
      rcases first m below with early | later
      · simp only [other, early, Bool.false_and, Bool.or_self]
      · have differs : ((s.tick t).regN (o7003.TRIGGER_TIME + m) == (s.tick t).regN (o7003.TRIGGER_TIME + n)) = false :=
          beq_eq_false_iff_ne.2 later
        simp only [other, differs, Bool.and_false, Bool.or_self]
    show execTimeTriggerFire t n s = _
    exact runOn_effect alive ((if_neg fires).trans
      ((congrArg (List.foldl State.fireTrigger (s.tick t)) alone).trans (fireTrigger_due due)))
  case edge =>
    intro i high held lt long change seen
    have taken : ¬(4 ≤ i ∨ held < (s.tick t).regN o7004.TRIG_FILTER_NS ∨ bit (s.tick t).time.trigHigh i = high) := by
      rintro (beyond | short | same)
      · omega
      · exact Nat.not_lt.2 long short
      · have same' : bit s.time.trigHigh i = high := same
        rw [change] at same'
        cases high <;> cases same'
    show execTrigEdge t i high held s = _
    exact runOn_effect alive (if_neg taken)
  case ppsOut =>
    intro width valid near
    show execPpsOutEdge t s = _
    exact runOn_effect alive (if_pos ⟨width, valid, near⟩)
  case ppsIn =>
    intro ns
    show execPpsInEdge t s = _
    exact runOn_effect alive rfl

end Sys2Proof
end

section
/-! PROOFS. The commands that open and end sessions (R407 to R411). -/
namespace Sys2Proof

open Sys2Proof.Machine Sys2Proof.Laws

/-! ### OPEN and AUTH come to their operation -/

section Unkeyed

variable {s : State} {t : Nat} {rq : Request} {ops : Req → Bool}

/-- An OPEN that reaches the chip comes to its operation. -/
theorem request_open (reaches : Reaches s t rq) (op : (readFrame (heard (s.tick t) rq).frame).op = 0x10)
    (asked : ops (readFrame (heard (s.tick t) rq).frame) = true) :
    s.request ops t rq =
      outcome s t rq ((looking s t rq).serveOpen (heard (s.tick t) rq) (readFrame (heard (s.tick t) rq).frame)) := by
  rw [request_reaches reaches asked]
  obtain ⟨_, _, _, check1⟩ := reaches
  unfold State.serve
  dsimp only
  rw [if_neg (not_not_intro check1), if_pos op]
  rfl

/-- An AUTH that reaches the chip comes to its operation. -/
theorem request_auth (reaches : Reaches s t rq) (op : (readFrame (heard (s.tick t) rq).frame).op = 0x11)
    (asked : ops (readFrame (heard (s.tick t) rq).frame) = true) :
    s.request ops t rq =
      outcome s t rq ((looking s t rq).serveAuth (heard (s.tick t) rq) (readFrame (heard (s.tick t) rq).frame)) := by
  rw [request_reaches reaches asked]
  obtain ⟨_, _, _, check1⟩ := reaches
  unfold State.serve
  dsimp only
  rw [if_neg (not_not_intro check1), if_neg (by omega), if_pos op]
  rfl

end Unkeyed

section Ending

variable {s : State} {x : Session} {n t : Nat}

/-- R409: a half-open session that has not been proved within its time ends. -/
theorem sessionAuthTimeout_ends (awake : Awake s) (found : s.sessionById n = some x) (half : x.isOpen = false)
    (due : x.startedAt + 5000000000 ≤ max s.now t) :
    execSessionAuthTimeout t n s = .next (((s.tick t).closeSession x 0).sealed s t) := by
  have unproved : x.unproved (s.tick t).now = true := by
    simp only [Session.unproved, half, Bool.not_false, Bool.true_and]
    exact decide_eq_true due
  unfold execSessionAuthTimeout
  rw [run_awake awake, show (s.tick t).sessionById n = some x from found]
  dsimp only
  rw [if_pos unproved]

/-- R409: an open session that has been idle for `SESSION_IDLE_S` ends. -/
theorem sessionIdleTimeout_ends (awake : Awake s) (found : s.sessionById n = some x) (isOpen : x.isOpen = true)
    (due : x.lastValid + s.regN o2100.SESSION_IDLE_S * 1000000000 ≤ max s.now t) :
    execSessionIdleTimeout t n s = .next (((s.tick t).closeSession x 2).sealed s t) := by
  have idle : (s.tick t).idleOut x = true := by
    simp only [State.idleOut, isOpen, Bool.true_and]
    exact decide_eq_true due
  unfold execSessionIdleTimeout
  rw [run_awake awake, show (s.tick t).sessionById n = some x from found]
  dsimp only
  rw [if_pos idle]

end Ending

/-- Settles O26: OPEN, AUTH and CLOSE pass the branches of their operations; the time limits end the session they name. -/
theorem sessionCommandsTakeEffect : Obligations.SessionCommandsTakeEffect := by
  intro s t rq q r u
  refine ⟨?opens, ?auth, ?close, fun n x awake found half due => sessionAuthTimeout_ends awake found half due,
    fun n x awake found isOpen due => sessionIdleTimeout_ends awake found isOpen due, ?lockout⟩
  case opens =>
    intro slot reaches op zeroTag notLocked loader role secret free u1 u2 u3 chip id x opened
    refine (request_open (ops := fun r => r.op == 0x10) reaches op (beq_iff_eq.2 op)).trans (congrArg (outcome s t rq) ?_)
    have noLoader : ¬(u.loaderOnly = true ∧ q.path = .network) := by
      rintro ⟨only, network⟩
      rcases loader with no | raster
      · exact absurd (no.symm.trans only) (by decide)
      · exact absurd (raster.symm.trans network) (by decide)
    have hasSecret : ¬(u.secretSet (bits (r.word 0) 63 62) = false ∧ q.path = .network) := by
      rintro ⟨unset, network⟩
      rcases secret with set | raster
      · exact absurd (unset.symm.trans set) (by decide)
      · exact absurd (raster.symm.trans network) (by decide)
    have unlocked : ¬u.lockedOut (bits (r.word 0) 63 62) q = true := by rw [notLocked]; decide
    show u.serveOpen q r = _
    unfold State.serveOpen
    dsimp only
    rw [if_neg (not_not_intro zeroTag), if_neg unlocked, if_neg noLoader, if_neg role, if_neg hasSecret, free]
    rfl
  case auth =>
    intro x reaches op zeroTag found half seq proof body opened
    refine (request_auth (ops := fun r => r.op == 0x11) reaches op (beq_iff_eq.2 op)).trans (congrArg (outcome s t rq) ?_)
    show u.serveAuth q r = _
    unfold State.serveAuth
    rw [found]
    dsimp only
    rw [if_neg (not_not_intro zeroTag), if_neg (by rw [half]; decide), if_neg (not_not_intro seq), if_pos proof]
  case close =>
    intro x admitted op mode
    refine (request_admitted (ops := fun r => r.op == 0x12) admitted (beq_iff_eq.2 op)).trans (congrArg (outcome s t rq) ?_)
    simp only [served, show (readFrame (heard (s.tick t) rq).frame).op = 0x12 from op]
    exact if_neg mode
  case lockout =>
    intro role path src awake
    show execLockoutExpire t role path src s = _
    exact run_awake awake

end Sys2Proof
end

section
/-! PROOFS. The operations of an open session (R406, R413, R416 to R420, R445, R446). -/
namespace Sys2Proof

open Sys2Proof.Machine Sys2Proof.Laws

/-! ### What leaves the time alone -/

/-- Reading a subindex takes no time. -/
theorem noteRead_now (s : State) (k : Nat) : (s.noteRead k).now = s.now := by
  unfold State.noteRead
  split_ifs <;> rfl

/-- Dropping an assembly takes no time. -/
theorem dropAssembly_now (s : State) (n : Nat) : (s.dropAssembly n).now = s.now := by
  unfold State.dropAssembly
  split
  · rfl
  · dsimp only
    split
    · split_ifs <;> rfl
    · rfl

/-! ### The first code of a list of checks -/

/-- The first code is among the codes of the rest when the first check passes. -/
theorem firstCode_cons {c : Nat} {rest : List Nat} (passes : c = 0) : firstCode (c :: rest) = firstCode rest :=
  if_neg (not_not_intro passes)

/-- Three checks that pass. -/
theorem firstCode_three {a b c : Nat} (ha : a = 0) (hb : b = 0) (hc : c = 0) : firstCode [a, b, c] = 0 :=
  (firstCode_third ha hb).trans hc

section Operations

variable {u : State} {q : Request} {r : Req} {x : Session}

/-! ### READ and READ_BLOCK -/

section Reading

variable (known : check3 r.key = 0) (allowed : check4 x.role r.key 1 = 0)
include known allowed

/-- R406: a READ that every check lets through is answered with the value. -/
theorem serveRead_answers (fits : u.check5 1 r.key [] x.role x.path = 0) (short : (u.readValue r.key).length ≤ 1400)
    (owned : u.ownerLost r.key = false) :
    u.serveRead q r x false = (u.noteRead r.key).accept q r x none 0
      (octetsOf 8 (place (r.key / 256) 63 48 + place (r.key % 256) 47 40 + place (typeCode r.key) 39 24
        + (u.readValue r.key).length) ++ u.readValue r.key) false := by
  unfold State.serveRead
  dsimp only
  rw [if_neg (not_not_intro (firstCode_three known allowed fits)), if_neg (Nat.not_lt.2 short), if_neg (by simp [owned])]

/-- R416: a READ that no region answers is refused. -/
theorem serveRead_timeout (fits : u.check5 1 r.key [] x.role x.path = 0) (short : (u.readValue r.key).length ≤ 1400) :
    u.serveRead q r x true = u.refuse q r x 0x07000001 := by
  unfold State.serveRead
  dsimp only
  rw [if_neg (not_not_intro (firstCode_three known allowed fits)), if_neg (Nat.not_lt.2 short), if_pos (Or.inl rfl)]

variable (fits : u.check5 3 r.key [] x.role x.path = 0) (owned : u.ownerLost r.key = false)
  (aligned : bits (r.word 1) 63 32 % 8 = 0) (count : bits (r.word 1) 31 0 % 8 = 0) (least : 8 ≤ bits (r.word 1) 31 0)
  (most : bits (r.word 1) 31 0 ≤ 1400)
include fits owned aligned count least most

/-- R445: a READ_BLOCK from the start takes a snapshot and answers its first part. -/
theorem serveReadBlock_first (start : bits (r.word 1) 63 32 = 0) :
    u.serveReadBlock q r x false =
      ((u.noteRead r.key).mapSession x.id fun z => { z with
        snapshot := if decide ((u.readValue r.key).length ≤ bits (r.word 1) 31 0) then none
          else some { key := r.key, total := (u.readValue r.key).length, data := u.readValue r.key, last := u.now } }).accept
        q r x none 0 (octetsOf 8 (place (u.readValue r.key).length 31 0) ++
          (u.readValue r.key).take (min (bits (r.word 1) 31 0) (u.readValue r.key).length))
        (decide ((u.readValue r.key).length ≤ bits (r.word 1) 31 0)) := by
  have noOffset : place 0 63 32 = 0 := by decide
  unfold State.serveReadBlock
  dsimp only
  rw [if_neg (not_not_intro (firstCode_three known allowed fits)), if_neg (by omega)]
  simp only [start, if_true]
  rw [if_neg (fun h => h.1 rfl), if_neg (by simp [owned])]
  simp only [noteRead_now, noOffset, Nat.zero_add, List.drop_zero, Nat.sub_zero]

/-- R445: a READ_BLOCK further on answers the part of its snapshot that it asks for. -/
theorem serveReadBlock_next {y : Transfer} (further : bits (r.word 1) 63 32 ≠ 0) (shot : x.snapshot = some y)
    (same : y.key = r.key) (inside : bits (r.word 1) 63 32 < y.total) :
    u.serveReadBlock q r x false =
      (u.mapSession x.id fun z => { z with
        snapshot := if decide (y.total ≤ bits (r.word 1) 63 32 + bits (r.word 1) 31 0) then none
          else some { y with last := u.now } }).accept
        q r x none 0 (octetsOf 8 (place (bits (r.word 1) 63 32) 63 32 + place y.total 31 0) ++
          (y.data.drop (bits (r.word 1) 63 32)).take (min (bits (r.word 1) 31 0) (y.total - bits (r.word 1) 63 32)))
        (decide (y.total ≤ bits (r.word 1) 63 32 + bits (r.word 1) 31 0)) := by
  unfold State.serveReadBlock
  dsimp only
  rw [if_neg (not_not_intro (firstCode_three known allowed fits)), if_neg (by omega), shot]
  simp only [if_neg further, if_pos same]
  rw [if_neg (by omega), if_neg (by simp [owned])]

end Reading

/-! ### Whole values -/

section Whole

variable {type : Nat} {o : Octets} {withType : Bool} (mode : u.check5 2 r.key o x.role x.path = 0)
  (value : u.check6 r.key type o withType u.reg = 0) (noRequest : r.key ≠ o2000.REQUEST)
  (state : u.stateCode r.key (valueOf r.key o) o = 0) (noCommit : u.modes.commit = none)
  (owned : u.ownerLost r.key = false)
include mode value noRequest state noCommit owned

/-- Checks 5 to 8 of a whole value let it through. -/
theorem writeCode_zero :
    firstCode [u.check5 2 r.key o x.role x.path, u.check6 r.key type o withType u.reg,
      if decide (r.key = o2000.REQUEST) then u.requestCheck (valueOf r.key o).toNat x.role else 0,
      u.stateCode r.key (valueOf r.key o) o,
      if applyOf r.key = .t ∧ stagedHealth r.key = false ∧ u.modes.commit.isSome then 0x06000002 else 0,
      if false = true ∨ u.ownerLost r.key then 0x07000001 else 0] = 0 := by
  rw [firstCode_cons mode, firstCode_cons value, if_neg (by simpa using noRequest), firstCode_cons rfl, firstCode_cons state,
    if_neg (by simp [noCommit]), firstCode_cons rfl, if_neg (by simp [owned])]
  exact firstCode_cons rfl

/-- A whole value of class I, P or Q takes its effect and is answered. -/
theorem writeWhole_applied (notT : applyOf r.key ≠ .t) (notB : applyOf r.key ≠ .b) :
    u.writeWhole q r x type o withType false =
      (u.applyWrite r.key (valueOf r.key o) o (askerOf q r x)).accept q r x (some r.key) (writeAudit r.key o) [] false := by
  unfold State.writeWhole
  refine (if_neg (not_not_intro (writeCode_zero mode value noRequest state noCommit owned))).trans ?_
  cases h : applyOf r.key with
  | t => exact absurd h notT
  | b => exact absurd h notB
  | _ => rfl

/-- A whole value of the health map goes into the staged map, and is answered. -/
theorem writeWhole_staged (classT : applyOf r.key = .t) (staged : stagedHealth r.key = true) (op : r.op ≠ 2) :
    u.writeWhole q r x type o withType false =
      (u.applyWrite r.key (valueOf r.key o) o (askerOf q r x)).accept q r x (some r.key) (writeAudit r.key o) [] false := by
  unfold State.writeWhole
  refine (if_neg (not_not_intro (writeCode_zero mode value noRequest state noCommit owned))).trans ?_
  simp only [classT, staged, if_true, if_neg op]

end Whole

/-! ### WRITE_BLOCK -/

section Blocks

variable (known : check3 r.key = 0) (allowed : check4 x.role r.key 2 = 0) (fits : u.check5 4 r.key [] x.role x.path = 0)
  {row : Row} (row_eq : rowOf r.key = some row) (room : bits (r.word 1) 31 0 ≤ row.len)
  {image : ImageCheck}
include known allowed fits row_eq room

/-- R446, R465: the first block of a value begins its assembly; the area of an image begins to take it. -/
theorem serveWriteBlock_first (accepted : r.key = o7E01.IMAGE → (u.dropAssembly x.id).imageCode x.id = 0)
    (start : bits (r.word 1) 63 32 = 0) (more : r.last = false)
    (least : 8 ≤ (r.body.drop 16).length) (short : (r.body.drop 16).length < bits (r.word 1) 31 0) :
    u.serveWriteBlock q r x image false =
      (if r.key = o7E01.IMAGE then
        ((u.dropAssembly x.id).mapSession x.id fun z => { z with
          assembly := some (Transfer.mk r.key (bits (r.word 1) 31 0) (r.body.drop 16) u.now) }).imageReceiving
      else (u.dropAssembly x.id).mapSession x.id fun z => { z with
        assembly := some (Transfer.mk r.key (bits (r.word 1) 31 0) (r.body.drop 16) u.now) }).accept
        q r x none 0 [] false := by
  have taken : min (r.body.drop 16).length (bits (r.word 1) 31 0 - 0) = (r.body.drop 16).length := by omega
  have open_ : decide (bits (r.word 1) 31 0 ≤ 0 + (r.body.drop 16).length) = false := by
    rw [decide_eq_false_iff_not]
    omega
  have rest : allZero ((r.body.drop 16).drop (r.body.drop 16).length) = true := by rw [List.drop_length]; rfl
  unfold State.serveWriteBlock
  dsimp only
  rw [if_neg (not_not_intro (firstCode_three known allowed fits))]
  simp only [start, if_true, row_eq, taken, open_, more, rest]
  rw [if_neg (Nat.not_lt.2 room), if_neg (fun h => h.2 (accepted h.1)), if_neg (not_not_intro rfl),
    if_neg (by simp only [Bool.true_eq_false, or_false, true_and]; omega), if_neg (by decide),
    List.take_length, List.nil_append, dropAssembly_now]

/-- R446, R465: the last block of a value completes it, and the whole value is written; an image has arrived. -/
theorem serveWriteBlock_last (accepted : r.key = o7E01.IMAGE → u.imageCode x.id = 0) {y : Transfer}
    (further : bits (r.word 1) 63 32 ≠ 0) (begun : x.assembly = some y)
    (same : y.key = r.key) (total : y.total = bits (r.word 1) 31 0) (next : y.data.length = bits (r.word 1) 63 32)
    (last : r.last = true) (inside : bits (r.word 1) 63 32 < bits (r.word 1) 31 0)
    (reaches : bits (r.word 1) 31 0 ≤ bits (r.word 1) 63 32 + (r.body.drop 16).length)
    (rest : allZero ((r.body.drop 16).drop (bits (r.word 1) 31 0 - bits (r.word 1) 63 32)) = true) :
    u.serveWriteBlock q r x image false =
      if r.key = o7E01.IMAGE then
        (u.mapSession x.id fun z => { z with assembly := none }).imageArrived q r x
          (y.data ++ (r.body.drop 16).take (bits (r.word 1) 31 0 - bits (r.word 1) 63 32)) image
      else (u.mapSession x.id fun z => { z with assembly := none }).writeWhole q r x 0
        (y.data ++ (r.body.drop 16).take (bits (r.word 1) 31 0 - bits (r.word 1) 63 32)) false false := by
  have taken : min (r.body.drop 16).length (bits (r.word 1) 31 0 - bits (r.word 1) 63 32) =
      bits (r.word 1) 31 0 - bits (r.word 1) 63 32 := by omega
  have whole : decide (bits (r.word 1) 31 0 ≤
      bits (r.word 1) 63 32 + (bits (r.word 1) 31 0 - bits (r.word 1) 63 32)) = true := by
    rw [decide_eq_true_iff]
    omega
  unfold State.serveWriteBlock
  dsimp only
  rw [if_neg (not_not_intro (firstCode_three known allowed fits))]
  simp only [if_neg further, begun, if_pos (And.intro same (And.intro total next)), row_eq, taken, whole, last, rest]
  rw [if_neg (Nat.not_lt.2 room), if_neg (fun h => h.2 (accepted h.1)), if_neg (not_not_intro rfl), if_neg (by simp),
    if_pos trivial]

end Blocks

/-! ### STAGE, COMMIT, SUBSCRIBE and TRIGGER -/

/-- R417: a STAGE that every check lets through enters its value among those staged. -/
theorem serveStage_stages {o : Octets} (sent : (r.body.drop 8).take (bits (r.word 0) 15 0) = o) (known : check3 r.key = 0)
    (allowed : check4 x.role r.key 2 = 0) (fits : u.check5 5 r.key o x.role x.path = 0)
    (value : u.check6 r.key (bits (r.word 0) 39 24) o true (u.lookStaged x) = 0) (classT : applyOf r.key = .t)
    (noMap : stagedHealth r.key = false) (short : o.length ≤ 8) (number : isOctets r.key = false)
    (room : (x.staged.any fun e => e.1 == r.key) = true ∨ x.staged.length < 64)
    (state : u.stateCode r.key (valueOf r.key o) o = 0) (owned : u.ownerLost r.key = false) :
    u.serveStage q r x false =
      (u.mapSession x.id fun z => { z with
        staged := (x.staged.filter fun e => e.1 != r.key) ++ [(r.key, valueOf r.key o)] }).accept q r x none 0
        (octetsOf 8 (place ((x.staged.filter fun e => e.1 != r.key) ++ [(r.key, valueOf r.key o)]).length 63 48)) false := by
  have stageable : ¬(applyOf r.key ≠ .t ∨ stagedHealth r.key = true ∨ 8 < o.length ∨ isOctets r.key = true) := by
    simp [classT, noMap, number, short]
  have notFull : ¬((x.staged.any fun e => e.1 == r.key) = false ∧ 64 ≤ x.staged.length) := by
    rintro ⟨new, full⟩
    rcases room with has | few
    · exact absurd (new.symm.trans has) (by decide)
    · omega
  unfold State.serveStage
  dsimp only
  rw [sent]
  refine if_neg (not_not_intro ?_)
  rw [firstCode_cons known, firstCode_cons allowed, firstCode_cons fits, firstCode_cons value, if_neg stageable,
    firstCode_cons rfl, if_neg notFull, firstCode_cons rfl, firstCode_cons state, if_neg (by simp [owned])]
  exact firstCode_cons rfl

section Committing

variable (whole : u.loaderOnly = false)
  (lead : bits (r.word 0) 31 0 = 0 ∨ (2048 ≤ bits (r.word 0) 31 0 ∧ bits (r.word 0) 31 0 ≤ 1048576))
include whole lead

/-- R418: a COMMIT that discards empties what is staged. -/
theorem serveCommit_discards (action : bits (r.word 0) 63 56 = 2) :
    u.serveCommit q r x false =
      (u.mapSession x.id fun z => { z with staged := [] }).accept q r x none 0 (octetsOf 8 0 ++ octetsOf 8 0) false := by
  have inRange : ¬(¬(bits (r.word 0) 63 56 = 1 ∨ bits (r.word 0) 63 56 = 2) ∨
      ¬(bits (r.word 0) 31 0 = 0 ∨ (2048 ≤ bits (r.word 0) 31 0 ∧ bits (r.word 0) 31 0 ≤ 1048576))) := by omega
  unfold State.serveCommit
  dsimp only
  rw [if_neg (by rw [whole]; decide), if_neg (not_not_intro (if_neg (by omega))), if_neg (not_not_intro (if_neg inRange)),
    if_pos action]
  exact if_neg (by decide)

variable (action : bits (r.word 0) 63 56 = 1) (entries : ∀ e ∈ x.staged, check4 x.role e.1 2 = 0 ∧
  u.check5 6 e.1 [] x.role x.path = 0 ∧ u.commandCode e.1 e.2 [] = 0)
include action entries

omit whole lead action in
/-- The entries that are staged pass checks 4 and 5 of a COMMIT. -/
theorem entryCodes_zero :
    firstCode (x.staged.map fun e => firstCode [check4 x.role e.1 2, u.check5 6 e.1 [] x.role x.path]) = 0 := by
  refine firstCode_zero fun c mem => ?_
  obtain ⟨e, staged, rfl⟩ := List.mem_map.1 mem
  obtain ⟨role, mode, _⟩ := entries e staged
  exact (firstCode_cons role).trans ((firstCode_cons mode).trans rfl)

omit whole lead action in
/-- No command among the entries that are staged is refused. -/
theorem commandCodes_zero : firstCode (x.staged.map fun e => u.commandCode e.1 e.2 []) = 0 := by
  refine firstCode_zero fun c mem => ?_
  obtain ⟨e, staged, rfl⟩ := List.mem_map.1 mem
  exact (entries e staged).2.2

/-- R418: a COMMIT that applies begins a commit of what is staged while none is in progress. -/
theorem serveCommit_begins (idle : u.modes.commit = none) :
    u.serveCommit q r x false =
      ((u.mapSession x.id fun z => { z with staged := [] }).startRunning r q x).beginCommit (.session (askerOf q r x)) x.staged
        (bits (r.word 0) 31 0) := by
  have inRange : ¬(¬(bits (r.word 0) 63 56 = 1 ∨ bits (r.word 0) 63 56 = 2) ∨
      ¬(bits (r.word 0) 31 0 = 0 ∨ (2048 ≤ bits (r.word 0) 31 0 ∧ bits (r.word 0) 31 0 ≤ 1048576))) := by omega
  unfold State.serveCommit
  dsimp only
  rw [if_neg (by rw [whole]; decide), if_neg (not_not_intro ((if_pos action).trans (entryCodes_zero entries))),
    if_neg (not_not_intro (if_neg inRange)), if_neg (show bits (r.word 0) 63 56 ≠ 2 by omega)]
  refine if_neg (not_not_intro ?_)
  rw [firstCode_cons (commandCodes_zero entries), if_neg (by simp [idle]), firstCode_cons rfl, if_neg (by decide)]
  exact firstCode_cons rfl

/-- R418: a COMMIT that applies is refused while another commit is in progress. -/
theorem serveCommit_busy (busy : u.modes.commit.isSome = true) :
    u.serveCommit q r x false = (u.mapSession x.id fun z => { z with staged := [] }).refuse q r x 0x06000002 := by
  have code : firstCode [firstCode (x.staged.map fun e => u.commandCode e.1 e.2 []),
      if u.modes.commit.isSome = true then 0x06000002 else 0, if false = true then 0x07000001 else 0] = 0x06000002 := by
    rw [firstCode_cons (commandCodes_zero entries), if_pos busy]
    rfl
  have inRange : ¬(¬(bits (r.word 0) 63 56 = 1 ∨ bits (r.word 0) 63 56 = 2) ∨
      ¬(bits (r.word 0) 31 0 = 0 ∨ (2048 ≤ bits (r.word 0) 31 0 ∧ bits (r.word 0) 31 0 ≤ 1048576))) := by omega
  unfold State.serveCommit
  dsimp only
  rw [if_neg (by rw [whole]; decide), if_neg (not_not_intro ((if_pos action).trans (entryCodes_zero entries))),
    if_neg (not_not_intro (if_neg inRange)), if_neg (show bits (r.word 0) 63 56 ≠ 2 by omega), code]
  exact if_pos (by decide)

end Committing

/-- R419: a SUBSCRIBE takes its mask. -/
theorem serveSubscribe_masks (whole : u.loaderOnly = false) :
    u.serveSubscribe q r x false =
      (u.mapSession x.id fun z => { z with notices := { z.notices with
        mask := r.word 0 + r.word 1 * 2 ^ 64,
        queue := if r.word 0 + r.word 1 * 2 ^ 64 = 0 then [] else z.notices.queue } }).accept
        q r x none 0 (octetsOf 8 (r.word 0) ++ octetsOf 8 (r.word 1)) false := by
  unfold State.serveSubscribe
  rw [if_neg (by rw [whole]; decide)]
  exact if_neg (by decide)

/-- The checks of a TRIGGER let it through. -/
theorem triggerCode_zero (role : 2 ≤ x.role) (whole : u.loaderOnly = false) (number : bits (r.word 0) 63 56 ≤ 5)
    (class_ : bits (bits (r.word 0) 31 0) 30 28 ≤ 1) (owned : u.regionLost 22 = false) :
    firstCode [if x.role < 2 then 0x02000001 else 0, if u.loaderOnly then 0x05000000 else 0,
      if 5 < bits (r.word 0) 63 56 then 0x04000001 else 0, if 1 < bits (bits (r.word 0) 31 0) 30 28 then 0x04000E01 else 0,
      if false = true ∨ u.regionLost 22 then 0x07000001 else 0] = 0 := by
  rw [if_neg (Nat.not_lt.2 role), if_neg (by rw [whole]; decide), if_neg (Nat.not_lt.2 number), if_neg (Nat.not_lt.2 class_),
    if_neg (by simp [owned])]
  rfl

end Operations

/-! ### The commands -/

section Commands

variable {s : State} {t : Nat} {rq : Request} {x : Session}

/-- A request that no region answers comes to its operation, which is told so (R416). -/
theorem requestTimeout_serves (admitted : Admitted s t rq x) :
    execRequestTimeout t rq s =
      outcome s t rq (served (serving s t rq x) ImageCheck.none true (heard (s.tick t) rq) x) := by
  have reaches : Reaches s t rq := admitted.1
  unfold execRequestTimeout
  rw [run_awake reaches.1, byPath_comes reaches.2.1 rfl, arrive_reaches reaches, serve_admitted admitted]
  rfl

/-- A granted WRITE of a subindex of class B is kept for the next start (R440). -/
theorem served_granted_boot (granted : Granted s t rq x)
    (classB : applyOf (readFrame (heard (s.tick t) rq).frame).key = .b) :
    served (serving s t rq x) ImageCheck.none false (heard (s.tick t) rq) x =
      written ((serving s t rq x).bootValue (readFrame (heard (s.tick t) rq).frame).key (valueIn (heard (s.tick t) rq)))
        (heard (s.tick t) rq) x [] := by
  have serves := served_granted (image := ImageCheck.none) granted
  simp only [classB] at serves
  exact serves

end Commands

/-- Settles O27: each operation passes its checks, one by one, and then its effect follows. -/
theorem sessionRequestsTakeEffect : Obligations.SessionRequestsTakeEffect := by
  intro s t rq x admitted q r k u
  have operation {n : Nat} {v : State} (op : r.op = n) {ops : Req → Bool} (asked : ops r = true)
      (effect : served u ImageCheck.none false q x = v) : s.request ops t rq = outcome s t rq v :=
    (request_admitted admitted asked).trans (congrArg (outcome s t rq) effect)
  refine ⟨?read, ?write, ?readBlock, ?writeBlock, ?stage, ?commit, ?subscribe, ?trigger, ?timeout⟩
  case read =>
    intro op known allowed fits short owned
    refine operation op (ops := fun r => r.op == 1) (beq_iff_eq.2 op) ?_
    simp only [served, show (readFrame q.frame).op = 1 from op]
    exact serveRead_answers known allowed fits short owned
  case write =>
    intro granted
    have op : r.op = 2 := granted.2.1
    refine ⟨fun notT notB => operation op (beq_iff_eq.2 op) (served_granted_write granted rfl notT notB),
      fun classB => operation op (beq_iff_eq.2 op) (served_granted_boot granted classB),
      fun classT noMap => operation op (beq_iff_eq.2 op) (served_granted_commit granted rfl classT noMap)⟩
  case readBlock =>
    intro op known allowed fits owned off cnt aligned count least most
    refine ⟨fun start => ?_, fun y further shot same inside => ?_⟩
    all_goals refine operation op (ops := fun r => r.op == 3) (beq_iff_eq.2 op) ?_
    all_goals simp only [served, show (readFrame q.frame).op = 3 from op]
    · exact serveReadBlock_first known allowed fits owned aligned count least most start
    · exact serveReadBlock_next known allowed fits owned aligned count least most further shot same inside
  case writeBlock =>
    intro op noImage known allowed fits off total data
    have asked : (r.op == 4 && r.key != o7E01.IMAGE) = true := by
      simp only [Bool.and_eq_true, beq_iff_eq, bne_iff_ne]
      exact ⟨op, noImage⟩
    have block : served u ImageCheck.none false q x = u.serveWriteBlock q r x ImageCheck.none false := by
      simp only [served, show (readFrame q.frame).op = 4 from op]
      rfl
    refine ⟨fun row row_eq room start more least short => ?_, ?_⟩
    · exact operation op (ops := fun r => r.op == 4 && r.key != o7E01.IMAGE) asked
        ((block.trans (serveWriteBlock_first known allowed fits row_eq room (fun image => absurd image noImage) start more
          least short)).trans (congrArg (fun v => State.accept v q r x none 0 [] false) (if_neg noImage)))
    intro row y row_eq room further begun same sum next last inside reaches rest o v mode value noRequest state noCommit owned
    have whole : served u ImageCheck.none false q x = v.writeWhole q r x 0 o false false :=
      (block.trans (serveWriteBlock_last known allowed fits row_eq room (fun image => absurd image noImage) further begun same
        sum next last inside reaches rest)).trans (if_neg noImage)
    refine ⟨fun notT notB => ?_, fun map => ?_⟩
    · exact operation op (ops := fun r => r.op == 4 && r.key != o7E01.IMAGE) asked
        (whole.trans (writeWhole_applied mode value noRequest state noCommit owned notT notB))
    · refine operation op (ops := writesKey [o3403.MAP]) ?_
        (whole.trans ((writeWhole_staged mode value noRequest state noCommit owned ?_ ?_ ?_).trans ?_))
      · simp [writesKey, op, show r.key = o3403.MAP from map]
      · exact congrArg applyOf map |>.trans (by decide)
      · exact congrArg stagedHealth map |>.trans (by decide)
      · show r.op ≠ 2
        omega
      · show (v.applyWrite k (valueOf k o) o (askerOf q r x)).accept q r x (some k) (writeAudit k o) [] false = _
        rw [show v.applyWrite k (valueOf k o) o (askerOf q r x) = v.writeMap o by rw [map]; rfl]
  case stage =>
    intro op known allowed fits value classT noMap short number room state owned staged
    refine operation op (ops := fun r => r.op == 5) (beq_iff_eq.2 op) ?_
    simp only [served, show (readFrame q.frame).op = 5 from op]
    exact serveStage_stages rfl known allowed fits value classT noMap short number room state owned
  case commit =>
    intro op whole action lead emptied leads
    refine ⟨fun discards => ?_, fun applies entries => ⟨fun idle => ?_, fun busy => ?_⟩⟩
    all_goals refine operation op (ops := fun r => r.op == 6) (beq_iff_eq.2 op) ?_
    all_goals simp only [served, show (readFrame q.frame).op = 6 from op]
    · exact serveCommit_discards whole leads discards
    · exact serveCommit_begins whole leads applies entries idle
    · exact serveCommit_busy whole leads applies entries busy
  case subscribe =>
    intro op whole mask
    refine operation op (ops := fun r => r.op == 7) (beq_iff_eq.2 op) ?_
    simp only [served, show (readFrame q.frame).op = 7 from op]
    exact serveSubscribe_masks whole
  case trigger =>
    intro op role whole number class_ owned n ctrl armed rx shot
    refine operation op (ops := fun r => r.op == 8) (beq_iff_eq.2 op) ?_
    simp only [served, show (readFrame q.frame).op = 8 from op]
    unfold State.serveTrigger
    refine (if_neg (not_not_intro (triggerCode_zero role whole number class_ owned))).trans ?_
    rfl
  case timeout =>
    intro op known allowed fits short
    refine (requestTimeout_serves admitted).trans (congrArg (outcome s t rq) ?_)
    simp only [served, show (readFrame (heard (s.tick t) rq).frame).op = 1 from op]
    exact serveRead_timeout known allowed fits short

end Sys2Proof
end

section
/-! PROOFS. The events of sessions: NOTIFY, the ends of transfers, and the audit sector (R416, R419, R425, R445 to R447). -/
namespace Sys2Proof

open Sys2Proof.Machine Sys2Proof.Laws

section Notify

variable {s : State} {x : Session} {n t : Nat}

/-- R419: an open session's notices are sent by a supervisor that runs. -/
theorem notify_sends (awake : Awake s) (found : s.sessionById n = some x) (isOpen : x.isOpen = true)
    (whole : (s.tick t).loaderOnly = false) (running : s.sys.supervisor.state = .running) :
    execNotify t n s = .next (((s.tick t).sendNotify x).sealed s t) := by
  unfold execNotify
  rw [run_awake awake, show (s.tick t).sessionById n = some x from found]
  dsimp only
  rw [if_pos ⟨isOpen, whole, running⟩]

/-- A new window of a second leaves the queue. -/
theorem windowed_queue (y z : Notices) (same : y.queue = z.queue) (new : Prop) [Decidable new] :
    (if new then y else z).queue = z.queue := by
  split
  · exact same
  · rfl

end Notify

/-- Settles O28: a NOTIFY frame goes while its second has room, stale transfers end, and the audit sector is written. -/
theorem sessionEventsTakeEffect : Obligations.SessionEventsTakeEffect := by
  intro s t awake
  refine ⟨?notify, ?snapshot, ?assembly, ?audit⟩
  case notify =>
    intro n x found isOpen whole running waits
    rw [show exec (.notify t n) s = _ from notify_sends awake found isOpen whole running]
    unfold State.sendNotify
    dsimp only
    have queue := windowed_queue { x.notices with windowStart := (s.tick t).now, sent := 0 } x.notices rfl
      (x.notices.windowStart + 1000000000 ≤ (s.tick t).now)
    dsimp only at queue
    generalize (if x.notices.windowStart + 1000000000 ≤ (s.tick t).now then
      ({ x.notices with windowStart := (s.tick t).now, sent := 0 } : Notices) else x.notices) = now at queue ⊢
    have holds : ¬now.queue.isEmpty = true := by
      rw [queue, List.isEmpty_iff]
      exact waits
    refine ⟨fun room => ?_, fun full => ?_⟩
    · rw [if_neg holds, if_neg (Nat.not_le.2 room)]
    · rw [if_neg holds, if_pos full]
  case snapshot =>
    intro n
    show execSnapshotTimeout t n s = _
    unfold execSnapshotTimeout State.lapseSnapshot Transfer.stale
    rw [run_awake awake]
  case assembly =>
    intro n x y found begun due
    show execAssemblyTimeout t n s = _
    refine run_effect awake ?_
    have stale : (x.assembly.any fun y => y.stale (s.tick t).now) = true := by
      rw [begun, Option.any_some, Transfer.stale]
      exact decide_eq_true due
    unfold State.lapseAssembly
    rw [show (s.tick t).sessionById n = some x from found]
    exact if_pos stale
  case audit =>
    intro unwritten island
    have writes : ¬((s.tick t).aqlet.unwritten.isEmpty = true ∨ (s.tick t).islandLost 11 = true) := by
      rintro (none_ | lost)
      · exact unwritten (List.isEmpty_iff.1 none_)
      · exact absurd (island.symm.trans lost) (by decide)
    refine ⟨?_, ?_⟩
    · show execAuditFlashWrite t true s = _
      exact run_effect awake ((if_neg writes).trans (if_pos rfl))
    · show execAuditFlashWrite t false s = _
      exact run_effect awake ((if_neg writes).trans (if_neg (by decide)))

end Sys2Proof
end

section
/-! PROOFS. The writes of subindices that command something. -/
namespace Sys2Proof

open Sys2Proof.Machine Sys2Proof.Laws

/-! ### A granted write takes the effect of its subindex -/

section Applying

variable {s : State} {t k : Nat} {rq : Request} {x : Session} {ops : Req → Bool} {keys : List Nat} {v : State}

section Direct

variable (granted : Granted s t rq x) (key : (readFrame (heard (s.tick t) rq).frame).key = k)
include granted key

/-- A granted write of a subindex of class I, P or Q, by whatever command carries it. -/
theorem request_applied_by (asked : ops (readFrame (heard (s.tick t) rq).frame) = true) (notT : applyOf k ≠ .t)
    (notB : applyOf k ≠ .b)
    (effect : (serving s t rq x).applyWrite k (valueIn (heard (s.tick t) rq)) (valueOctetsOf (heard (s.tick t) rq))
      (askerOf (heard (s.tick t) rq) (readFrame (heard (s.tick t) rq).frame) x) = v) :
    s.request ops t rq = outcome s t rq (written v (heard (s.tick t) rq) x []) := by
  rw [request_admitted granted.1 asked, served_granted_write granted key notT notB, effect]

/-- The same of a command that carries the writes of a list of subindices. -/
theorem request_applied (listed : keys.contains k = true) (notT : applyOf k ≠ .t) (notB : applyOf k ≠ .b)
    (effect : (serving s t rq x).applyWrite k (valueIn (heard (s.tick t) rq)) (valueOctetsOf (heard (s.tick t) rq))
      (askerOf (heard (s.tick t) rq) (readFrame (heard (s.tick t) rq).frame) x) = v) :
    s.request (writesKey keys) t rq = outcome s t rq (written v (heard (s.tick t) rq) x []) := by
  rw [request_write granted key listed notT notB, effect]

/-- A granted write of the staged health map is answered with a commit identifier of 0 (R417). -/
theorem request_staged (listed : keys.contains k = true) (classT : applyOf k = .t) (staged : stagedHealth k = true)
    (effect : (serving s t rq x).applyWrite k (valueIn (heard (s.tick t) rq)) (valueOctetsOf (heard (s.tick t) rq))
      (askerOf (heard (s.tick t) rq) (readFrame (heard (s.tick t) rq).frame) x) = v) :
    s.request (writesKey keys) t rq = outcome s t rq (written v (heard (s.tick t) rq) x (octetsOf 8 0)) := by
  have serves := served_granted (image := ImageCheck.none) granted
  simp only [key, classT, staged, if_true] at serves
  rw [request_admitted granted.1 (by simp [writesKey, granted.2.1, key, List.contains_iff_mem.1 listed]), serves, effect]

end Direct

/-- A granted write of `COMMAND` carries the motion command that its octets spell (R350). -/
theorem motionCommand_write {a n : Nat} (granted : Granted s t rq x) (axis : a < 4)
    (key : (readFrame (heard (s.tick t) rq).frame).key = o6000.COMMAND + 256 * a)
    (op : (readMotion ((readFrame (heard (s.tick t) rq).frame).body.drop 8)).op = n) :
    s.motionCommand n t a (.write rq) = outcome s t rq
      (written ((serving s t rq x).runMotion a (readMotion (valueOctetsOf (heard (s.tick t) rq)))) (heard (s.tick t) rq) x
        []) := by
  have write : (readFrame (heard (s.tick t) rq).frame).op = 2 := granted.2.1
  unfold State.motionCommand
  refine request_applied_by granted key ?_ ?_ ?_ ?_
  · simp [axis, write, key, op]
  all_goals
    clear key
    interval_cases a
  any_goals decide
  all_goals rfl

/-- A granted write of `REQUEST` asks for the mode that its octet spells (R452). -/
theorem request_mode {c : Nat} (granted : Granted s t rq x) (key : (readFrame (heard (s.tick t) rq).frame).key = o2000.REQUEST)
    (octet : ((readFrame (heard (s.tick t) rq).frame).body.drop 8).head? = some (BitVec.ofNat 8 c))
    (value : (valueIn (heard (s.tick t) rq)).toNat = c) :
    s.request (asksMode c) t rq = outcome s t rq
      (written ((serving s t rq x).writeRequest c (askerOf (heard (s.tick t) rq) (readFrame (heard (s.tick t) rq).frame) x))
        (heard (s.tick t) rq) x []) := by
  have write : (readFrame (heard (s.tick t) rq).frame).op = 2 := granted.2.1
  refine request_applied_by granted key ?_ (by decide) (by decide) ?_
  · simp [asksMode, writesKey, write, key, octet]
  · rw [← value]
    rfl

/-- What a request command deals with on its path, before its effect is sealed. -/
theorem byPath_admitted (admitted : Admitted s t rq x) (asked : ops (readFrame (heard (s.tick t) rq).frame) = true) :
    State.byPath rq (asksFor ops) (fun rq u => u.arrive ImageCheck.none false rq) (s.tick t) =
      afterPath (s.tick t) rq (served (serving s t rq x) ImageCheck.none false (heard (s.tick t) rq) x) := by
  have reaches : Reaches s t rq := admitted.1
  rw [byPath_comes reaches.2.1 (by unfold asksFor; rw [asked, Bool.or_true]), arrive_reaches reaches, serve_admitted admitted]

end Applying

/-- Settles O29: each subindex comes to its own branch of the writes of the press. -/
theorem writesOfThePressTakeEffect : Obligations.WritesOfThePressTakeEffect := by
  intro s t rq x q k n
  refine ⟨fun granted => ?_, ?train⟩
  · intro u
    refine ⟨?preset, ?format, fun key => ?enable, fun key once up => ?retrain, fun key => ?loop, fun key => ?prbs,
      fun key once => ?restore, fun key => ?pixel, fun key => ?log⟩
    case preset =>
      intro ch lt key
      interval_cases ch <;> exact request_applied granted key (by decide) (by decide) (by decide) rfl
    case format =>
      intro ch lt key
      interval_cases ch <;> exact request_applied granted key (by decide) (by decide) (by decide) rfl
    case enable => exact request_applied granted key (by decide) (by decide) (by decide) rfl
    case retrain =>
      exact request_applied granted key (by decide) (by decide) (by decide) (if_pos ⟨once, up⟩)
    case loop => exact request_applied granted key (by decide) (by decide) (by decide) rfl
    case prbs => exact request_applied granted key (by decide) (by decide) (by decide) rfl
    case restore => exact request_applied granted key (by decide) (by decide) (by decide) (if_pos once)
    case pixel => exact request_applied granted key (by decide) (by decide) (by decide) (by rw [key]; rfl)
    case log => exact request_applied granted key (by decide) (by decide) (by decide) rfl
  case train =>
    intro found told granted key once
    have asked : writesKey [o4405.TRAIN] (readFrame (heard (told.tick t) rq).frame) = true := by
      simp [writesKey, granted.2.1, show (readFrame (heard (told.tick t) rq).frame).key = o4405.TRAIN from key]
    have trains : (serving told t rq x).applyWrite o4405.TRAIN (valueIn (heard (told.tick t) rq))
        (valueOctetsOf (heard (told.tick t) rq)) (askerOf (heard (told.tick t) rq) (readFrame (heard (told.tick t) rq).frame) x) =
        (serving told t rq x).writeTrain := if_pos once
    show execTrainWrite t rq found s = _
    refine run_effect granted.1.1.1 ?_
    show (State.byPath rq (asksFor (writesKey [o4405.TRAIN])) _ (told.tick t)).withDram _ = _
    rw [byPath_admitted granted.1 asked, served_granted_write granted key (by decide) (by decide), trains]
    rfl

end Sys2Proof
end

section
/-! PROOFS. The commanding writes of the bar, of vision and motion, and of the system. -/
namespace Sys2Proof

open Sys2Proof.Machine Sys2Proof.Laws

/-- Settles O30: each subindex comes to its own branch of the writes of the bar, or begins a commit. -/
theorem writesOfTheBarTakeEffect : Obligations.WritesOfTheBarTakeEffect := by
  intro s t rq x granted q k n u
  refine ⟨fun key => ?takeover, fun key => ?returns, fun key => ?dies, ?health, fun key => ?probe, fun key => ?quarantine,
    fun key => ?retry⟩
  case takeover => exact request_applied granted key (by decide) (by decide) (by decide) rfl
  case returns => exact request_commit granted key (by decide) (by decide) (by decide)
  case dies => exact request_applied granted key (by decide) (by decide) (by decide) rfl
  case health =>
    intro i lt key
    interval_cases i <;> exact request_staged granted key (by decide) (by decide) (by decide) rfl
  case probe => exact request_commit granted key (by decide) (by decide) (by decide)
  case quarantine => exact request_commit granted key (by decide) (by decide) (by decide)
  case retry => exact request_applied granted key (by decide) (by decide) (by decide) rfl

section Motion

variable {s : State} {t a : Nat} {rq : Request} {x : Session} (granted : Granted s t rq x) (axis : a < 4)
include granted axis

/-- A granted write of `DECEL` changes the ramp of its axis (R353). -/
theorem decelWrite_applies (key : (readFrame (heard (s.tick t) rq).frame).key = o6000.DECEL + 256 * a) :
    execDecelWrite t rq s = outcome s t rq
      (written ((serving s t rq x).writeDecel a (valueIn (heard (s.tick t) rq)).toNat) (heard (s.tick t) rq) x []) := by
  interval_cases a <;> exact request_applied granted key (by decide) (by decide) (by decide) rfl

/-- A granted write of `POSITION_PRESET` sets the position of its axis (R346). -/
theorem positionPresetWrite_applies (key : (readFrame (heard (s.tick t) rq).frame).key = o6000.POSITION_PRESET + 256 * a) :
    execPositionPresetWrite t rq s = outcome s t rq
      (written ((serving s t rq x).presetAxis a (valueIn (heard (s.tick t) rq))) (heard (s.tick t) rq) x []) := by
  interval_cases a <;> exact request_applied granted key (by decide) (by decide) (by decide) rfl

/-- A granted write of 1 to `LEARN` starts LEARN of its axis (R367). -/
theorem learnWrite_applies (key : (readFrame (heard (s.tick t) rq).frame).key = o6011.LEARN + 256 * a)
    (once : (valueIn (heard (s.tick t) rq)).toNat = 1) :
    execLearnWrite t rq s = outcome s t rq (written ((serving s t rq x).learnStart a) (heard (s.tick t) rq) x []) := by
  interval_cases a <;> exact request_applied granted key (by decide) (by decide) (by decide) (if_pos once)

end Motion

/-- Settles O31: each subindex comes to its own branch of the writes of vision and motion; `COMMAND` by its operation. -/
theorem writesOfVisionAndMotionTakeEffect : Obligations.WritesOfVisionAndMotionTakeEffect := by
  intro s t rq x granted q r k n u m
  refine ⟨?settings, ?bind, fun key => ?release, ?restart, fun key => ?approve, fun key => ?reject, ?restore, ?axes, ?restep⟩
  case settings =>
    intro p lt key
    interval_cases p <;> rcases key with key | key
    all_goals exact request_applied granted key (by decide) (by decide) (by decide) (by rw [key]; rfl)
  case bind =>
    intro p lt key
    interval_cases p <;> exact request_applied granted key (by decide) (by decide) (by decide) rfl
  case release => exact request_applied granted key (by decide) (by decide) (by decide) rfl
  case restart =>
    intro p lt key once failed
    have restarts : ¬(n ≠ 1 ∨ u.cameraState p ≠ 4) := by
      rintro (other | up)
      · exact other once
      · exact up failed
    interval_cases p <;> exact request_applied granted key (by decide) (by decide) (by decide) (if_neg restarts)
  case approve => exact request_applied granted key (by decide) (by decide) (by decide) rfl
  case reject => exact request_applied granted key (by decide) (by decide) (by decide) rfl
  case restore =>
    intro p lt key once
    interval_cases p <;> exact request_applied granted key (by decide) (by decide) (by decide) (if_pos once)
  case axes =>
    intro a lt
    refine ⟨fun key => decelWrite_applies granted lt key, fun key => positionPresetWrite_applies granted lt key,
      fun key once => learnWrite_applies granted lt key once, fun key => ?_⟩
    exact ⟨fun op => motionCommand_write granted lt key op, fun op => motionCommand_write granted lt key op,
      fun op => motionCommand_write granted lt key op, fun op => motionCommand_write granted lt key op,
      fun op => motionCommand_write granted lt key op, fun op => motionCommand_write granted lt key op,
      fun op => motionCommand_write granted lt key op⟩
  case restep =>
    intro key once low high
    exact request_applied granted key (by decide) (by decide) (by decide) ((if_pos once).trans (if_pos ⟨low, high⟩))

/-- Settles O32: each subindex comes to its own branch of the writes of the system; `REQUEST` by the mode it spells. -/
theorem writesOfTheSystemTakeEffect : Obligations.WritesOfTheSystemTakeEffect := by
  intro s t rq x granted q r k n u
  refine ⟨?secret, fun key => ?save, fun key => ?load, fun key => ?request, fun key => ?swap, fun key => ?confirm,
    fun key => ?verify, fun key => ?trim⟩
  case secret =>
    intro i lt key
    interval_cases i <;> exact request_applied granted key (by decide) (by decide) (by decide) rfl
  case save => exact request_applied granted key (by decide) (by decide) (by decide) rfl
  case load => exact request_applied granted key (by decide) (by decide) (by decide) rfl
  case request =>
    intro asked done
    have mode (c : Nat) (asks : asked c) : s.request (asksMode c) t rq = done c := request_mode granted key asks.1 asks.2
    exact ⟨mode 0, mode 1, mode 2, mode 3, mode 4, mode 5, mode 6⟩
  case swap => exact request_applied granted key (by decide) (by decide) (by decide) rfl
  case confirm => exact request_applied granted key (by decide) (by decide) (by decide) rfl
  case verify => exact request_applied granted key (by decide) (by decide) (by decide) rfl
  case trim => exact request_applied granted key (by decide) (by decide) (by decide) rfl

end Sys2Proof
end

section
/-! PROOFS. Requests for a mode that no request reaches (R452, Table 17-2). -/
namespace Sys2Proof

open Sys2Proof.Machine Sys2Proof.Laws

section Refused

variable {u : State} {q : Request} {x : Session} {c : Nat}

/-- R452: why a request for BOOT or SAFE-HOLD from another mode is refused. -/
def unreachableCode (u : State) (role : Nat) : Nat :=
  if role = 1 then 0x02001101 else if u.regN o2001.PHASE ≠ 0 then 0x06001105 else 0x05001101

/-- A request for BOOT or SAFE-HOLD from another mode fails the check of R452. -/
theorem requestCheck_unreachable (closed : c = 0 ∨ c = 7) (other : u.mode ≠ c) (role : Nat) :
    u.requestCheck c role = unreachableCode u role := by
  unfold State.requestCheck unreachableCode
  rw [if_neg (by omega), if_neg (Ne.symm other)]
  by_cases operator : role = 1
  · rw [if_pos operator, if_pos ⟨operator, by omega⟩]
  · rw [if_neg operator, if_neg (fun h => operator h.1), if_neg (show c ≠ 3 by omega),
      if_pos (closed.elim Or.inl (Or.inr ∘ Or.inl))]

/-- Such a request is always refused. -/
theorem unreachableCode_ne_zero (u : State) (role : Nat) : unreachableCode u role ≠ 0 := by
  unfold unreachableCode
  split_ifs <;> decide

/-- A whole value of `REQUEST` whose mode the check of R452 refuses shows the code in `LAST_ABORT`. -/
theorem writeWhole_mode_refused {r : Req} {type code : Nat} {o : Octets} {withType timeout : Bool} (key : r.key = o2000.REQUEST)
    (fits : u.check5 2 r.key o x.role x.path = 0) (value : u.check6 r.key type o withType u.reg = 0)
    (refuses : u.requestCheck (valueOf r.key o).toNat x.role = code) (nonzero : code ≠ 0) :
    u.writeWhole q r x type o withType timeout = (u.setRegN o2000.LAST_ABORT code).refuse q r x code := by
  have first (rest : List Nat) : firstCode (u.check5 2 r.key o x.role x.path :: u.check6 r.key type o withType u.reg ::
      (if decide (r.key = o2000.REQUEST) then u.requestCheck (valueOf r.key o).toNat x.role else 0) :: rest) = code := by
    rw [firstCode_cons fits, firstCode_cons value, if_pos (decide_eq_true key), refuses, firstCode_first nonzero]
  unfold State.writeWhole
  dsimp only
  rw [first, if_pos nonzero]
  unfold State.showRefusal
  rw [if_pos key]

/-- A WRITE whose mode the check of R452 refuses. -/
theorem served_mode_refused {code : Nat} (write : (readFrame q.frame).op = 2) (key : (readFrame q.frame).key = o2000.REQUEST)
    (allowed : check4 x.role (readFrame q.frame).key 2 = 0)
    (fits : u.check5 2 (readFrame q.frame).key (valueOctetsOf q) x.role x.path = 0)
    (value : u.check6 (readFrame q.frame).key (bits ((readFrame q.frame).word 0) 39 24) (valueOctetsOf q) true u.reg = 0)
    (refuses : u.requestCheck (valueIn q).toNat x.role = code) (nonzero : code ≠ 0) :
    served u ImageCheck.none false q x =
      (u.setRegN o2000.LAST_ABORT code).refuse q (readFrame q.frame) x code := by
  have known : check3 (readFrame q.frame).key = 0 := by
    rw [key]
    decide
  simp only [served, write]
  unfold State.serveWrite
  refine (if_neg (not_not_intro (firstCode_three known allowed fits))).trans ?_
  exact (if_neg (by rw [key]; decide)).trans (writeWhole_mode_refused key fits value refuses nonzero)

end Refused

/-- Settles O33: neither BOOT nor SAFE-HOLD stands in Table 17-2 as the end of a transition. -/
theorem bootAndSafeHoldRequestsAreRefused : Obligations.BootAndSafeHoldRequestsAreRefused := by
  intro s t rq x admitted q r k n u write key allowed fits value other code refused
  have refuses (c : Nat) (closed : c = 0 ∨ c = 7) (octet : (r.body.drop 8).head? = some (BitVec.ofNat 8 c)) (asks : n = c) :
      s.request (asksMode c) t rq = refused := by
    have asked : asksMode c r = true := by
      simp [asksMode, writesKey, write, show r.key = o2000.REQUEST from key, octet]
    have check : u.requestCheck n x.role = code := by
      rw [asks]
      exact requestCheck_unreachable closed (asks ▸ other) x.role
    rw [request_admitted admitted asked, served_mode_refused write key allowed fits value check (unreachableCode_ne_zero u x.role)]
  exact ⟨refuses 0 (Or.inl rfl), refuses 7 (Or.inr rfl)⟩

end Sys2Proof
end

section
/-! PROOFS. The ends of saves, modes, transfers and swaps, and the stages of a commit. -/
namespace Sys2Proof

open Sys2Proof.Machine Sys2Proof.Laws

/-! ### Chapters 16 and 17: stored configuration, modes and firmware -/

/-- A segment of an image comes to WRITE_BLOCK with what the chip's check of the image finds (R465). -/
theorem imageTransfer_serves {s : State} {t : Nat} {rq : Request} {x : Session} {image : ImageCheck} {v : State}
    (admitted : Admitted s t rq x) (op : (readFrame (heard (s.tick t) rq).frame).op = 4)
    (key : (readFrame (heard (s.tick t) rq).frame).key = o7E01.IMAGE)
    (effect : (serving s t rq x).serveWriteBlock (heard (s.tick t) rq) (readFrame (heard (s.tick t) rq).frame) x image false =
      v) :
    execImageTransfer t rq image s = outcome s t rq v := by
  have reaches : Reaches s t rq := admitted.1
  have wants : ((readFrame (heard (s.tick t) rq).frame).check1 (heard (s.tick t) rq) == 0 &&
      (readFrame (heard (s.tick t) rq).frame).op == 4 && (readFrame (heard (s.tick t) rq).frame).key == o7E01.IMAGE) = true := by
    simp only [Bool.and_eq_true, beq_iff_eq]
    exact ⟨⟨reaches.2.2.2, op⟩, key⟩
  unfold execImageTransfer
  rw [run_awake reaches.1, byPath_comes reaches.2.1 wants, arrive_reaches reaches, serve_admitted admitted]
  simp only [served, op, effect]
  rfl

/-- Settles O34: each event meets the condition of its rule; a segment of an image comes to WRITE_BLOCK. -/
theorem modeAndFirmwareEventsTakeEffect : Obligations.ModeAndFirmwareEventsTakeEffect := by
  intro s t
  refine ⟨?saves, ?fill, ?drain, ?proof, ?swap, ?confirm, ?image⟩
  case saves =>
    intro vs awake saving ended
    refine ⟨?_, ?_⟩
    all_goals
      show execConfigSaveDone t _ s = _
      refine run_effect awake ?_
      rw [show (s.tick t).modes.saving = some vs from saving]
      rfl
  case fill =>
    intro alive filled phase
    show execFillDone t s = _
    exact runOn_effect alive ((if_pos filled).trans (if_pos phase))
  case drain =>
    intro alive phase passed
    show execDrainDone t s = _
    exact runOn_effect alive (if_pos ⟨phase, passed⟩)
  case proof =>
    intro alive mode noPages passed
    show execProofRunEnd t s = _
    exact runOn_effect alive (if_pos ⟨mode, noPages, passed⟩)
  case swap =>
    intro alive state pairs
    have ended : (s.tick t).regN o7E02.SWAP_STATE = 1 ∧ (s.tick t).modes.swapPairs.isEmpty = true :=
      ⟨state, List.isEmpty_iff.2 pairs⟩
    refine ⟨fun forth => ?_, fun back => ?_⟩
    · show execSwapRestarted t s = _
      exact runOn_effect alive ((if_pos ended).trans (if_neg (by simpa using forth)))
    · show execSwapRestarted t s = _
      exact runOn_effect alive ((if_pos ended).trans (if_pos back))
  case confirm =>
    intro alive state due
    show execSwapConfirmTimeout t s = _
    exact runOn_effect alive (if_pos ⟨state, due⟩)
  case image =>
    intro rq x check row admitted q r u off total data op key allowed fits row_eq room
    have known : check3 r.key = 0 := check3_of_rowOf row_eq
    refine ⟨fun start accepted more least short => ?_,
      fun y further begun same sum next accepted last inside reaches rest => ?_⟩
    · exact imageTransfer_serves admitted op key
        ((serveWriteBlock_first known allowed fits row_eq room (fun _ => accepted) start more least short).trans
          (congrArg (fun v => State.accept v q r x none 0 [] false) (if_pos key)))
    · exact imageTransfer_serves admitted op key
        ((serveWriteBlock_last known allowed fits row_eq room (fun _ => accepted) further begun same sum next last inside
          reaches rest).trans (if_pos key))

end Sys2Proof
end

section
/-! PROOFS. The stages of a commit (R181, R458 to R464). -/
namespace Sys2Proof

open Sys2Proof.Machine Sys2Proof.Laws

section Stages

variable {s : State} {c : Commit} (inProgress : s.modes.commit = some c)
include inProgress

/-- R461: an acknowledgement while the entries are staged is noted, and then the commit may settle. -/
theorem acknowledge_staging (stage : c.stage = .staging) (who : Nat) :
    s.acknowledge who = (s.setCommit (some { c with waiting := c.waiting.filter fun p => p != who })).checkSettled := by
  unfold State.acknowledge
  rw [inProgress]
  exact if_pos stage

/-- R461: at the deadline a commit that is still staged is abandoned while the press prints. -/
theorem tideDeadline_abandons (stage : c.stage = .staging) (printing : s.printing = true) (due : c.line - 256 ≤ s.firingLine) :
    s.tideDeadline = s.abandon 1 := by
  unfold State.tideDeadline
  rw [inProgress]
  exact if_pos ⟨stage, printing, due⟩

/-- R461: a commit that stays staged for `TIDE_TIMEOUT_MS` is abandoned. -/
theorem tideTimeout_abandons (stage : c.stage = .staging)
    (due : c.since + s.regN o2002.TIDE_TIMEOUT_MS * 1000000 ≤ s.now) : s.tideTimeout = s.abandon 2 := by
  unfold State.tideTimeout
  rw [inProgress]
  exact if_pos ⟨stage, due⟩

/-- R462: a settled commit comes into force at its line. -/
theorem tideReached_comesIntoForce (stage : c.stage = .settled) (reached : c.line ≤ s.firingLine) :
    s.tideReached =
      ((s.setRegN o2002.TIDE_STATE 4).setCommit (some { c with stage := .retiring })).comeIntoForce c := by
  unfold State.tideReached
  rw [inProgress]
  exact if_pos ⟨stage, reached⟩

/-- R464: the older generation is retired once the last line composed with it has fired. -/
theorem tideRetire_retires (stage : c.stage = .retiring)
    (passed : c.line + s.regN o3000.LARGEST_DELAY < s.firingLine) : s.tideRetire = s.retire := by
  unfold State.tideRetire
  rw [inProgress]
  exact if_pos ⟨stage, passed⟩

end Stages

section Settling

variable {s : State} {c : Commit} (staging : c.stage = .staging) (inProgress : s.modes.commit = some c)
include staging inProgress

/-- A commit for which others than a shadowing polder S wait stays staged (R458). -/
theorem checkSettled_waits (left : c.waiting ≠ []) (others : ¬(c.waiting = [16] ∧ s.spareState = 1)) :
    s.checkSettled = s := by
  unfold State.checkSettled
  rw [inProgress]
  dsimp only
  rw [if_neg (not_not_intro staging), if_neg (fun none_ => left (List.isEmpty_iff.1 none_)), if_neg others]

/-- A commit for which only a shadowing polder S has still to acknowledge settles without it (R458). -/
theorem checkSettled_spare (left : c.waiting = [16]) (spare : s.spareState = 1) :
    s.checkSettled = s.spareLeaves.settle c := by
  unfold State.checkSettled
  rw [inProgress]
  dsimp only
  rw [if_neg (not_not_intro staging), if_neg (by rw [left]; decide), if_pos ⟨left, spare⟩]

/-- A commit that everybody has acknowledged settles (R461). -/
theorem checkSettled_settles (left : c.waiting = []) : s.checkSettled = s.settle c := by
  unfold State.checkSettled
  rw [inProgress]
  dsimp only
  rw [if_neg (not_not_intro staging), if_pos (List.isEmpty_iff.2 left)]

end Settling

/-- Settles O35: each event finds the commit in the stage of its rule. -/
theorem tideEventsTakeEffect : Obligations.TideEventsTakeEffect := by
  intro s t c alive inProgress
  refine ⟨?ack, fun stage printing due => ?deadline, fun stage due => ?timeout, fun stage reached => ?line,
    fun stage passed => ?retire⟩
  case ack =>
    intro who stage left noted
    have acknowledged {v : State} (settles : noted.checkSettled = v) : execTideAck t who s = .next (v.sealed s t) :=
      runOn_effect alive ((acknowledge_staging (s := s.tick t) inProgress stage who).trans settles)
    exact ⟨fun waits others => acknowledged (checkSettled_waits (c := { c with waiting := left }) stage rfl waits others),
      fun alone spare => acknowledged (checkSettled_spare (c := { c with waiting := left }) stage rfl alone spare),
      fun none_ => acknowledged (checkSettled_settles (c := { c with waiting := left }) stage rfl none_)⟩
  case deadline =>
    show execTideDeadline t s = _
    exact runOn_effect alive (tideDeadline_abandons (s := s.tick t) inProgress stage printing due)
  case timeout =>
    show execTideTimeout t s = _
    exact runOn_effect alive (tideTimeout_abandons (s := s.tick t) inProgress stage due)
  case line =>
    show execTideLineReached t s = _
    exact runOn_effect alive (tideReached_comesIntoForce (s := s.tick t) inProgress stage reached)
  case retire =>
    show execGenerationRetire t s = _
    exact runOn_effect alive (tideRetire_retires (s := s.tick t) inProgress stage passed)

end Sys2Proof
end

section
/-! PROOFS. What the commands of the host window do: CLEAR, mailboxes, ring indexes, locks and the journal (R472 to R495). -/
namespace Sys2Proof

open Sys2Proof.Machine Sys2Proof.Laws

section Window

variable {s : State} {t m ch r v : Nat}

/-- A post leaves the bound receiver of its channel. -/
theorem noticePosted_mbReceiver : (noticePosted s m ch v).mbReceiver ch = s.mbReceiver ch := by
  unfold State.mbReceiver State.regN
  rw [show (noticePosted s m ch v).reg (o7400.BINDING + ch) = s.reg (o7400.BINDING + ch) from
    reg_setReg_other (by unfold o7400.BINDING o7400.MB_STATUS; omega)]

/-- A notice that is no orphan is taken without a count. -/
theorem noticeTaken_bound (bound : bit (s.mbStatus ch) 50 = false) :
    noticeTaken s ch =
      { s.setRegN (o7400.MB_STATUS + ch) (setBit (setBit (s.mbStatus ch) 51 false) 50 false) with
        events := { s.events with notices := s.events.notices.filter fun p => p.1 != ch } } := by
  unfold noticeTaken
  simp only [bound, Bool.false_eq_true, if_false]
  rfl

/-- R489, R492: the producer of a ring moves its head, and a ring of the host that was empty rings its doorbell. -/
theorem writeHead_moves (producer : m = ringProducer r) (room : (v % 2 ^ 32 + (2 ^ 32 - s.ringTail r)) % 2 ^ 32 ≤ ringSlots r) :
    s.writeHead m r v =
      (0, if ringConsumer r = 1 ∧ decide (s.ringEntries r = 0) ∧
          State.ringEntries { s with events := { s.events with heads := s.events.heads.set r (v % 2 ^ 32) } } r ≠ 0 then
          State.raise { s with events := { s.events with heads := s.events.heads.set r (v % 2 ^ 32) } } 118 r 0 23
        else { s with events := { s.events with heads := s.events.heads.set r (v % 2 ^ 32) } }) := by
  unfold State.writeHead
  dsimp only
  rw [if_neg (not_not_intro producer), if_neg (Nat.not_lt.2 room)]

/-- A ring's indexes once its consumer has moved its tail; timestamps that wait then follow on ring 10 (R382, R492). -/
def tailMoved (s : State) (r v : Nat) : State :=
  let moved : State := { s with events := { s.events with tails := s.events.tails.set r (v % 2 ^ 32) } }
  if r = 10 then State.drainStamps s.time.txQueue moved else moved

/-- R489, R492: the consumer of a ring moves its tail, and a ring of the host that still holds something rings its doorbell. -/
theorem writeTail_moves (consumer : m = ringConsumer r)
    (held : (v % 2 ^ 32 + (2 ^ 32 - s.ringTail r)) % 2 ^ 32 ≤ s.ringEntries r) :
    s.writeTail m r v =
      (0, if m = 1 ∧ (tailMoved s r v).ringEntries r ≠ 0 then (tailMoved s r v).raise 118 r 0 23 else tailMoved s r v) := by
  unfold State.writeTail
  dsimp only
  rw [if_neg (not_not_intro consumer), if_neg (Nat.not_lt.2 held), ← consumer]
  rfl

section Access

variable (alive : Alive s) (not2 : m ≠ 2) {u : State}
include alive not2

/-- A write of CLEAR clears flags (R472). -/
theorem exec_clearWrite {w met : Nat} (lt : w < 2) :
    exec (.clearWrite t m w v met) s = .next (((State.clearFlags (s.tick t) w v met).answerTo m 0 0).sealed s t) := by
  show execClearWrite t m w v met s = _
  rw [execClearWrite, runOn_alive alive]
  simp only [State.access, if_neg not2, if_pos lt]

/-- A head that its ring takes is answered with no abort code. -/
theorem exec_ringHeadWrite (lt : r < 16) (writes : (s.tick t).writeHead m r v = (0, u)) :
    exec (.ringHeadWrite t m r v) s = .next ((u.answerTo m 0 0).sealed s t) := by
  show execRingHeadWrite t m r v s = _
  rw [execRingHeadWrite, runOn_alive alive]
  simp only [State.access, if_neg not2, if_pos lt, writes]

/-- A tail that its ring takes is answered with no abort code. -/
theorem exec_ringTailWrite (lt : r < 16) (writes : (s.tick t).writeTail m r v = (0, u)) :
    exec (.ringTailWrite t m r v) s = .next ((u.answerTo m 0 0).sealed s t) := by
  show execRingTailWrite t m r v s = _
  rw [execRingTailWrite, runOn_alive alive]
  simp only [State.access, if_neg not2, if_pos lt, writes]

end Access
end Window

/-- Settles O36: each command comes through the host window to its rule. -/
theorem hostWindowCommandsTakeEffect : Obligations.HostWindowCommandsTakeEffect := by
  intro s t m alive not2
  refine ⟨fun w v met lt => exec_clearWrite alive not2 lt, ?post, ?take, ?head, ?tail, ?lock, ?journal⟩
  case post =>
    intro ch v lt sender low high empty posts marked events posted
    have receiver : posted.mbReceiver ch = s.mbReceiver ch := noticePosted_mbReceiver (s := s.tick t) (m := m)
    rw [receiver]
    exact exec_mbNoticePost_empty alive lt sender not2 low high empty
  case take =>
    intro ch lt receiver full bound emptied taken more
    have takes := exec_mbNoticeTake_full (t := t) alive lt receiver not2 full
    rw [show noticeTaken (s.tick t) ch = taken from noticeTaken_bound (s := s.tick t) bound] at takes
    refine ⟨fun unpaired => ?_, fun p paired => ?_⟩
    · rw [takes, interruptEnds, unpaired]
    · rw [takes, interruptEnds, paired]
  case head =>
    intro r v lt producer room moved
    exact exec_ringHeadWrite alive not2 lt (writeHead_moves (s := s.tick t) producer room)
  case tail =>
    intro r v lt consumer held there moved
    exact exec_ringTailWrite alive not2 lt (writeTail_moves (s := s.tick t) consumer held)
  case lock =>
    intro l lt
    exact ⟨fun free => exec_lockRead_free alive not2 lt free, fun o held => exec_lockRead_held alive not2 lt held,
      fun held => exec_lockWrite_owner alive not2 lt held, fun other => exec_lockWrite_other alive not2 lt other⟩
  case journal =>
    intro island
    show execJournalFlashWrite t true s = _
    exact run_effect alive.1 (if_pos ⟨rfl, island⟩)

end Sys2Proof
end

section
/-! PROOFS. Sags, saves, rails, junctions, calibration, reset and start-up (R457, R500 to R522). -/
namespace Sys2Proof

open Sys2Proof.Machine Sys2Proof.Laws

/-! ### Supply and hold-up -/

section Power

variable {s : State} {mv ns : Nat}

/-- R500 to R502: a supply below its threshold for 1 us is a sag where its source is watched. -/
theorem sags_watched {src : Nat} (long : 1000 ≤ ns)
    (watched : src = 0 ∧ bit (s.regN o7C00.SAG_SOURCES) 0 = true ∧ mv < s.regN o7C00.VBUS_THRESHOLD_MV ∨
      src = 15 ∧ bit (s.regN o7C00.SAG_SOURCES) 1 = true) : s.sags src mv ns = true := by
  unfold State.sags
  rcases watched with ⟨rfl, on, low⟩ | ⟨rfl, on⟩
  · simp [long, on, low]
  · simp [long, on]

/-- R506, R509: the end of a save writes its slot, and the chip then holds. -/
theorem saveDone_writes {ok : Bool} {r : SaveRecord} (mode : s.mode = 7) (pending : s.power.pending = true)
    (saving : s.power.saving = some r) :
    s.saveDone ok =
      { s.emit (.saved r.octets) with
        flash := { s.flash with slots := writeSlot r ok s.flash.slots, saves := r.count },
        power := { s.power with saving := none, pending := false,
                                holding := if s.regN o2001.CAUSE = 6 then .afterSag else .afterFault } } := by
  unfold State.saveDone
  rw [if_pos ⟨mode, pending⟩, saving]
  rfl

/-- A save during which no reset came ends with the save. -/
theorem holdupDone_saves {ok : Bool} (noReset : s.power.resetLater = false) : s.holdupDone ok = s.saveDone ok := by
  unfold State.holdupDone
  exact if_neg (by simp [noReset])

/-- R510: a chip that a sag has stopped restarts once the supply has been back for `RESTART_MS`. -/
theorem restarts_after (mode : s.mode = 7) (sag : s.regN o2001.CAUSE = 6) (holding : s.power.holding = .afterSag)
    (auto : s.flag o7C00.AUTO_RESTART = true) (high : s.regN o7C00.VBUS_RESTART_MV ≤ mv)
    (long : s.regN o7C00.RESTART_MS * 1000000 ≤ ns) : s.restarts mv ns = true := by
  simp only [State.restarts, mode, sag, holding, auto, high, long]
  decide

end Power

/-! ### Junction temperature and calibration -/

section Junction

variable {s : State} {hi temp g : Int}

/-- The junction figures once the sensors have been read (R515). -/
def junctionSeen (s : State) (hi temp : Int) : State :=
  let seen := (s.setReg o7C01.JUNCTION_MAX hi).setReg o7800.JUNCTION_MEAN temp
  if seen.reg o7C01.JUNCTION_PEAK < hi then seen.setReg o7C01.JUNCTION_PEAK hi else seen

/-- Reading the sensors leaves the temperature of the present generation. -/
theorem junctionSeen_power : (junctionSeen s hi temp).power = s.power := by
  unfold junctionSeen
  dsimp only
  split <;> rfl

/-- Below 110 degrees the chip is no longer hot (R516). -/
def junctionJudged (s : State) (hi temp : Int) : State :=
  let seen := junctionSeen s hi temp
  if hi < 1100 then { seen with power := { seen.power with hot := false } } else seen

/-- Judging the heat leaves the temperature of the present generation. -/
theorem junctionJudged_genTemp : (junctionJudged s hi temp).power.genTemp = s.power.genTemp := by
  unfold junctionJudged
  dsimp only
  split
  · exact congrArg (·.genTemp) junctionSeen_power
  · exact congrArg (·.genTemp) junctionSeen_power

/-- The mean of the junction sensors (R515). -/
def junctionMean (sensors : List Int) : Int := clamp (-400) 1150 (divOpen 5151 (sensors.foldl (· + ·) 0) sensors.length)

/-- R515, R518: up to 115 degrees a reading is shown, and begins a new generation once it has moved by 1 degree. -/
theorem junctionRead_shows {t : Nat} {x : Int} {rest : List Int} (awake : Awake s) (known : s.power.genTemp = some g)
    (cool : rest.foldl max x ≤ 1150) :
    execJunctionRead t (x :: rest) s = .next
      ((if 10 ≤ (junctionMean (x :: rest) - g).natAbs then
          (junctionJudged (s.tick t) (rest.foldl max x) (junctionMean (x :: rest))).newGeneration (junctionMean (x :: rest))
        else junctionJudged (s.tick t) (rest.foldl max x) (junctionMean (x :: rest))).sealed s t) := by
  have judged := (junctionJudged_genTemp (s := s.tick t) (hi := rest.foldl max x) (temp := junctionMean (x :: rest))).trans
    (show (s.tick t).power.genTemp = some g from known)
  have noAlarm (p : Prop) : ¬(1150 < rest.foldl max x ∧ p) := fun h => Int.not_lt.2 cool h.1
  unfold junctionJudged junctionSeen junctionMean at judged
  unfold execJunctionRead junctionJudged junctionSeen junctionMean
  rw [run_awake awake]
  dsimp only at judged ⊢
  simp only [show (s.tick t).power.genTemp = some g from known, Option.isNone_some, Bool.false_eq_true, false_or]
  rw [if_neg (noAlarm _), judged]

end Junction

section Calibration

variable {s : State} {t item : Nat} {deltas spreads : List Int}

/-- R518: the deviation of a verify run, shown. -/
def verifyShown (s : State) (deltas : List Int) : State :=
  State.setReg { s with power := { s.power with verifyItem := none } } o7801.VERIFY_DEVIATION (divNear (worst deltas) 1000)

/-- R518: a verify run that finds an item too far off, or too wide, fails it. -/
theorem calVerifyDone_fails (alive : Alive s) (verifying : s.power.verifyItem = some item)
    (bad : (decide (1000000 < (worst deltas).natAbs) || spreads.any fun d => decide (250000 < d)) = true) :
    execCalVerifyDone t deltas spreads s = .next
      ((((((verifyShown (s.tick t) deltas).setRegN o7801.VERIFY_STATE 3).setRegN o7801.VERIFY_QUALITY 0).setRegN
        o7801.VERIFY_REASON ((if decide (1000000 < (worst deltas).natAbs) then 1 else 0) +
          if spreads.any fun d => decide (250000 < d) then 2 else 0)).raise 124 (verifyShown (s.tick t) deltas).nearestSet 0 23
        true).sealed s t) := by
  unfold execCalVerifyDone
  rw [runOn_alive alive, show (s.tick t).power.verifyItem = some item from verifying]
  dsimp only
  rw [if_pos bad]
  rfl

/-- R518: the quality of an item that a verify run finds good. -/
def verifyQuality (deltas : List Int) : Nat := 255 * (1000000 - (worst deltas).natAbs) / 1000000

/-- R518: an item rated by a verify run. -/
def verifyRated (s : State) (item : Nat) (deltas : List Int) : State :=
  let shown := verifyShown s deltas
  { shown with flash := { shown.flash with quality := shown.flash.quality.set item (verifyQuality deltas) } }

/-- R518: a verify run that finds an item good rates and trims it. -/
theorem calVerifyDone_passes (alive : Alive s) (verifying : s.power.verifyItem = some item)
    (good : (decide (1000000 < (worst deltas).natAbs) || spreads.any fun d => decide (250000 < d)) = false) :
    execCalVerifyDone t deltas spreads s = .next
      ((((((((verifyRated (s.tick t) item deltas).setRegN (o7800.ITEM_QUALITY + item) (verifyQuality deltas)).setTrim item
        (some deltas)).setRegN o7801.VERIFY_STATE 2).setRegN o7801.VERIFY_QUALITY (verifyQuality deltas)).setRegN
        o7801.VERIFY_REASON 0).raise 124 (verifyShown (s.tick t) deltas).nearestSet 0 23).sealed s t) := by
  unfold execCalVerifyDone
  rw [runOn_alive alive, show (s.tick t).power.verifyItem = some item from verifying]
  dsimp only
  rw [if_neg (by rw [good]; decide)]
  rfl

end Calibration

/-- R522: a RESET_N that stays low for 1 us resets the chip. -/
theorem resetAsserted_long {low : Nat} (s : State) (long : 1000 ≤ low) :
    s.resetAsserted low = if s.power.pending then { s with power := { s.power with resetLater := true, bootLater := none } }
      else s.resetState := by
  unfold State.resetAsserted
  dsimp only
  rw [if_neg (by simp [long])]

section StartUp

variable {s u : State} {report : StartupReport}

/-- R457: a chip that enters CAPPED with the image that it fell back to raises source 114. -/
def fallbackNoted (capped : State) : State :=
  match capped.modes.fellBack with
  | some i => capped.raise 114 i 1 23
  | none => capped

/-- Table 17-4, step 8: a chip that its training has left in BOOT enters CAPPED. -/
def intoCapped (u : State) : State :=
  (u.armMotionCycle.setRegN o2001.BOOT_MS ((u.now - u.sys.releasedAt) / 1000000)).setMode 1 2 { kind := 3, master := 3 }

/-- R457: a start-up whose memory fits and whose self-tests pass ends in CAPPED. -/
theorem startUpDone_enters (mode : s.mode = 0) (loader : s.modes.loader = false) (fitted : s.sizeGib ≠ 0)
    (passed : report.failed = [])
    (trained : ((((s.setRegN o4403.CHANNELS 3).refreshBuffers 0).refreshBuffers 1).judgeBoth).trained report.train = u)
    (stays : u.mode = 0) :
    s.startUpDone report =
      if (fallbackNoted (intoCapped u)).modes.restored then (fallbackNoted (intoCapped u)).raise 10 0 0 23
      else fallbackNoted (intoCapped u) := by
  have starts : ¬(s.mode ≠ 0 ∨ s.modes.loader = true) := by
    rintro (other | only)
    · exact other mode
    · exact absurd (loader.symm.trans only) (by decide)
  unfold State.startUpDone fallbackNoted intoCapped
  dsimp only
  rw [if_neg starts, if_neg fitted, passed]
  simp only [List.filter_nil, List.foldl_nil, List.contains_nil, Bool.false_eq_true, if_false, trained]
  refine (if_neg (not_not_intro stays)).trans ?_
  generalize State.setMode _ 1 2 _ = entered
  cases entered.modes.fellBack <;> rfl

end StartUp

/-- Settles O37: each command meets the condition of its rule; a sag or a reset during a save waits for its end. -/
theorem powerAndResetCommandsTakeEffect : Obligations.PowerAndResetCommandsTakeEffect := by
  intro s t awake
  refine ⟨?sag, ?save, ?restart, ?rails, ?junction, ?verify, ?reset, ?start⟩
  case sag =>
    intro src mv ns long watched
    show execSupplySag t src mv ns s = _
    exact run_effect awake (if_pos (sags_watched (s := s.tick t) long watched))
  case save =>
    intro ok r mode pending noReset saving
    show execHoldupSaveDone t ok s = _
    exact run_effect awake
      ((holdupDone_saves (s := s.tick t) noReset).trans (saveDone_writes (s := s.tick t) mode pending saving))
  case restart =>
    intro boot mv ns mode sag holding auto high long
    show execSagRestart t boot mv ns s = _
    exact run_effect awake (if_pos (restarts_after (s := s.tick t) mode sag holding auto high long))
  case rails =>
    intro rails bus
    show execRailSample t rails bus s = _
    exact run_awake awake
  case junction =>
    intro x rest g known hi temp seen peaked cooled
    refine ⟨fun warm cool => ?_, fun cold => ?_⟩
    · refine (junctionRead_shows awake known cool).trans ?_
      rw [show junctionJudged (s.tick t) (rest.foldl max x) (junctionMean (x :: rest)) = peaked from
        if_neg (Int.not_lt.2 warm)]
      rfl
    · refine (junctionRead_shows awake known (by omega)).trans ?_
      rw [show junctionJudged (s.tick t) (rest.foldl max x) (junctionMean (x :: rest)) = cooled from if_pos cold]
      rfl
  case verify =>
    intro deltas spreads item mode verifying begun w shown far wide
    exact ⟨fun bad => calVerifyDone_fails ⟨awake, mode⟩ verifying bad,
      fun good => calVerifyDone_passes ⟨awake, mode⟩ verifying good⟩
  case reset =>
    intro low long
    refine ⟨fun idle => ?_, fun saving => ?_⟩
    · show execResetAssert t low s = _
      exact run_effect awake ((resetAsserted_long _ long).trans (if_neg (by simpa using idle)))
    · show execResetAssert t low s = _
      exact run_effect awake ((resetAsserted_long _ long).trans (if_pos saving))
  case start =>
    intro report mode loader fitted passed found trained stays armed capped noted
    show execStartupComplete t report s = _
    refine run_effect awake ?_
    have notes : fallbackNoted capped = noted := by
      simp only [noted]
      clear_value capped
      unfold fallbackNoted
      cases capped.modes.fellBack <;> rfl
    rw [← notes, show capped = intoCapped trained from rfl]
    exact startUpDone_enters (s := s.tick t) (u := trained) mode loader fitted passed rfl stays

end Sys2Proof
end
